-- ==== Sys2Proof/Word.lean ====
section
/-! DEFINITION. The words of the cabin ring: message words, slot samples, node numbers (spec 01, 02). -/

namespace Sys2Proof

/-- A 32-bit word of the command or reply field (spec 01, 1.1). -/
abbrev Word := BitVec 32

/-- A 24-bit slot sample as it stands in a frame (spec 01, 1.1). -/
abbrev SlotWord := BitVec 24

/-- A node number: a destination, an origin, a panel node or a position (spec 02, HEAD word). -/
abbrev Node := BitVec 4

/-- A complex baseband sample, real part I and imaginary part Q, exact (R129). -/
abbrev Complex24 := Int × Int

end Sys2Proof
end

