-- ==== Sys2Proof/Config.lean ====
section
/-! DEFINITION. What the spec leaves open, as constants without a body: the methods whose arithmetic the manual does
not give (spec 00, Scope), and the orders it leaves to the part (R31, R188). No proof can see their values. -/

namespace Sys2Proof.Config

/-- The angle through which the combined baseband turns from one sample to the next, in the demodulator's own
scale (R149; its arithmetic is out of the manual's scope). Log entry 8. -/
opaque demodAngle : Complex24 → Complex24 → Int

/-- The stereo decoder's filter history after the four multiplex samples of a frame (R149, R150). Log entry 8. -/
opaque decoderNext : List Int → List Int → List Int

/-- The mono sample m that the decoder forms from its history (R150), before it is held to the sample range. The 16
frames by which the decoder delays the source come after it. Log entry 8. -/
opaque decodedMono : List Int → Int

/-- The difference sample s that the decoder forms from its history (R150), before it is held to the sample range. Log entry 8. -/
opaque decodedDifference : List Int → Int

/-- The high-cut filter's history after one sample, for a high-cut setting (R150). Log entry 9. -/
opaque highCutNext : Nat → List Int → Int → List Int

/-- The high-cut filter's output sample, for a high-cut setting (R150), before it is saturated. Log entry 9. -/
opaque highCutOut : Nat → List Int → Int

/-- Whether the pilot level of a block is at or above the threshold, from the block's multiplex (R151); the first
argument is the draw number, so that every block is free. Log entry 10. -/
opaque pilotAtThreshold : Nat → List Int → Bool

/-- The output of one adaptive filter, from its 6,144 coefficients and the last 6,144 samples of its own reference,
newest first (R183), when the coefficients are not all zero. Log entry 11. -/
opaque echoOutput : List Int → List Int → Int

/-- The coefficients of the ten filters after a committed block update, from the coefficients, the reference histories
and the block's residuals (R186). Log entry 11. -/
opaque echoUpdate : Vector (List Int) 10 → Vector (List Int) 10 → List Int → Vector (List Int) 10

/-- Whether a notice enters an empty queue before the reply that reaches it in the same frame (R31: either may).
Log entry 6. -/
opaque noticeBeforeReply : Nat → Bool

/-- Whether a block evaluation of the uplink unit comes before a path-change event raised at the end of the same
frame (R188: either order). Log entry 7. -/
opaque evaluationBeforeEvent : Nat → Bool

/-- What the cursor fields of the STATE reply hold while no cursor is open: table number and flags (R36 does not
say). Log entry 12. -/
opaque closedCursorTable : Nat → BitVec 7

/-- What the cursor index of the STATE reply holds while no cursor is open (R36 does not say). Log entry 12. -/
opaque closedCursorIndex : Nat → BitVec 16

end Sys2Proof.Config
end

