-- ==== Sys2Proof/Syntax.lean ====
section
/-! DEFINITION. The commands of the block: one constructor of Instr for each row of spec/opcode_table.json, with what
the row's step carries (a frame, a request message, a channel, a gain point). -/

namespace Sys2Proof

/-- The type of a command or reply word (spec 01, 1.1; codes in spec 02, Word types). -/
inductive WordType where
  | idle | head | body | check
  deriving DecidableEq, Repr

/-- The reply field of a frame: word type, origin, word (spec 01, 1.1). -/
structure ReplyField where
  wtype : WordType
  origin : Node
  word : Word
  deriving DecidableEq, Repr

/-- A good frame as the link receiver delivers it, its sync intact (spec 01, 1.1). -/
structure Frame where
  /-- frame index 0..63 -/
  index : Fin 64
  /-- hop count 0..15 -/
  hop : BitVec 4
  /-- command field: word type -/
  ctype : WordType
  /-- command field: word -/
  cword : Word
  /-- reply field -/
  reply : ReplyField
  /-- slots 0..95 -/
  slots : Vector SlotWord 96
  deriving DecidableEq, Repr

/-- A bad frame as received: its bytes, of which nothing can be relied on (R1, R2). -/
abbrev RawFrame := List (BitVec 8)

/-- A request message that has been assembled and has passed R23: the HEAD's fields but for the kind and the length,
and the BODY words. -/
structure Request where
  dest : Node
  origin : Node
  tag : BitVec 8
  payload : List Word
  deriving DecidableEq, Repr

/-- The request kinds (spec 02, Kinds and request arguments). -/
inductive RequestKind where
  | state | start | stop | reset | patternEnter | patternExit
  | tableOpen | tableWrite | tableClose | tableRead
  | routeSet | zoneSet | zoneMute | zoneLock | zoneSource
  | bankActivate | protectClear | radioMode | radioTune
  | callAlert | callConnect | callHold | callResume | callMove | callEnd
  deriving DecidableEq, Repr

/-- The two peak-based protection tiers of a channel (spec 06). -/
inductive TierNo where
  | one | two
  deriving DecidableEq, Repr

/-- The 71 gain points (spec 04, 4.1). A seat zone is 0 for Z3 and 1 for Z4. -/
inductive GainId where
  | route (i : Fin 32)
  | seat (z : Fin 2)
  | feed (z : Fin 5)
  | radio
  | uplink
  | beam (b : Fin 2)
  | out (c : Fin 28)
  deriving DecidableEq, Repr

/-- The commands: one constructor per row of spec/opcode_table.json, in the table's order. -/
inductive Instr where
  | resetPin
  | goodFrame (f : Frame)
  | badFrame (raw : RawFrame)
  | missingFrame
  | linkAcquired (f : Frame)
  /-- the bad frame (its bytes) or the missing frame (none) that brings the bad run to 4 -/
  | enterLost (raw : Option RawFrame)
  | relink (f : Frame)
  | longLoss
  | messageGapTimeout
  | badKindRequest (kind : BitVec 6) (r : Request)
  | state (r : Request)
  | start (r : Request)
  | stop (r : Request)
  | reset (r : Request)
  | resetTakesEffect
  | patternEnter (r : Request)
  | patternExit (r : Request)
  | tableOpen (r : Request)
  | tableWrite (r : Request)
  | tableClose (r : Request)
  | tableRead (r : Request)
  | routeSet (r : Request)
  | zoneSet (r : Request)
  | zoneMute (r : Request)
  | zoneLock (r : Request)
  | zoneSource (r : Request)
  | claimHeld (z : Fin 2)
  | claimNone (z : Fin 2)
  | bankActivate (r : Request)
  | activationQueueServed
  | bankFadeEnd (u : Fin 4)
  | protectClear (r : Request)
  | radioMode (r : Request)
  | radioTune (r : Request)
  | callAlert (r : Request)
  | callConnect (r : Request)
  | callHold (r : Request)
  | callResume (r : Request)
  | callMove (r : Request)
  | callEnd (r : Request)
  | closingEnds
  | stoppingReachesConfig
  | noticeEntersQueue
  | messageWordSent
  | gainRampEnd (p : GainId)
  | tierTrip (c : Fin 28) (t : TierNo)
  | tierRecovered (c : Fin 28) (t : TierNo)
  | fastHoldExpiry (c : Fin 28)
  | dwellExpiry
  | pairReplacement
  | switchCrossfadeEnd
  | pilotChange
  | tuneSettleEnd
  | receptionPoor
  | receptionRecovered
  | beamCrossfadeEnd
  | nearRelaxExpiry
  | farRelaxExpiry
  | echoConverged
  | echoDiverged
  deriving DecidableEq, Repr

end Sys2Proof
end

