-- ==== Sys2Proof/Decode.lean ====
section
/-! DEFINITION. The command that a table word spells (spec/opcode_table.json gives no row any bits, so none), and the
codes of the request kinds, by which the message unit tells one request from another. -/

namespace Sys2Proof

/-- The command that a word of the opcode table's bits spells: none, since no row of the table gives bits. -/
def decodeTableWord (_nbits _w : Nat) : Option Instr := none

/-- The code of a request kind in bits 23..18 of a HEAD word (spec 02, Kinds and request arguments). -/
def requestCode : RequestKind → BitVec 6
  | .state => 0x01
  | .start => 0x02
  | .stop => 0x03
  | .reset => 0x04
  | .patternEnter => 0x05
  | .patternExit => 0x06
  | .tableOpen => 0x08
  | .tableWrite => 0x09
  | .tableClose => 0x0A
  | .tableRead => 0x0B
  | .routeSet => 0x10
  | .zoneSet => 0x11
  | .zoneMute => 0x12
  | .zoneLock => 0x13
  | .zoneSource => 0x14
  | .bankActivate => 0x18
  | .protectClear => 0x19
  | .radioMode => 0x1C
  | .radioTune => 0x1D
  | .callAlert => 0x30
  | .callConnect => 0x31
  | .callHold => 0x32
  | .callResume => 0x33
  | .callMove => 0x34
  | .callEnd => 0x35

/-- Every request kind, in the order of its code. -/
def requestKinds : List RequestKind :=
  [.state, .start, .stop, .reset, .patternEnter, .patternExit, .tableOpen, .tableWrite, .tableClose, .tableRead,
   .routeSet, .zoneSet, .zoneMute, .zoneLock, .zoneSource, .bankActivate, .protectClear, .radioMode, .radioTune,
   .callAlert, .callConnect, .callHold, .callResume, .callMove, .callEnd]

/-- The request kind a code names, if it is a request kind (R25, check 1). -/
def requestKindOf (code : BitVec 6) : Option RequestKind :=
  requestKinds.find? fun k => requestCode k == code

/-- The payload length listed for a kind; none for TABLE WRITE, which takes any (R25, check 2). -/
def requestLength : RequestKind → Option Nat
  | .patternEnter => some 5
  | .tableOpen | .tableRead => some 1
  | .tableWrite => none
  | .routeSet | .zoneSet | .zoneMute | .zoneLock | .zoneSource => some 1
  | .bankActivate | .protectClear | .radioMode => some 1
  | .radioTune => some 2
  | .callAlert | .callConnect | .callMove => some 1
  | .state | .start | .stop | .reset | .patternExit | .tableClose | .callHold | .callResume | .callEnd => some 0

end Sys2Proof
end

