-- ==== Sys2Proof/Machine/State.lean ====
section
/-! DEFINITION. The state of the PA6108, unit by unit as spec 00 lists the units, and its value after the reset pin.
Plain data. Every field cites the rule that gives it; INVENTORY.md lists them with their reset values. -/

namespace Sys2Proof.Machine

/-! ## The ring interface (spec 01) -/

/-- The link state (R5 to R8). -/
inductive LinkState where
  | acquiring | linked | lost
  deriving DecidableEq, Repr

/-- The loss timer of the local time base: stopped, running below 100 ms, or at 100 ms and beyond (R7 to R9). -/
inductive LossTimer where
  | stopped | running | reached
  deriving DecidableEq, Repr

/-- The pattern formats (R19). -/
inductive PatternFormat where
  | serial | parallel | staggered
  deriving DecidableEq, Repr

/-- The three stereo media sources that arrive in slots. -/
inductive Media where
  | a | b | c
  deriving DecidableEq, Repr

/-- The three mono sources that arrive in slots; callDown is source CALL. -/
inductive Mono where
  | prompt | chime | callDown
  deriving DecidableEq, Repr

/-- The role of a slot (spec 01, 1.5). -/
inductive Role where
  | unused
  | antI (a n : Fin 4)
  | antQ (a n : Fin 4)
  | mic (m : Fin 6)
  | srcL (s : Media)
  | srcR (s : Media)
  | srcM (s : Mono)
  | out (c : Fin 28)
  | uplink
  | amp (a : Fin 4)
  deriving DecidableEq, Repr

/-- What the transmit link carried in the last frame period (R2). -/
inductive Transmitted where
  | nothing
  | good (f : Frame)
  | bad (raw : RawFrame)
  deriving DecidableEq, Repr

/-- The ring interface. -/
structure RingUnit where
  /-- link state (R5) -/
  link : LinkState
  /-- run count of consecutive good frames (R5, R8) -/
  goodRun : Nat
  /-- run count of consecutive bad or missing frames (R6) -/
  badRun : Nat
  /-- loss timer (R7, R8, R9) -/
  lossTimer : LossTimer
  /-- whether a frame has begun since the reset pin (R1) -/
  frameSeen : Bool
  /-- position 1..15, or none (R4) -/
  position : Option Node
  /-- SLOTMAP (R13) -/
  slotMap : Vector Role 96
  /-- pattern words P0..P3 (R10, R18) -/
  pattern : Vector SlotWord 4
  /-- pattern format (R10, R18) -/
  patternFormat : PatternFormat
  /-- the transmit link (R2) -/
  transmitted : Transmitted
  /-- the reply word the part last wrote, if any (R12) -/
  replyWritten : Option ReplyField
  deriving DecidableEq, Repr

/-! ## The message unit (spec 02) -/

/-- The operating states (R32). -/
inductive OpState where
  | config | run | stopping | pattern
  deriving DecidableEq, Repr

/-- The sixteen tables, in the order of spec 02, 2.6. -/
inductive Table where
  | slotMap | channel | route | zone | curve | duck | placement | coef
  | protect | amp | beam | penalty | blend | radio | echo | ramp
  deriving DecidableEq, Repr

/-- The table cursor (R37): its table, its index and its flags; for COEF also the channel it was opened at. -/
structure Cursor where
  table : Table
  index : Nat
  chan : Fin 28
  cont : Bool
  spare : Bool
  activate : Bool
  deriving DecidableEq, Repr

/-- The message assembly (R21, R22): the HEAD, the BODY words in order, whether it is over-long, the gap count. -/
inductive Assembly where
  | empty
  | assembling (head : Word) (body : List Word) (overLong : Bool) (gap : Nat)
  | skipping (gap : Nat)
  deriving DecidableEq, Repr

/-- A message of the outgoing queue (R28): its kind, its tag, its payload words, and whether the reset takes effect
when its CHECK word has been written (R35). -/
structure OutMessage where
  kind : BitVec 6
  tag : BitVec 8
  body : List Word
  resets : Bool
  deriving DecidableEq, Repr

/-- How far a RESET request has come (R35): none taken; taken, its reply not yet sent; its CHECK word written. -/
inductive ResetPhase where
  | none | pending | due
  deriving DecidableEq, Repr

/-- The ten notice kinds (spec 00). -/
inductive NoticeKind where
  | state | link | bank | claim | protect | antenna | reception | call | echo | dropped
  deriving DecidableEq, Repr

/-- The outcome of a bank activation (R101, R105, R106). -/
inductive BankOutcome where
  | swapped | unstable | immediate
  deriving DecidableEq, Repr

/-- The sources (R43). -/
inductive Source where
  | radio | mediaA | mediaB | mediaC | prompt | chime | call
  deriving DecidableEq, Repr

/-- The events of a PROTECT notice (R122). -/
inductive ProtectEvent where
  | tier1Active | tier1Left | tier2Active | tier2Left | latched
  deriving DecidableEq, Repr

/-- The reception states (R156). -/
inductive Reception where
  | good | fair | poor
  deriving DecidableEq, Repr

/-- The causes of a CALL notice (R175 to R177). -/
inductive CallCause where
  | ended | stopped | lost
  deriving DecidableEq, Repr

/-- The echo states (R186). -/
inductive EchoState where
  | off | converging | converged
  deriving DecidableEq, Repr

/-- The details of a notice, by its kind (spec 02, Replies and notices). -/
inductive NoticeDetail where
  | state (op : OpState)
  /-- cause POSITION when `moved`, else RELINK; class LONG when `long`; the position and the previous one -/
  | link (moved long : Bool) (position previous : Option Node)
  | bank (c : Fin 28) (outcome : BankOutcome) (stage : Nat)
  /-- the seat zone, the source, and HELD (true) or NONE (false) -/
  | claim (z : Fin 2) (source : Source) (held : Bool)
  | protect (c : Fin 28) (event : ProtectEvent)
  | antenna (a : Fin 4) (present : Bool) (duration : Nat)
  | reception (state : Reception) (frequency : Nat)
  | call (cause : CallCause)
  | echo (state : EchoState)
  | dropped (tally : Nat)
  deriving DecidableEq, Repr

/-- A pending notice (R30): the details of its last occurrence, its occurrence count, its changed set. -/
structure Notice where
  detail : NoticeDetail
  count : Nat
  changed : BitVec 28
  deriving DecidableEq, Repr

/-- The message unit. -/
structure MessageUnit where
  /-- assembly (R21) -/
  assembly : Assembly
  /-- table cursor (R37) -/
  cursor : Option Cursor
  /-- outgoing queue, head first (R28) -/
  queue : List OutMessage
  /-- words of the head message already written (R29) -/
  sent : Nat
  /-- notice set, oldest first (R30) -/
  notices : List Notice
  /-- notice sequence number (R31) -/
  noticeSeq : BitVec 8
  /-- operating state (R32) -/
  op : OpState
  /-- the state PATTERN was last entered from (R18) -/
  patternFrom : OpState
  /-- broken-message counter (R23) -/
  broken : Nat
  /-- check-failure counter (R23) -/
  checkFailed : Nat
  /-- dropped-request tally (R28) -/
  dropped : Nat
  /-- reset-pending (R35) -/
  resetPhase : ResetPhase
  /-- notices that a long loss posts at relink, oldest first (R30, R107, R148, R177, R187) -/
  deferred : List NoticeDetail
  deriving DecidableEq, Repr

/-! ## Gain steps and gain points (spec 04) -/

/-- A gain setting: MUTE, or a number of gain steps (spec 04). -/
inductive Step where
  | mute
  | steps (n : Int)
  deriving DecidableEq, Repr

/-- What a ramp was started for (R67, R79, R167). -/
inductive RampCause where
  | route | ducking | suspension | claim | call | radio | beam | volume | protection | stop | start
  deriving DecidableEq, Repr

/-- A running ramp (R67, R77). -/
structure Ramp where
  from_ : Nat
  step : Int
  length : Nat
  left : Nat
  cause : RampCause
  deriving DecidableEq, Repr

/-- A gain point (R67). -/
structure GainPoint where
  step : Step
  linear : Nat
  current : Nat
  ramp : Option Ramp
  deriving DecidableEq, Repr

/-- The RAMP record (R80). -/
structure RampRecord where
  route : Nat
  volume : Nat
  attack : Nat
  release : Nat
  claim : Nat
  call : Nat
  stop : Nat
  deriving DecidableEq, Repr

/-- What a route point's target was last computed from (R51, R68): by comparing it with what stands now the gain unit
tells a suspension, a ducking change and a ROUTE SET apart. -/
structure RouteContext where
  suspended : Bool
  ducked : Bool
  placement : Fin 4
  duck : Step
  deriving DecidableEq, Repr

/-- What an output point's target was last computed from (R73, R74, R79). -/
structure OutputContext where
  disabled : Bool
  muted : Bool
  stopping : Bool
  curve : Step
  trim : Int
  reduction : Step
  deriving DecidableEq, Repr

/-- The gain unit: 71 points, CURVE, RAMP, and what the targets were last computed from. -/
structure GainUnit where
  /-- route points (R67) -/
  route : Vector GainPoint 32
  /-- the points of the claimed sources, one for Z3 and one for Z4 (R56, R67) -/
  seat : Vector GainPoint 2
  /-- call feeds (R67) -/
  feed : Vector GainPoint 5
  /-- radio point (R67) -/
  radio : GainPoint
  /-- uplink point (R67) -/
  uplink : GainPoint
  /-- beam-crossfade points (R67) -/
  beam : Vector GainPoint 2
  /-- output points (R67) -/
  out : Vector GainPoint 28
  /-- CURVE, indexed curve × 64 + volume (R75) -/
  curve : Vector Step 256
  /-- RAMP (R80) -/
  ramps : RampRecord
  /-- what the route targets were last computed from (R51, R68) -/
  routeContext : Vector RouteContext 32
  /-- what the output targets were last computed from (R68, R79) -/
  outContext : Vector OutputContext 28
  /-- the next processed frame starts every point from zero with its start length (R82, R86) -/
  startPending : Bool
  deriving DecidableEq, Repr

/-! ## The mix unit (spec 03) -/

/-- The stored part of a zone record (spec 03, 3.2); the claimed source and the claim state are read from the claim
list (R58). -/
structure ZoneRecord where
  volume : Fin 64
  curve : Fin 4
  mute : Bool
  cap : Int
  /-- mode PRIVATE -/
  seatMode : Bool
  panel : Node
  lock : Bool
  deriving DecidableEq, Repr

/-- The states of a route (spec 03, 3.3). -/
inductive RouteState where
  | empty | enabled | disabled
  deriving DecidableEq, Repr

/-- The duck classes (spec 03, 3.3). -/
inductive DuckClass where
  | none | media | prompt
  deriving DecidableEq, Repr

/-- An entry of ROUTE (spec 03, 3.3). -/
structure RouteRecord where
  state : RouteState
  source : Source
  zone : Fin 5
  trim : Int
  duck : DuckClass
  deriving DecidableEq, Repr

/-- The states of a claim in the list (R58). -/
inductive ClaimState where
  | pending | held | releasing
  deriving DecidableEq, Repr

/-- A claim (R58): the seat zone, the source, the state. -/
structure Claim where
  zone : Fin 2
  source : Source
  state : ClaimState
  deriving DecidableEq, Repr

/-- The mix unit. -/
structure MixUnit where
  /-- ZONE records (R44) -/
  zones : Vector ZoneRecord 5
  /-- ROUTE (R49) -/
  routes : Vector RouteRecord 32
  /-- claim list, oldest first (R58) -/
  claims : List Claim
  deriving DecidableEq, Repr

/-! ## The channel unit (spec 05) -/

/-- The sides a channel can take (R90). -/
inductive Side where
  | left | right | sum
  deriving DecidableEq, Repr

/-- An entry of CHANNEL (R88). -/
structure ChannelRecord where
  zone : Option (Fin 5)
  side : Side
  trim : Int
  cls : Fin 4
  amp : Option (Fin 4)
  ampChannel : Fin 8
  deriving DecidableEq, Repr

/-- The five coefficients of a stage, signed 24-bit, unity 2^22 (R91, R95). -/
structure Stage where
  b0 : Int
  b1 : Int
  b2 : Int
  a1 : Int
  a2 : Int
  deriving DecidableEq, Repr

/-- The four history samples of a stage (R91). -/
structure StageHistory where
  x1 : Int
  x2 : Int
  y1 : Int
  y2 : Int
  deriving DecidableEq, Repr

/-- A coefficient bank with the histories of its stages (R92, R95). -/
structure Bank where
  stages : Vector Stage 8
  history : Vector StageHistory 8
  deriving DecidableEq, Repr

/-- The states of a spare bank (R96). -/
inductive SpareState where
  | loaded | open_ | queued | fading
  deriving DecidableEq, Repr

/-- One output channel: its record, its banks A and B, which of them is live, the spare's state, the peak of the block
in progress, and the output sample awaiting its slot. -/
structure Channel where
  /-- CHANNEL entry (R88) -/
  record : ChannelRecord
  /-- bank A (R95) -/
  bankA : Bank
  /-- bank B (R95) -/
  bankB : Bank
  /-- bank B is the live one (R95) -/
  liveB : Bool
  /-- state of the spare bank (R96) -/
  spare : SpareState
  /-- peak of the block in progress (R94) -/
  peak : Nat
  /-- output of the last processed frame (R15, R93) -/
  out : Int
  deriving DecidableEq, Repr

/-- A busy crossfade unit: its channel and its frame count (R103). -/
structure BankFade where
  channel : Fin 28
  count : Nat
  deriving DecidableEq, Repr

/-- The channel unit. -/
structure ChannelUnit where
  /-- the 28 channels -/
  channels : Vector Channel 28
  /-- activation queue, oldest first (R102) -/
  queue : List (Fin 28)
  /-- crossfade units (R103) -/
  fades : Vector (Option BankFade) 4
  deriving DecidableEq, Repr

/-! ## The protection unit (spec 06) -/

/-- An entry of PROTECT (R109). -/
structure ProtectClass where
  t1Level : Nat
  t1Time : Nat
  t1Reduce : Int
  t1Recover : Nat
  t2Level : Nat
  t2Time : Nat
  t2Recover : Nat
  recoverTime : Nat
  derateBand : Nat
  derateFactor : Nat
  latchCount : Nat
  latchWindow : Nat
  fastReduce : Int
  fastHold : Nat
  deriving DecidableEq, Repr

/-- An amplifier record and its block marks (R111, R112). -/
structure Amplifier where
  limit : Nat
  temperature : Nat
  overTemp : Bool
  status : Bool
  overTempMark : Bool
  clipMarks : BitVec 8
  deriving DecidableEq, Repr

/-- The states of a tier (spec 06, 6.3). -/
inductive TierState where
  | clear | alert | active | recovery
  deriving DecidableEq, Repr

/-- A tier: its state and its timer (spec 06, 6.3). -/
structure Tier where
  state : TierState
  timer : Nat
  deriving DecidableEq, Repr

/-- A channel protection record (R114). -/
structure ProtectRecord where
  tier1 : Tier
  tier2 : Tier
  latched : Bool
  /-- fast tier in HOLD -/
  fastHold : Bool
  fastTimer : Nat
  /-- trip history, oldest first -/
  trips : List (BitVec 32)
  reduction : Step
  /-- the time of tier 1 has been written to nonzero from 0 since the channel's last evaluation (R118) -/
  restart1 : Bool
  /-- the same of tier 2 (R118) -/
  restart2 : Bool
  deriving DecidableEq, Repr

/-- The protection unit. -/
structure ProtectUnit where
  /-- PROTECT (R109) -/
  classes : Vector ProtectClass 4
  /-- AMP (R111) -/
  amps : Vector Amplifier 4
  /-- channel protection records (R114) -/
  records : Vector ProtectRecord 28
  /-- superframe count (R114) -/
  count : BitVec 32
  deriving DecidableEq, Repr

/-! ## The antenna unit (spec 07) -/

/-- An antenna record (R131, R134). -/
structure Antenna where
  present : Bool
  absence : Nat
  lastAbsence : Nat
  score : Nat
  deriving DecidableEq, Repr

/-- The RADIO record (R137). -/
structure RadioRecord where
  switchLevel : Nat
  hysteresis : Nat
  margin : Nat
  pairMargin : Nat
  goodLevel : Nat
  poorLevel : Nat
  tuneSettle : Nat
  dwell : Nat
  pairDwell : Nat
  poorTime : Nat
  recoverTime : Nat
  deriving DecidableEq, Repr

/-- The diversity modes (R138). -/
inductive DiversityMode where
  | fixed (a : Fin 4)
  | switched
  | paired
  deriving DecidableEq, Repr

/-- The outgoing selection of a switch crossfade: an antenna, or the pair as it last stood (R142). -/
inductive Outgoing where
  | antenna (a : Fin 4)
  | pair (members : List (Fin 4)) (w1 w2 : Nat) (phase : Fin 64)
  deriving DecidableEq, Repr

/-- A running switch crossfade (R142). -/
structure SwitchFade where
  outgoing : Outgoing
  incoming : Fin 4
  count : Nat
  deriving DecidableEq, Repr

/-- The antenna unit. -/
structure AntennaUnit where
  /-- antenna records (R131) -/
  antennas : Vector Antenna 4
  /-- PENALTY (R135) -/
  penalty : Vector Nat 32
  /-- RADIO (R137) -/
  record : RadioRecord
  /-- diversity mode (R138) -/
  mode : DiversityMode
  /-- current antenna (R138) -/
  current : Fin 4
  /-- switch alert: off, or on with its dwell timer (R140) -/
  alert : Option Nat
  /-- the pair, first member first (R143, R144) -/
  pair : List (Fin 4)
  /-- challenge counts (R143) -/
  challenge : Vector Nat 4
  /-- weight of the first member (R144) -/
  w1 : Nat
  /-- weight of the second member (R144) -/
  w2 : Nat
  /-- phase direction 0..63 (R144) -/
  phase : Fin 64
  /-- switch crossfade (R142) -/
  fade : Option SwitchFade
  /-- pending mode (R146) -/
  pendingMode : Option DiversityMode
  /-- the powers of the block in progress, newest first, per antenna (R133) -/
  powers : Vector (List Nat) 4
  /-- correlation sums of the block in progress, pairs (0,1) (0,2) (0,3) (1,2) (1,3) (2,3) (R136) -/
  corrSum : Vector Complex24 6
  /-- held correlations, in the same order (R136) -/
  corrHeld : Vector Complex24 6
  deriving DecidableEq, Repr

/-! ## The radio unit (spec 08) -/

/-- An entry of BLEND (R153). -/
structure BlendEntry where
  separation : Nat
  highCut : Nat
  softMute : Step
  deriving DecidableEq, Repr

/-- The radio unit. -/
structure RadioUnit where
  /-- station record: frequency in units of 10 kHz (R158) -/
  frequency : Nat
  /-- station record: programme identifier (R158) -/
  identifier : Option (BitVec 16)
  /-- station record: blocks since tune (R158) -/
  blocksSinceTune : Nat
  /-- pilot PRESENT (R151) -/
  pilot : Bool
  /-- pilot run count (R151) -/
  pilotRun : Nat
  /-- separation 0..16 (R154) -/
  separation : Nat
  /-- high-cut 0..7 (R154) -/
  highCut : Nat
  /-- soft-mute component (R155) -/
  softMute : Step
  /-- reception state (R156) -/
  reception : Reception
  /-- poor count (R156) -/
  poorCount : Nat
  /-- recover count (R156) -/
  recoverCount : Nat
  /-- BLEND (R153) -/
  blend : Vector BlendEntry 32
  /-- the antenna unit's last hand-over named no antenna PRESENT (R147, R155) -/
  noAntenna : Bool
  /-- angle history: the last combined sample (R149) -/
  lastSample : Complex24
  /-- the tune settle in force (R137, R158): the RADIO record's at the last evaluation, at START, or as last written
  outside RUN (log entry 39) -/
  settle : Nat
  /-- decoder filter histories (R150) -/
  decoder : List Int
  /-- the decoder's fixed delay: the pairs m and s of the last 16 processed frames, oldest first (R150) -/
  delay : List (Int × Int)
  /-- high-cut filter history, left (R150) -/
  cutLeft : List Int
  /-- high-cut filter history, right (R150) -/
  cutRight : List Int
  /-- multiplex samples of the block in progress, newest first (R151) -/
  multiplex : List Int
  deriving DecidableEq, Repr

/-! ## The call unit (spec 09) -/

/-- The call states (R162). -/
inductive CallState where
  | idle | alerting | active | onHold | closing
  deriving DecidableEq, Repr

/-- The call unit. -/
structure CallUnit where
  /-- call state (R162) -/
  state : CallState
  /-- placement: 0 FRONT, 1 CABIN, 2 SEAT_RL, 3 SEAT_RR (R162) -/
  placement : Fin 4
  /-- uplink gain (R162) -/
  uplinkGain : Int
  /-- PLACEMENT, indexed placement × 5 + zone (R164) -/
  placements : Vector Step 20
  /-- DUCK, indexed (placement × 5 + zone) × 2 + class (R166) -/
  ducks : Vector Step 40
  /-- a processed frame has come since the frame that took CALL END (R175) -/
  closingArmed : Bool
  deriving DecidableEq, Repr

/-! ## The uplink unit (spec 10) -/

/-- An entry of BEAM (R179). -/
structure BeamEntry where
  delay : Fin 32
  weight : Int
  deriving DecidableEq, Repr

/-- One seat of a selection with its copy of the seat's six BEAM entries (R180). -/
structure SeatBeam where
  seat : Fin 4
  taps : Vector BeamEntry 6
  deriving DecidableEq, Repr

/-- The talk states (R185). -/
inductive TalkState where
  | quiet | farOnly | nearOnly | double
  deriving DecidableEq, Repr

/-- The ECHO record (R184). -/
structure EchoRecord where
  farThreshold : Nat
  nearThreshold : Nat
  nearRelax : Nat
  farRelax : Nat
  convergeLevel : Nat
  convergeBlocks : Nat
  divergeLevel : Nat
  divergeBlocks : Nat
  attenuation : Int
  pathStep : Nat
  deriving DecidableEq, Repr

/-- The uplink unit. -/
structure UplinkUnit where
  /-- microphone histories, newest first, 32 samples each (R178) -/
  mics : Vector (List Int) 6
  /-- BEAM (R179) -/
  beams : Vector BeamEntry 24
  /-- the selections of beam points 0 and 1 (R181) -/
  selections : Vector (List SeatBeam) 2
  /-- the live point (R181) -/
  live : Fin 2
  /-- beam crossfade running (R181) -/
  fading : Bool
  /-- pending mark (R181, R182) -/
  changePending : Bool
  /-- coefficients of the ten adaptive filters, one for each bus side; what a list leaves off up to 6,144 is zero (R183) -/
  filters : Vector (List Int) 10
  /-- reference histories, newest first, one for each bus side: the samples of the last 6,144 processed frames; what a
  list leaves off is zero (R183) -/
  references : Vector (List Int) 10
  /-- residuals of the block in progress, newest first (R186) -/
  residuals : List Int
  /-- talk state (R185) -/
  talk : TalkState
  /-- near-quiet count (R185) -/
  nearQuiet : Nat
  /-- far-quiet count (R185) -/
  farQuiet : Nat
  /-- echo state (R186) -/
  echo : EchoState
  /-- converge count (R186) -/
  converge : Nat
  /-- diverge count (R186) -/
  diverge : Nat
  /-- peak F of the block in progress (R185) -/
  peakF : Nat
  /-- peak N of the block in progress (R185) -/
  peakN : Nat
  /-- peak R of the block in progress (R185) -/
  peakR : Nat
  /-- ECHO (R184) -/
  record : EchoRecord
  /-- uplink sample of the last processed frame (R15, R183) -/
  out : Int
  /-- a path-change event has been raised and not yet taken (R188); clear between commands -/
  pathRaised : Bool
  deriving DecidableEq, Repr

/-! ## The whole part -/

/-- The state of the part, unit by unit, with the queue of waiting commands and the model's own draw counter. -/
structure State where
  ring : RingUnit
  msg : MessageUnit
  mix : MixUnit
  gain : GainUnit
  chan : ChannelUnit
  prot : ProtectUnit
  ant : AntennaUnit
  radio : RadioUnit
  call : CallUnit
  uplink : UplinkUnit
  /-- commands waiting, first in, first out (the model's own) -/
  pending : List Instr
  /-- how many free values have been drawn (the model's own; log entry 5) -/
  draws : Nat
  deriving DecidableEq, Repr

/-- The reasons a step can stop with a fault: none. Every command of the part has an effect in every state. -/
inductive Fault where
  deriving DecidableEq, Repr

/-- The reasons a command can be refused. -/
inductive Refusal where
  /-- Raised by exec alone, for a command that has no meaning yet. Safe: the model stops. No arm raises it. -/
  | notModelled (mnemonic : String)
  deriving DecidableEq, Repr

/-! ## Reset values -/

/-- A gain point after reset (R67). -/
def GainPoint.zero : GainPoint := ⟨.mute, 0, 0, none⟩

/-- CURVE after reset (R75): entry 0 MUTE, entry v is −4 × (63 − v). -/
def curveReset (i : Nat) : Step := if i % 64 = 0 then .mute else .steps (-4 * (63 - (i % 64 : Nat)))

/-- A pass-through stage (R91, R95). -/
def Stage.pass : Stage := ⟨4194304, 0, 0, 0, 0⟩

/-- A stage history of zeros (R92). -/
def StageHistory.zero : StageHistory := ⟨0, 0, 0, 0⟩

/-- A bank of pass-through stages with zero histories (R95). -/
def Bank.pass : Bank := ⟨Vector.replicate 8 .pass, Vector.replicate 8 .zero⟩

/-- A protection class after reset (spec 06, 6.1). -/
def ProtectClass.initial : ProtectClass where
  t1Level := 7500000
  t1Time := 750
  t1Reduce := -16
  t1Recover := 5300000
  t2Level := 8300000
  t2Time := 75
  t2Recover := 4200000
  recoverTime := 2250
  derateBand := 10
  derateFactor := 64
  latchCount := 3
  latchWindow := 45000
  fastReduce := -8
  fastHold := 375

/-- A channel protection record after reset (spec 06, 6.3). -/
def ProtectRecord.initial : ProtectRecord := ⟨⟨.clear, 0⟩, ⟨.clear, 0⟩, false, false, 0, [], .steps 0, false, false⟩

/-- BLEND entry j after reset (R153). -/
def blendReset (j : Nat) : BlendEntry where
  separation := min 16 (2 * (j - 8))
  highCut := min 7 (7 - (j - 4) / 2)
  softMute := if j = 0 then .mute else if j = 1 then .steps (-64) else if j = 2 then .steps (-32)
    else if j = 3 then .steps (-16) else .steps 0

/-- PLACEMENT entry after reset (R164). -/
def placementReset (i : Nat) : Step :=
  if i = 0 ∨ (5 ≤ i ∧ i < 10) ∨ i = 13 ∨ i = 19 then .steps 0 else .mute

/-- BEAM entry after reset (R179). -/
def BeamEntry.initial : BeamEntry := ⟨0, 5461⟩

/-- The FRONT selection from the reset BEAM table (R182). -/
def frontReset : List SeatBeam := [⟨0, Vector.replicate 6 .initial⟩, ⟨1, Vector.replicate 6 .initial⟩]

/-- The ring interface after the reset pin (R10). -/
def RingUnit.reset : RingUnit where
  link := .acquiring
  goodRun := 0
  badRun := 0
  lossTimer := .stopped
  frameSeen := false
  position := none
  slotMap := Vector.replicate 96 .unused
  pattern := #v[0x000000, 0xFFFFFF, 0x555555, 0xAAAAAA]
  patternFormat := .serial
  transmitted := .nothing
  replyWritten := none

/-- The message unit after reset (R21, R23, R28, R30 to R32, R40). -/
def MessageUnit.reset : MessageUnit where
  assembly := .empty
  cursor := none
  queue := []
  sent := 0
  notices := []
  noticeSeq := 0
  op := .config
  patternFrom := .config
  broken := 0
  checkFailed := 0
  dropped := 0
  resetPhase := .none
  deferred := []

/-- The mix unit after reset (R44, R49, R58). -/
def MixUnit.reset : MixUnit where
  zones := Vector.replicate 5 ⟨0, 0, false, 0, false, 0, false⟩
  routes := Vector.replicate 32 ⟨.empty, .radio, 0, 0, .none⟩
  claims := []

/-- The gain unit after reset (R67, R75, R80). -/
def GainUnit.reset : GainUnit where
  route := Vector.replicate 32 .zero
  seat := Vector.replicate 2 .zero
  feed := Vector.replicate 5 .zero
  radio := .zero
  uplink := .zero
  beam := Vector.replicate 2 .zero
  out := Vector.replicate 28 .zero
  curve := Vector.ofFn fun i => curveReset i.val
  ramps := ⟨960, 480, 48, 4800, 2400, 960, 480⟩
  routeContext := Vector.replicate 32 ⟨false, false, 0, .steps 0⟩
  outContext := Vector.replicate 28 ⟨true, false, false, .mute, 0, .steps 0⟩
  startPending := false

/-- A channel after reset (R88, R94, R95). -/
def Channel.initial : Channel where
  record := ⟨none, .left, 0, 0, none, 0⟩
  bankA := .pass
  bankB := .pass
  liveB := false
  spare := .loaded
  peak := 0
  out := 0

/-- The channel unit after reset (R108). -/
def ChannelUnit.reset : ChannelUnit where
  channels := Vector.replicate 28 .initial
  queue := []
  fades := Vector.replicate 4 none

/-- The protection unit after reset (R128). -/
def ProtectUnit.reset : ProtectUnit where
  classes := Vector.replicate 4 .initial
  amps := Vector.replicate 4 ⟨140, 0, false, false, false, 0⟩
  records := Vector.replicate 28 .initial
  count := 0

/-- The antenna unit after reset (R132, R134 to R138). -/
def AntennaUnit.reset : AntennaUnit where
  antennas := Vector.replicate 4 ⟨false, 0, 0, 0⟩
  penalty := Vector.ofFn fun i => i.val
  record := ⟨40, 6, 8, 8, 60, 25, 8, 12, 24, 375, 750⟩
  mode := .switched
  current := 0
  alert := none
  pair := []
  challenge := Vector.replicate 4 0
  w1 := 128
  w2 := 128
  phase := 0
  fade := none
  pendingMode := none
  powers := Vector.replicate 4 []
  corrSum := Vector.replicate 6 (0, 0)
  corrHeld := Vector.replicate 6 (0, 0)

/-- The radio unit after reset (R149, R153 to R158, R161). -/
def RadioUnit.reset : RadioUnit where
  frequency := 8750
  identifier := none
  blocksSinceTune := 0
  pilot := false
  pilotRun := 0
  separation := 0
  highCut := 7
  softMute := .mute
  reception := .fair
  poorCount := 0
  recoverCount := 0
  blend := Vector.ofFn fun i => blendReset i.val
  noAntenna := false
  lastSample := (0, 0)
  settle := 8
  decoder := []
  delay := List.replicate 16 (0, 0)
  cutLeft := []
  cutRight := []
  multiplex := []

/-- The call unit after reset (R162, R164, R166). -/
def CallUnit.reset : CallUnit where
  state := .idle
  placement := 0
  uplinkGain := 0
  placements := Vector.ofFn fun i => placementReset i.val
  ducks := Vector.replicate 40 (.steps 0)
  closingArmed := false

/-- The uplink unit after reset (R178, R179, R182 to R187). -/
def UplinkUnit.reset : UplinkUnit where
  mics := Vector.replicate 6 (List.replicate 32 0)
  beams := Vector.replicate 24 .initial
  selections := #v[frontReset, []]
  live := 0
  fading := false
  changePending := false
  filters := Vector.replicate 10 []
  references := Vector.replicate 10 []
  residuals := []
  talk := .quiet
  nearQuiet := 0
  farQuiet := 0
  echo := .off
  converge := 0
  diverge := 0
  peakF := 0
  peakN := 0
  peakR := 0
  record := ⟨65536, 131072, 30, 15, 10, 150, 2, 75, -48, 8⟩
  out := 0
  pathRaised := false

/-- The part right after the reset pin, with no command waiting. -/
def State.reset : State where
  ring := .reset
  msg := .reset
  mix := .reset
  gain := .reset
  chan := .reset
  prot := .reset
  ant := .reset
  radio := .reset
  call := .reset
  uplink := .reset
  pending := []
  draws := 0

end Sys2Proof.Machine
end

