-- ==== Sys2Proof/Machine/Operands.lean ====
section
/-! DEFINITION. The fields of message words and table entries, the codes of their enumerations (spec 02, Word layouts),
and the arithmetic of samples and gain steps (spec 00, Conventions; spec 04, 4.2). -/

namespace Sys2Proof.Machine

/-! ## Bit fields -/

/-- The field of bits hi..lo of a word (R42). -/
def field (w : Word) (hi lo : Nat) : Nat := w.toNat / 2 ^ lo % 2 ^ (hi + 1 - lo)

/-- One bit of a word. -/
def bitAt (w : Word) (i : Nat) : Bool := field w i i == 1

/-- A value put at bit `lo` of a word being built. -/
def at_ (v lo : Nat) : Nat := v * 2 ^ lo

/-- A word built from its fields; bits outside every field are 0 (R42). -/
def wordOf (parts : List Nat) : Word := BitVec.ofNat 32 parts.sum

/-- A Bool as a one-bit field. -/
def bit (b : Bool) : Nat := if b then 1 else 0

/-- Two's complement: the signed value of an n-bit code. -/
def signedOf (bits code : Nat) : Int := if code < 2 ^ (bits - 1) then code else (code : Int) - 2 ^ bits

/-- Two's complement: the n-bit code of a signed value. -/
def codeOf (bits : Nat) (v : Int) : Nat := (v % 2 ^ bits).toNat

/-- An index below n, if the number is one. -/
def finOf (n i : Nat) : Option (Fin n) := if h : i < n then some ⟨i, h⟩ else none

/-- An index below n+1, by wrapping: for codes whose field already spans exactly the range. -/
def finWrap (n i : Nat) : Fin (n + 1) := Fin.ofNat (n + 1) i

/-- A number held to a range. -/
def clampNat (lo hi v : Nat) : Nat := max lo (min hi v)

/-- An integer held to a range. -/
def clampInt (lo hi v : Int) : Int := max lo (min hi v)

/-- Increment that saturates at 65535. -/
def incSat (n : Nat) : Nat := min 65535 (n + 1)

/-! ## Step fields -/

/-- The MUTE code of a step field (spec 02, 2.7). -/
def muteCode : Nat := 512

/-- The step value a 10-bit code gives (spec 02, 2.7). -/
def stepOf (code : Nat) : Step := if code = muteCode then .mute else .steps (signedOf 10 code)

/-- The 10-bit code of a step value. -/
def stepCode : Step → Nat
  | .mute => muteCode
  | .steps n => codeOf 10 n

/-- A step field that admits MUTE, clamped to its range (R39). -/
def clampStep (lo hi : Int) : Step → Step
  | .mute => .mute
  | .steps n => .steps (clampInt lo hi n)

/-- A step field that does not admit MUTE: the MUTE code takes the lowest step (R39). -/
def clampSteps (lo hi : Int) : Step → Int
  | .mute => lo
  | .steps n => clampInt lo hi n

/-! ## Codes of the enumerations (spec 02, Word layouts) -/

/-- Word type codes. -/
def wordTypeCode : WordType → Nat
  | .idle => 0
  | .head => 1
  | .body => 2
  | .check => 3

/-- Source codes 0..6; 7 is none. -/
def sourceCode : Source → Nat
  | .radio => 0
  | .mediaA => 1
  | .mediaB => 2
  | .mediaC => 3
  | .prompt => 4
  | .chime => 5
  | .call => 6

/-- The source a code names. -/
def sourceOf : Nat → Option Source
  | 0 => some .radio
  | 1 => some .mediaA
  | 2 => some .mediaB
  | 3 => some .mediaC
  | 4 => some .prompt
  | 5 => some .chime
  | 6 => some .call
  | _ => none

/-- Whether a source may be claimed (spec 03, 3.1). -/
def Source.claimable : Source → Bool
  | .radio | .mediaA | .mediaB | .mediaC => true
  | .prompt | .chime | .call => false

/-- The source code of a media source (spec 02, SLOTMAP). -/
def mediaCode : Media → Nat
  | .a => 1
  | .b => 2
  | .c => 3

/-- The media source a source code names in SRC_L and SRC_R. -/
def mediaOf : Nat → Option Media
  | 1 => some .a
  | 2 => some .b
  | 3 => some .c
  | _ => none

/-- The source code of a mono source in SRC_M (spec 02, SLOTMAP). -/
def monoCode : Mono → Nat
  | .prompt => 4
  | .chime => 5
  | .callDown => 6

/-- The mono source a source code names in SRC_M. -/
def monoOf : Nat → Option Mono
  | 4 => some .prompt
  | 5 => some .chime
  | 6 => some .callDown
  | _ => none

/-- Operating state codes. -/
def opCode : OpState → Nat
  | .config => 0
  | .run => 1
  | .stopping => 2
  | .pattern => 3

/-- Pattern format codes. -/
def formatCode : PatternFormat → Nat
  | .serial => 0
  | .parallel => 1
  | .staggered => 2

/-- The pattern format a code names. -/
def formatOf : Nat → Option PatternFormat
  | 0 => some .serial
  | 1 => some .parallel
  | 2 => some .staggered
  | _ => none

/-- Route state codes. -/
def routeStateCode : RouteState → Nat
  | .empty => 0
  | .enabled => 1
  | .disabled => 2

/-- The route state a code names. -/
def routeStateOf : Nat → Option RouteState
  | 0 => some .empty
  | 1 => some .enabled
  | 2 => some .disabled
  | _ => none

/-- Duck class codes. -/
def duckCode : DuckClass → Nat
  | .none => 0
  | .media => 1
  | .prompt => 2

/-- The duck class a code names. -/
def duckOf : Nat → Option DuckClass
  | 0 => some .none
  | 1 => some .media
  | 2 => some .prompt
  | _ => none

/-- Side codes. -/
def sideCode : Side → Nat
  | .left => 0
  | .right => 1
  | .sum => 2

/-- The side a code names. -/
def sideOf : Nat → Option Side
  | 0 => some .left
  | 1 => some .right
  | 2 => some .sum
  | _ => none

/-- Table numbers, in the order of the table list in 2.6. -/
def tableNumber : Table → Nat
  | .slotMap => 0
  | .channel => 1
  | .route => 2
  | .zone => 3
  | .curve => 4
  | .duck => 5
  | .placement => 6
  | .coef => 7
  | .protect => 8
  | .amp => 9
  | .beam => 10
  | .penalty => 11
  | .blend => 12
  | .radio => 13
  | .echo => 14
  | .ramp => 15

/-- The table of a 4-bit number. -/
def tableOf : Nat → Table
  | 0 => .slotMap
  | 1 => .channel
  | 2 => .route
  | 3 => .zone
  | 4 => .curve
  | 5 => .duck
  | 6 => .placement
  | 7 => .coef
  | 8 => .protect
  | 9 => .amp
  | 10 => .beam
  | 11 => .penalty
  | 12 => .blend
  | 13 => .radio
  | 14 => .echo
  | _ => .ramp

/-! ## Zones -/

/-- The zone of a seat: Z3 or Z4. -/
def seatZone (z : Fin 2) : Fin 5 := ⟨z.val + 3, by omega⟩

/-- The other seat. -/
def otherSeat (z : Fin 2) : Fin 2 := 1 - z

/-- The seat a zone number names: Z3 or Z4. -/
def seatOf : Nat → Option (Fin 2)
  | 3 => some 0
  | 4 => some 1
  | _ => none

/-! ## Samples (spec 00, Conventions) -/

/-- Saturation to the sample range. -/
def saturate (v : Int) : Int := clampInt (-8388608) 8388607 v

/-- The sample a slot holds. -/
def sampleOf (w : SlotWord) : Int := w.toInt

/-- The slot word of a sample. -/
def slotOf (v : Int) : SlotWord := BitVec.ofInt 24 v

/-- The absolute value of a sample, −8,388,608 counting as 8,388,607 (R94, R185). -/
def magnitude (v : Int) : Nat := min 8388607 v.natAbs

/-- A sample through a current gain: floor((x × C + 2^19) / 2^20) (R71). -/
def applyGain (x : Int) (c : Nat) : Int := (x * c + 524288) / 1048576

/-- A stereo pair through a current gain, each side by R71. -/
def applyGainPair (p : Int × Int) (c : Nat) : Int × Int := (applyGain p.1 c, applyGain p.2 c)

/-- The code 2h + b of a positive number: h its highest bit that is 1, b the bit just below it, 0 when h is 0
(R133, R186); 0 for 0. -/
def levelCode (v : Nat) : Nat :=
  if v = 0 then 0
  else
    let h := v.log2
    2 * h + (if h = 0 then 0 else v / 2 ^ (h - 1) % 2)

/-! ## Steps to linear gain (R69, R70) -/

/-- Unity in the linear scale. -/
def unity : Nat := 1048576

/-- The mantissa M[k] (R70). -/
def mantissa : Nat → Nat
  | 0 => 1048576
  | 1 => 1095000
  | 2 => 1143480
  | 3 => 1194106
  | 4 => 1246974
  | 5 => 1302182
  | 6 => 1359835
  | 7 => 1420040
  | 8 => 1482910
  | 9 => 1548564
  | 10 => 1617125
  | 11 => 1688722
  | 12 => 1763488
  | 13 => 1841564
  | 14 => 1923097
  | _ => 2008240

/-- The linear gain of a step target (R70). -/
def linearOf : Step → Nat
  | .mute => 0
  | .steps g =>
    let q := g / 16
    let m := mantissa (g % 16).toNat
    if 0 ≤ q then m * 2 ^ q.toNat
    else
      let s := (-q).toNat
      (m + 2 ^ (s - 1)) / 2 ^ s

/-- The sum of two components: MUTE if either is MUTE (R69). -/
def addStep : Step → Step → Step
  | .steps a, .steps b => .steps (a + b)
  | _, _ => .mute

/-- The step target of a sum of components (R69): above +32 it is +32, below −320 it is MUTE. -/
def limitStep : Step → Step
  | .mute => .mute
  | .steps n => if n < -320 then .mute else .steps (min 32 n)

/-- The step target of a list of components (R69). -/
def combine (parts : List Step) : Step := limitStep (parts.foldl addStep (.steps 0))

/-- Whether step value a lies below step value b, MUTE below every number (R79, R155). -/
def Step.below : Step → Step → Bool
  | .mute, .mute => false
  | .mute, .steps _ => true
  | .steps _, .mute => false
  | .steps a, .steps b => decide (a < b)

end Sys2Proof.Machine
end

