-- ==== Sys2Proof/Machine/Ops.lean ====
section
/-! DEFINITION. The operations every unit shares: replacing one unit of the state, when the units run, posting a
notice, the outgoing queue, the assembly, the gain points by name, path-change events. A block has no exception entry;
raising a notice or an event is the shared effect here. -/

namespace Sys2Proof.Machine

/-! ## One unit of the state replaced -/

/-- The state with another ring interface. -/
def State.setRing (s : State) (x : RingUnit) : State := { s with ring := x }

/-- The state with another message unit. -/
def State.setMsg (s : State) (x : MessageUnit) : State := { s with msg := x }

/-- The state with another mix unit. -/
def State.setMix (s : State) (x : MixUnit) : State := { s with mix := x }

/-- The state with another gain unit. -/
def State.setGain (s : State) (x : GainUnit) : State := { s with gain := x }

/-- The state with another channel unit. -/
def State.setChan (s : State) (x : ChannelUnit) : State := { s with chan := x }

/-- The state with another protection unit. -/
def State.setProt (s : State) (x : ProtectUnit) : State := { s with prot := x }

/-- The state with another antenna unit. -/
def State.setAnt (s : State) (x : AntennaUnit) : State := { s with ant := x }

/-- The state with another radio unit. -/
def State.setRadio (s : State) (x : RadioUnit) : State := { s with radio := x }

/-- The state with another call unit. -/
def State.setCall (s : State) (x : CallUnit) : State := { s with call := x }

/-- The state with another uplink unit. -/
def State.setUplink (s : State) (x : UplinkUnit) : State := { s with uplink := x }

/-- The state with another command queue. -/
def State.setPending (s : State) (x : List Instr) : State := { s with pending := x }

/-- The state after one more free value has been drawn. -/
def State.drawn (s : State) : State := { s with draws := s.draws + 1 }

/-! ## When the units run -/

/-- Operating state RUN or STOPPING, or PATTERN entered from RUN: the states in which the units process audio
(R14, R68, R129, R183). -/
def State.running (s : State) : Bool :=
  match s.msg.op with
  | .config => false
  | .run => true
  | .stopping => true
  | .pattern => s.msg.patternFrom == .run

/-- The link state is LINKED: the only one in which a frame is processed and a unit advances (R5 to R8). -/
def State.linked (s : State) : Bool := s.ring.link == .linked

/-- An event of a unit can come about: frames are processed and the units run. -/
def State.active (s : State) : Bool := s.linked && s.running

/-! ## Notices (R30) -/

/-- The kind of a notice. -/
def NoticeDetail.kind : NoticeDetail → NoticeKind
  | .state _ => .state
  | .link .. => .link
  | .bank .. => .bank
  | .claim .. => .claim
  | .protect .. => .protect
  | .antenna .. => .antenna
  | .reception .. => .reception
  | .call _ => .call
  | .echo _ => .echo
  | .dropped _ => .dropped

/-- The changed channels or zones one occurrence adds (R30): the channel of a PROTECT, the zone of a CLAIM. -/
def NoticeDetail.changed : NoticeDetail → BitVec 28
  | .claim z _ _ => BitVec.ofNat 28 (2 ^ (seatZone z).val)
  | .protect c _ => BitVec.ofNat 28 (2 ^ c.val)
  | _ => 0

/-- A pending notice absorbs a new occurrence of its kind (R30). -/
def Notice.absorb (d : NoticeDetail) (n : Notice) : Notice :=
  ⟨d, min 255 (n.count + 1), n.changed ||| d.changed⟩

/-- The notice set after one occurrence (R30): a pending notice of the kind absorbs it in its place, otherwise it joins
at the end of the order. -/
def postTo (set : List Notice) (d : NoticeDetail) : List Notice :=
  if set.any (fun n => n.detail.kind == d.kind) then
    set.map fun n => if n.detail.kind == d.kind then n.absorb d else n
  else set ++ [⟨d, 1, d.changed⟩]

/-- A unit posts a notice (R30). -/
def postNotice (d : NoticeDetail) (s : State) : State :=
  s.setMsg { s.msg with notices := postTo s.msg.notices d }

/-- Several notices posted in order. -/
def postNotices (ds : List NoticeDetail) (s : State) : State := ds.foldl (fun t d => postNotice d t) s

/-- A notice that a long loss posts at relink (R30). -/
def deferNotice (d : NoticeDetail) (s : State) : State :=
  s.setMsg { s.msg with deferred := s.msg.deferred ++ [d] }

/-! ## The outgoing queue (R28) -/

/-- A message joins the tail of the outgoing queue. -/
def enqueue (m : OutMessage) (s : State) : State := s.setMsg { s.msg with queue := s.msg.queue ++ [m] }

/-! ## Gain points by name -/

/-- The gain unit with one point replaced. -/
def GainUnit.setPoint (g : GainUnit) (p : GainPoint) : GainId → GainUnit
  | .route i => { g with route := g.route.set i p }
  | .seat z => { g with seat := g.seat.set z p }
  | .feed z => { g with feed := g.feed.set z p }
  | .radio => { g with radio := p }
  | .uplink => { g with uplink := p }
  | .beam b => { g with beam := g.beam.set b p }
  | .out c => { g with out := g.out.set c p }

/-- The point of the gain unit that a name names. -/
def GainUnit.point (g : GainUnit) : GainId → GainPoint
  | .route i => g.route[i]
  | .seat z => g.seat[z]
  | .feed z => g.feed[z]
  | .radio => g.radio
  | .uplink => g.uplink
  | .beam b => g.beam[b]
  | .out c => g.out[c]

/-- The gain point of a name. -/
def State.point (s : State) (i : GainId) : GainPoint := s.gain.point i

/-- A point with its current gain set to zero and its ramp idle (R81, R86). -/
def GainPoint.silenced (p : GainPoint) : GainPoint := { p with current := 0, ramp := none }

/-- One point's current gain is set to zero and its ramp made idle. -/
def silencePoint (i : GainId) (s : State) : State := s.setGain (s.gain.setPoint (s.point i).silenced i)

/-- Every point of the gain unit changed alike. -/
def GainUnit.mapPoints (g : GainUnit) (f : GainPoint → GainPoint) : GainUnit :=
  { g with
    route := g.route.map f
    seat := g.seat.map f
    feed := g.feed.map f
    radio := f g.radio
    uplink := f g.uplink
    beam := g.beam.map f
    out := g.out.map f }

/-- Every point's current gain is zero and every ramp idle (R81, R82, R86). -/
def silenceAll (s : State) : State := s.setGain (s.gain.mapPoints GainPoint.silenced)

/-! ## The echo state and path-change events (R187, R188) -/

/-- The echo state takes a value, an ECHO notice being posted when it changes (R187). -/
def setEcho (e : EchoState) (s : State) : State :=
  let t := s.setUplink { s.uplink with echo := e }
  if s.uplink.echo = e then t else postNotice (.echo e) t

/-- The echo state at a call event (R187): the state, and both counts 0. -/
def callEcho (e : EchoState) (s : State) : State :=
  let t := setEcho e s
  t.setUplink { t.uplink with converge := 0, diverge := 0 }

/-- A path-change event is raised toward the uplink unit (R188). -/
def raisePath (s : State) : State := s.setUplink { s.uplink with pathRaised := true }

/-- A path-change event that another of the same frame stands for has no effect of its own (R188). -/
def clearPath (s : State) : State := s.setUplink { s.uplink with pathRaised := false }

/-- A raised path-change event takes effect (R188): nothing in OFF; in CONVERGING the converge count returns to 0; in
CONVERGED the state becomes CONVERGING with the converge count at 0 and an ECHO notice is posted. -/
def takePath (s : State) : State :=
  if s.uplink.pathRaised then
    let t := s.setUplink { s.uplink with pathRaised := false }
    match s.uplink.echo with
    | .off => t
    | .converging => t.setUplink { t.uplink with converge := 0 }
    | .converged => setEcho .converging (t.setUplink { t.uplink with converge := 0 })
  else s

end Sys2Proof.Machine
end

