-- ==== Sys2Proof/Machine/Gain.lean ====
section
/-! DEFINITION. The gain unit (spec 04): the step targets of the 71 points from their components, ramps, the causes of
changes and their lengths, and the path-change events of R76. -/

namespace Sys2Proof.Machine

/-! ## Targets -/

/-- A route is suspended while it leads to a shared zone and a claim, in any state, is on its source (R58). -/
def suspended (m : MixUnit) (r : RouteRecord) : Bool :=
  decide (r.zone.val ≤ 2) && m.claims.any fun c => c.source == r.source

/-- Ducking applies (R167). -/
def ducking (c : CallUnit) : Bool :=
  match c.state with
  | .alerting | .active | .onHold => true
  | .idle | .closing => false

/-- The DUCK entry of a placement, a zone and a class: 0 for MEDIA, 1 for PROMPT (R166). -/
def duckEntry (c : CallUnit) (p : Fin 4) (z : Fin 5) (k : Fin 2) : Step :=
  c.ducks[(p.val * 5 + z.val) * 2 + k.val]

/-- The duck component of a route (R167): 0 steps for class NONE and while ducking does not apply. -/
def duckPart (c : CallUnit) (r : RouteRecord) : Step :=
  if ducking c then
    match r.duck with
    | .none => .steps 0
    | .media => duckEntry c c.placement r.zone 0
    | .prompt => duckEntry c c.placement r.zone 1
  else .steps 0

/-- The step target of a route point (R51). -/
def routeTarget (m : MixUnit) (c : CallUnit) (r : RouteRecord) : Step :=
  match r.state with
  | .empty | .disabled => .mute
  | .enabled => if suspended m r then .mute else combine [.steps r.trim, duckPart c r]

/-- The step target of a seat's point (R56): unity while the seat's claim is HELD, MUTE otherwise. -/
def seatTarget (m : MixUnit) (z : Fin 2) : Step :=
  if m.claims.any (fun c => c.zone == z && c.state == .held) then .steps 0 else .mute

/-- The placement and zone index of PLACEMENT (R164). -/
def placementEntry (c : CallUnit) (p : Fin 4) (z : Fin 5) : Step := c.placements[p.val * 5 + z.val]

/-- In a seat placement, every zone but the seat's is closed (R165). -/
def placementCloses (p : Fin 4) (z : Fin 5) : Bool :=
  (p == 2 && z != 3) || (p == 3 && z != 4)

/-- The step target of a call feed (R163, R165). -/
def feedTarget (c : CallUnit) (z : Fin 5) : Step :=
  match c.state with
  | .idle | .onHold | .closing => .mute
  | .alerting | .active =>
    if placementCloses c.placement z then .mute else combine [placementEntry c c.placement z]

/-- The tune settle runs (R155, R158). -/
def settling (s : State) : Bool := decide (s.radio.blocksSinceTune < s.ant.record.tuneSettle)

/-- The tune settle forces the radio point MUTE (R155, R158): by the tune settle in force, since a RADIO record written in
RUN is used from the next evaluation (R137, log entry 39). -/
def settleForced (s : State) : Bool := decide (s.radio.blocksSinceTune < s.radio.settle)

/-- The step target of the radio point (R155). -/
def radioTarget (s : State) : Step :=
  if settleForced s || s.radio.noAntenna then .mute else combine [s.radio.softMute]

/-- The echo attenuation handed to the uplink point (R186). -/
def echoAttenuation (u : UplinkUnit) : Int :=
  match u.echo with
  | .converging => u.record.attenuation
  | .off | .converged => 0

/-- The step target of the uplink point (R168). -/
def uplinkTarget (s : State) : Step :=
  if s.msg.op == .stopping then .mute
  else match s.call.state with
    | .active => combine [.steps s.call.uplinkGain, .steps (echoAttenuation s.uplink)]
    | .idle | .alerting | .onHold | .closing => .mute

/-- The step target of a beam-crossfade point (R181): the incoming point of a crossfade and otherwise the live point at
unity, the other at MUTE. -/
def beamTarget (u : UplinkUnit) (b : Fin 2) : Step :=
  if (b == u.live) != u.fading then .steps 0 else .mute

/-- The curve value of a channel of zone z (R73): a SPEAKER channel of a seat zone is held to the zone's cap. -/
def curveValue (s : State) (c : Fin 28) (z : Fin 5) : Step :=
  let r := s.mix.zones[z]
  match s.gain.curve[r.curve.val * 64 + r.volume.val] with
  | .mute => .mute
  | .steps v => if c.val < 24 ∧ 3 ≤ z.val then .steps (min v r.cap) else .steps v

/-- What the target of output point c is computed from (R73, R74). -/
def outputContext (s : State) (c : Fin 28) : OutputContext :=
  let r := s.chan.channels[c].record
  match r.zone with
  | none => ⟨true, false, s.msg.op == .stopping, .mute, r.trim, s.prot.records[c].reduction⟩
  | some z =>
    ⟨false, s.mix.zones[z].mute, s.msg.op == .stopping, curveValue s c z, r.trim, s.prot.records[c].reduction⟩

/-- The step target of an output point (R73, R74). -/
def OutputContext.target (x : OutputContext) : Step :=
  if x.disabled || x.muted || x.stopping then .mute
  else combine [x.curve, .steps x.trim, x.reduction]

/-! ## Ramps (R77, R78) -/

/-- A ramp from a current gain to a linear target. -/
def Ramp.toward (start target length : Nat) (cause : RampCause) : Ramp :=
  ⟨start, ((target : Int) - start).tdiv length, length, length, cause⟩

/-- A point takes a step target (R68, R77, R78): a new linear target abandons the running ramp and starts another, or
none when the current gain already stands there; an equal one leaves the ramp as it is. -/
def GainPoint.retarget (p : GainPoint) (t : Step) (length : Nat) (cause : RampCause) : GainPoint :=
  let g := linearOf t
  if g = p.linear then { p with step := t }
  else if g = p.current then { p with step := t, linear := g, ramp := none }
  else { p with step := t, linear := g, ramp := some (.toward p.current g length cause) }

/-- A point starts again at START or relink (R82, R86): with a nonzero linear target it ramps from zero. -/
def GainPoint.startAgain (_p : GainPoint) (t : Step) (length : Nat) : GainPoint :=
  let g := linearOf t
  ⟨t, g, 0, if g = 0 then none else some (.toward 0 g length .start)⟩

/-- A running ramp advances by one frame; its last frame lands on the target (R77). -/
def GainPoint.advance (p : GainPoint) : GainPoint :=
  match p.ramp with
  | none => p
  | some r =>
    if r.left ≤ 1 then { p with current := p.linear, ramp := none }
    else { p with current := (p.current + r.step).toNat, ramp := some { r with left := r.left - 1 } }

/-- One point in one processed frame (R68): a start, or a retarget, and then one frame of its ramp. -/
def GainPoint.frame (p : GainPoint) (starting : Bool) (t : Step) (startLength length : Nat) (cause : RampCause) :
    GainPoint :=
  (if starting then p.startAgain t startLength else p.retarget t length cause).advance

/-! ## Causes and lengths -/

/-- What a route's target is computed from now. -/
def routeContextOf (s : State) (i : Fin 32) : RouteContext :=
  let r := s.mix.routes[i]
  ⟨suspended s.mix r, ducking s.call, s.call.placement, duckPart s.call r⟩

/-- The ramp length and cause of a route target's change (R51, R167): a suspension starting or lifting takes the claim
fade; ducking applied, lifted or moved takes the route ramp with ducking as its cause; anything else the route ramp. -/
def routeCause (r : RampRecord) (old new : RouteContext) : Nat × RampCause :=
  if old.suspended != new.suspended then (r.claim, .suspension)
  else if (old.ducked != new.ducked || old.placement != new.placement) && old.duck != new.duck then
    (r.route, .ducking)
  else (r.route, .route)

/-- A change of one component of an output target: a fall or a rise, by some steps or to or from MUTE (none), with the
ramp length of its cause (R79). -/
structure OutputMove where
  falls : Bool
  size : Option Nat
  length : Nat
  cause : RampCause
  deriving DecidableEq, Repr

/-- The move of a component from one value to another, given the length of a fall and of a rise (R79). -/
def outputMove (old new : Step) (fall rise : Nat) (cause : RampCause) : Option OutputMove :=
  match old, new with
  | .mute, .mute => none
  | .steps _, .mute => some ⟨true, none, fall, cause⟩
  | .mute, .steps _ => some ⟨false, none, rise, cause⟩
  | .steps a, .steps b =>
    if b < a then some ⟨true, some (a - b).toNat, fall, cause⟩
    else if a < b then some ⟨false, some (b - a).toNat, rise, cause⟩
    else none

/-- A zone's mute as a component. -/
def muteStep (m : Bool) : Step := if m then .mute else .steps 0

/-- The changed components of an output target, each with the context in which it alone has changed. -/
def outputMoves (r : RampRecord) (old new : OutputContext) : List (OutputMove × OutputContext) :=
  [(outputMove old.curve new.curve r.volume r.volume .volume).map fun m => (m, { old with curve := new.curve }),
   (outputMove (muteStep old.muted) (muteStep new.muted) r.volume r.volume .volume).map fun m =>
     (m, { old with muted := new.muted }),
   (outputMove old.reduction new.reduction r.attack r.release .protection).map fun m =>
     (m, { old with reduction := new.reduction })].reduceOption

/-- Whether a fall is larger than another, a fall to MUTE being larger than any (R79). -/
def largerFall : Option Nat → Option Nat → Bool
  | none, some _ => true
  | some a, some b => decide (b < a)
  | _, none => false

/-- The move that decides when all moves fall: the largest, of equal ones the shorter length (R79). -/
def deepest (m : OutputMove) : List OutputMove → OutputMove
  | [] => m
  | x :: xs =>
    deepest (if largerFall x.size m.size || (x.size == m.size && decide (x.length < m.length)) then x else m) xs

/-- The move that decides when all moves rise: the longest length (R79). -/
def longest (m : OutputMove) : List OutputMove → OutputMove
  | [] => m
  | x :: xs => longest (if m.length < x.length then x else m) xs

/-- The length and cause that a list of moves gives (R79): falls and rises together take the attack ramp. -/
def decideMoves (r : RampRecord) : List OutputMove → Nat × RampCause
  | [] => (r.volume, .volume)
  | m :: ms =>
    if (m :: ms).all (fun x => x.falls) then ((deepest m ms).length, (deepest m ms).cause)
    else if (m :: ms).all (fun x => !x.falls) then ((longest m ms).length, (longest m ms).cause)
    else (r.attack, .protection)

/-- The ramp length and cause of an output target's change (R79, R83). Entry to STOPPING takes the stop ramp. A cause
whose change alone leaves the step target as it was takes no part; when none alone changes it, all changed components
decide. Log entry 18. -/
def outputCause (r : RampRecord) (old new : OutputContext) : Nat × RampCause :=
  if new.stopping && !old.stopping then (r.stop, .stop)
  else
    let all := outputMoves r old new
    let parts := all.filter fun x => x.2.target != old.target
    decideMoves r (if parts.isEmpty then all.map (·.1) else parts.map (·.1))

/-- The length of a change of the radio point's target (R155): the attack ramp down, the release ramp up. -/
def radioLength (r : RampRecord) (old new : Step) : Nat := if new.below old then r.attack else r.release

/-- The ramp length of a beam-crossfade point (R181). -/
def beamLength : Nat := 480

/-! ## The frame (R68) -/

/-- Route point i after the frame. -/
def routePointFrame (s : State) (i : Fin 32) : GainPoint :=
  let k := routeCause s.gain.ramps s.gain.routeContext[i] (routeContextOf s i)
  s.gain.route[i].frame s.gain.startPending (routeTarget s.mix s.call s.mix.routes[i]) s.gain.ramps.route k.1 k.2

/-- Output point c after the frame. -/
def outPointFrame (s : State) (c : Fin 28) : GainPoint :=
  let k := outputCause s.gain.ramps s.gain.outContext[c] (outputContext s c)
  s.gain.out[c].frame s.gain.startPending (outputContext s c).target s.gain.ramps.volume k.1 k.2

/-- The gain unit after the targets are computed and the ramps advanced (R68, R82, R86). -/
def gainStep (s : State) : GainUnit :=
  let g := s.gain
  let r := g.ramps
  { g with
    route := Vector.ofFn fun i => routePointFrame s i
    seat := Vector.ofFn fun z => g.seat[z].frame g.startPending (seatTarget s.mix z) r.claim r.claim .claim
    feed := Vector.ofFn fun z => g.feed[z].frame g.startPending (feedTarget s.call z) r.call r.call .call
    radio := g.radio.frame g.startPending (radioTarget s) r.release (radioLength r g.radio.step (radioTarget s)) .radio
    uplink := g.uplink.frame g.startPending (uplinkTarget s) r.call r.call .call
    beam := Vector.ofFn fun b => g.beam[b].frame g.startPending (beamTarget s.uplink b) beamLength beamLength .beam
    out := Vector.ofFn fun c => outPointFrame s c
    routeContext := Vector.ofFn fun i => routeContextOf s i
    outContext := Vector.ofFn fun c => outputContext s c
    startPending := false }

/-- Whether a change of an output point's step target raises a path-change event (R76). -/
def pathJump (pathStep : Nat) : Step → Step → Bool
  | .mute, .mute => false
  | .mute, .steps _ => true
  | .steps _, .mute => true
  | .steps a, .steps b => decide (pathStep < (a - b).natAbs)

/-- Some output point's step target has changed so much that an event is raised (R76). -/
def outputsJump (pathStep : Nat) (old new : GainUnit) : Bool :=
  (List.finRange 28).any fun c => pathJump pathStep old.out[c].step new.out[c].step

/-- The gain unit raises a path-change event in this frame (R76). -/
def gainEvent (s : State) : Bool := outputsJump s.uplink.record.pathStep s.gain (gainStep s)

/-- The gain unit's part of a processed frame in which it runs (R68, R76). -/
def gainFrame (s : State) : State :=
  let t := s.setGain (gainStep s)
  if gainEvent s then takePath (raisePath t) else t

/-- A target recorded where no point ramps (R81). -/
def GainPoint.recordTarget (p : GainPoint) (t : Step) : GainPoint := { p with step := t, linear := linearOf t }

/-- The gain unit's part of a processed frame in CONFIG, or in PATTERN entered from CONFIG (R81): targets are recorded,
nothing ramps. -/
def gainRecord (s : State) : State :=
  let g := s.gain
  s.setGain { g with
    route := Vector.ofFn fun i => g.route[i].recordTarget (routeTarget s.mix s.call s.mix.routes[i])
    seat := Vector.ofFn fun z => g.seat[z].recordTarget (seatTarget s.mix z)
    feed := Vector.ofFn fun z => g.feed[z].recordTarget (feedTarget s.call z)
    radio := g.radio.recordTarget (radioTarget s)
    uplink := g.uplink.recordTarget (uplinkTarget s)
    beam := Vector.ofFn fun b => g.beam[b].recordTarget (beamTarget s.uplink b)
    out := Vector.ofFn fun c => g.out[c].recordTarget (outputContext s c).target
    routeContext := Vector.ofFn fun i => routeContextOf s i
    outContext := Vector.ofFn fun c => outputContext s c }

end Sys2Proof.Machine
end

