-- ==== Sys2Proof/Machine/Mix.lean ====
section
/-! DEFINITION. The mix unit (spec 03): the zone buses, and the claims of the seat zones. -/

namespace Sys2Proof.Machine

/-! ## Zone buses (R53 to R56) -/

/-- The sample of a role in a frame: the slot that carries it, or zero when none does (R14). -/
def roleSample (m : Vector Role 96) (f : Frame) (r : Role) : Int :=
  match (List.finRange 96).find? fun i => m[i] == r with
  | some i => sampleOf f.slots[i]
  | none => 0

/-- The pair a source delivers in a frame (R43): a media source its two slots, a mono source its slot on both sides,
RADIO the radio unit's output. -/
def sourcePair (m : Vector Role 96) (f : Frame) (radio : Int × Int) : Source → Int × Int
  | .radio => radio
  | .mediaA => (roleSample m f (.srcL .a), roleSample m f (.srcR .a))
  | .mediaB => (roleSample m f (.srcL .b), roleSample m f (.srcR .b))
  | .mediaC => (roleSample m f (.srcL .c), roleSample m f (.srcR .c))
  | .prompt => let x := roleSample m f (.srcM .prompt); (x, x)
  | .chime => let x := roleSample m f (.srcM .chime); (x, x)
  | .call => let x := roleSample m f (.srcM .callDown); (x, x)

/-- The contributions of the ENABLED routes of a zone (R54). -/
def routeContributions (s : State) (src : Source → Int × Int) (z : Fin 5) : List (Int × Int) :=
  (List.finRange 32).filterMap fun i =>
    let r := s.mix.routes[i]
    if r.state = .enabled ∧ r.zone = z then some (applyGainPair (src r.source) s.gain.route[i].current) else none

/-- The source a seat's point carries (R56): a RELEASING claim's, otherwise a HELD claim's. -/
def seatSource (m : MixUnit) (z : Fin 2) : Option Source :=
  match m.claims.find? fun c => c.zone == z && c.state == .releasing with
  | some c => some c.source
  | none => (m.claims.find? fun c => c.zone == z && c.state == .held).map fun c => c.source

/-- The contribution of a seat's point (R55, R56): in mode PRIVATE the source it carries, in mode SHARED only a
RELEASING one. -/
def seatContributions (s : State) (src : Source → Int × Int) (z : Fin 2) : List (Int × Int) :=
  let carries := s.mix.zones[seatZone z].seatMode ||
    s.mix.claims.any fun c => c.zone == z && c.state == .releasing
  if carries then
    match seatSource s.mix z with
    | some x => [applyGainPair (src x) s.gain.seat[z].current]
    | none => []
  else []

/-- All contributions to a zone's bus (spec 03, 3.4). -/
def contributions (s : State) (src : Source → Int × Int) (z : Fin 5) : List (Int × Int) :=
  let own := routeContributions s src z ++ [applyGainPair (src .call) s.gain.feed[z].current]
  match seatOf z.val with
  | none => own
  | some a =>
    (if s.mix.zones[z].seatMode then [] else routeContributions s src 1) ++ own ++ seatContributions s src a

/-- The bus of a zone: each side summed exactly and saturated once (R53). -/
def zoneBus (s : State) (src : Source → Int × Int) (z : Fin 5) : Int × Int :=
  let parts := contributions s src z
  (saturate (parts.map Prod.fst).sum, saturate (parts.map Prod.snd).sum)

/-! ## Claims (R58 to R66) -/

/-- A seat's claim in PENDING or HELD (R58). -/
def claimOf (m : MixUnit) (z : Fin 2) : Option Claim :=
  m.claims.find? fun c => c.zone == z && c.state != .releasing

/-- A seat's claim in RELEASING (R58). -/
def releasingOf (m : MixUnit) (z : Fin 2) : Option Claim :=
  m.claims.find? fun c => c.zone == z && c.state == .releasing

/-- The claim a zone record shows (R58): the one in PENDING or HELD, otherwise the one in RELEASING. -/
def shownClaim (m : MixUnit) (z : Fin 2) : Option Claim :=
  match claimOf m z with
  | some c => some c
  | none => releasingOf m z

/-- A seat zone's mode is set: PRIVATE (true) or SHARED (false). -/
def setSeatMode (z : Fin 2) (on : Bool) (s : State) : State :=
  s.setMix { s.mix with zones := s.mix.zones.set (seatZone z) { s.mix.zones[seatZone z] with seatMode := on } }

/-- A seat's PENDING claim ends at once (R60, step 1): it leaves the list and a CLAIM notice NONE is posted. -/
def endPending (z : Fin 2) (c : Claim) (s : State) : State :=
  postNotice (.claim z c.source false)
    (s.setMix { s.mix with claims := s.mix.claims.filter fun x => !(x.zone == z && x.state == .pending) })

/-- A seat's HELD claim becomes RELEASING (R62). -/
def releaseHeld (z : Fin 2) (s : State) : State :=
  s.setMix { s.mix with claims := s.mix.claims.map fun x =>
    if x.zone = z ∧ x.state = .held then { x with state := .releasing } else x }

/-- A seat's RELEASING claim reaches NONE (R62). -/
def claimReachesNone (z : Fin 2) (s : State) : State :=
  match releasingOf s.mix z with
  | none => s
  | some c =>
    postNotice (.claim z c.source false)
      (s.setMix { s.mix with claims := s.mix.claims.filter fun x => !(x.zone == z && x.state == .releasing) })

/-- A seat's PENDING claim, if it has one. -/
def pendingOf (m : MixUnit) (z : Fin 2) : Option Claim :=
  m.claims.find? fun c => c.zone == z && c.state == .pending

/-- A seat's PENDING claim becomes HELD (R61). -/
def claimBecomesHeld (z : Fin 2) (s : State) : State :=
  match pendingOf s.mix z with
  | none => s
  | some c =>
    postNotice (.claim z c.source true)
      (s.setMix { s.mix with claims := s.mix.claims.map fun x =>
        if x.zone = z ∧ x.state = .pending then { x with state := .held } else x })

/-- The test of R62: a RELEASING claim whose seat's point has current gain zero. -/
def noneDue (s : State) (z : Fin 2) : Bool :=
  (releasingOf s.mix z).isSome && s.gain.seat[z].current == 0

/-- Every route from a source to a shared zone has current gain zero (R61). -/
def sharedRoutesSilent (s : State) (x : Source) : Bool :=
  (List.finRange 32).all fun i =>
    let r := s.mix.routes[i]
    !(r.state != .empty && r.source == x && decide (r.zone.val ≤ 2)) || s.gain.route[i].current == 0

/-- The test of R61: a PENDING claim whose shared routes are silent and whose zone has no RELEASING claim. -/
def heldDue (s : State) (z : Fin 2) : Bool :=
  match pendingOf s.mix z with
  | none => false
  | some c => sharedRoutesSilent s c.source && (releasingOf s.mix z).isNone

/-- The tests of R62 and then of R61 for both seats, as at the end of a processed frame. Where
both seats' claims move in one frame, Z3's notice is posted before Z4's (log entry 36). -/
def settleClaims (s : State) : State :=
  let none_ (z : Fin 2) (t : State) : State := if noneDue t z then claimReachesNone z t else t
  let held_ (z : Fin 2) (t : State) : State := if heldDue t z then claimBecomesHeld z t else t
  held_ 1 (held_ 0 (none_ 1 (none_ 0 s)))

/-- The claim steps of R60: the seat's claim on another source ends or is released, the new claim joins the list
PENDING, the mode becomes PRIVATE. -/
def newClaim (z : Fin 2) (x : Source) (s : State) : State :=
  let t : State := match claimOf s.mix z with
    | none => s
    | some c => if c.state = ClaimState.pending then endPending z c s else releaseHeld z s
  setSeatMode z true (t.setMix { t.mix with claims := t.mix.claims ++ [⟨z, x, .pending⟩] })

/-- Every route point a claim on a source suspends is set to current gain zero (R64). -/
def silenceShared (x : Source) (s : State) : State :=
  s.setGain { s.gain with route := Vector.ofFn fun i =>
    let r := s.mix.routes[i]
    if r.source = x ∧ r.zone.val ≤ 2 then s.gain.route[i].silenced else s.gain.route[i] }

/-- A release in CONFIG passes at once (R64): the seat's point is at zero and the claim reaches NONE. -/
def releaseAtOnce (z : Fin 2) (s : State) : State :=
  claimReachesNone z (silencePoint (.seat z) (releaseHeld z s))

/-- A new claim in CONFIG passes its fades at once (R64). -/
def claimAtOnce (z : Fin 2) (x : Source) (s : State) : State :=
  claimBecomesHeld z (claimReachesNone z (silencePoint (.seat z) (silenceShared x (newClaim z x s))))

/-- STOP releases every claim (R65), Z3's before Z4's (log entry 36). -/
def releaseAll (s : State) : State :=
  let one (z : Fin 2) (t : State) : State :=
    let u := match pendingOf t.mix z with
      | some c => endPending z c t
      | none => t
    setSeatMode z false (releaseHeld z u)
  one 1 (one 0 s)

/-- When STOPPING reaches CONFIG every RELEASING claim reaches NONE at once (R65), Z3's before Z4's (log entry 36). -/
def dropReleasing (s : State) : State := claimReachesNone 1 (claimReachesNone 0 s)

end Sys2Proof.Machine
end

