-- ==== Sys2Proof/Machine/Channel.lean ====
section
/-! DEFINITION. The channel unit (spec 05): the signal path of a channel, the banks, the stability test, the activation
queue and the crossfade units. -/

namespace Sys2Proof.Machine

/-! ## The signal path (R90 to R94, R104) -/

/-- The input a channel takes from its zone's bus (R90). -/
def sideOfBus (side : Side) (bus : Int × Int) : Int :=
  match side with
  | .left => bus.1
  | .right => bus.2
  | .sum => (bus.1 + bus.2) / 2

/-- One biquad stage on one sample (R91): its new history and its output. -/
def stageStep (c : Stage) (h : StageHistory) (x0 : Int) : StageHistory × Int :=
  let acc := c.b0 * x0 + c.b1 * h.x1 + c.b2 * h.x2 - c.a1 * h.y1 - c.a2 * h.y2
  let y0 := saturate ((acc + 2097152) / 4194304)
  (⟨x0, h.x1, y0, h.y1⟩, y0)

/-- The eight stages of a bank on one sample, in order (R91): the bank with its new histories, and its output. -/
def bankStep (b : Bank) (x : Int) : Bank × Int :=
  let r := (List.finRange 8).foldl
    (fun (a : Vector StageHistory 8 × Int) (i : Fin 8) =>
      let y := stageStep b.stages[i] a.1[i] a.2
      (a.1.set i y.1, y.2))
    (b.history, x)
  ({ b with history := r.1 }, r.2)

/-- A bank with all its histories zero (R92). -/
def Bank.rested (b : Bank) : Bank := { b with history := Vector.replicate 8 .zero }

/-- The live bank of a channel (R95). -/
def Channel.live (c : Channel) : Bank := if c.liveB then c.bankB else c.bankA

/-- The spare bank of a channel (R95). -/
def Channel.spareBank (c : Channel) : Bank := if c.liveB then c.bankA else c.bankB

/-- A channel with another live bank contents. -/
def Channel.setLive (c : Channel) (b : Bank) : Channel :=
  if c.liveB then { c with bankB := b } else { c with bankA := b }

/-- A channel with another spare bank contents. -/
def Channel.setSpare (c : Channel) (b : Bank) : Channel :=
  if c.liveB then { c with bankA := b } else { c with bankB := b }

/-- The blend of a crossfade at count n (R104). -/
def blendBanks (old new : Int) (n : Nat) : Int := (old * (512 - n) + new * n + 256) / 512

/-- The crossfade unit busy with a channel, if one is (R103). -/
def fadeOf (u : ChannelUnit) (c : Fin 28) : Option BankFade :=
  (u.fades.toList.filterMap id).find? fun f => f.channel == c

/-- The channel's sample before the output point, with its banks' new histories (steps 1 to 3 of 5.2). -/
def filterChannel (c : Channel) (fade : Option BankFade) (x : Int) : Channel × Int :=
  let l := bankStep c.live x
  match fade with
  | none => (c.setLive l.1, l.2)
  | some f =>
    let p := bankStep c.spareBank x
    ((c.setLive l.1).setSpare p.1, blendBanks l.2 p.2 f.count)

/-- One channel in one processed frame (R90 to R94): its input, its filters, its output point, its peak. -/
def channelStep (c : Channel) (fade : Option BankFade) (gain : Nat) (buses : Vector (Int × Int) 5) : Channel :=
  let x := match c.record.zone with
    | none => 0
    | some z => sideOfBus c.record.side buses[z]
  let r := filterChannel c fade x
  let y := saturate (applyGain r.2 gain)
  { r.1 with out := y, peak := max r.1.peak (magnitude y) }

/-- The channel unit's part of a processed frame in which it runs; a busy unit's count advances with the frame (R104). -/
def channelFrame (buses : Vector (Int × Int) 5) (s : State) : State :=
  s.setChan { s.chan with
    channels := Vector.ofFn fun c =>
      channelStep s.chan.channels[c] (fadeOf s.chan c) s.gain.out[c].current buses
    fades := s.chan.fades.map fun f => f.map fun b => { b with count := b.count + 1 } }

/-- The peaks start again at 0 (R94). -/
def clearPeaks (s : State) : State :=
  s.setChan { s.chan with channels := s.chan.channels.map fun c => { c with peak := 0 } }

/-! ## Banks (R95 to R101) -/

/-- A stage passes the stability test (R99). -/
def stageStable (c : Stage) : Bool :=
  decide (c.a2.natAbs < 4194304) && decide ((c.a1.natAbs : Int) < 4194304 + c.a2)

/-- The failing stage of a bank, the first that fails, if any (R99). -/
def failingStage (b : Bank) : Option (Fin 8) := (List.finRange 8).find? fun i => !stageStable b.stages[i]

/-- A channel's record in the unit is replaced. -/
def setChannel (c : Fin 28) (x : Channel) (s : State) : State :=
  s.setChan { s.chan with channels := s.chan.channels.set c x }

/-- The spare bank of a channel takes a state (R96). -/
def setSpareState (c : Fin 28) (x : SpareState) (s : State) : State :=
  setChannel c { s.chan.channels[c] with spare := x } s

/-- The live bank and the spare change places; the new spare keeps no history and is LOADED (R92, R105). -/
def Channel.exchange (c : Channel) : Channel :=
  { c.setLive c.live.rested with liveB := !c.liveB, spare := .loaded }

/-- An immediate swap (R92, R106): the new live bank starts from zero histories. -/
def Channel.swapNow (c : Channel) : Channel := (c.setSpare c.spareBank.rested).exchange

/-- A channel's banks swap without a crossfade (R100, R106). -/
def swapChannel (c : Fin 28) (s : State) : State := setChannel c s.chan.channels[c].swapNow s

/-- A channel joins the tail of the activation queue (R100, R102). -/
def queueActivation (c : Fin 28) (s : State) : State :=
  let t := setSpareState c .queued s
  t.setChan { t.chan with queue := t.chan.queue ++ [c] }

/-- What a clean close of a COEF cursor with ACTIVATE-ON-CLOSE asks for (R101). -/
def activateOnClose (c : Fin 28) (s : State) : State :=
  match failingStage s.chan.channels[c].spareBank with
  | some i => postNotice (.bank c .unstable i.val) s
  | none =>
    if s.msg.op = .config then postNotice (.bank c .immediate 0) (swapChannel c s)
    else queueActivation c s

/-! ## The activation queue and the crossfade units (R102 to R107) -/

/-- A free unit takes the oldest channel of the queue (R103). -/
def serveUnit (u : Fin 4) (s : State) : State :=
  match s.chan.fades[u], s.chan.queue with
  | none, c :: rest =>
    let x := s.chan.channels[c]
    let t := setChannel c { x.setSpare x.spareBank.rested with spare := .fading } s
    t.setChan { t.chan with queue := rest, fades := t.chan.fades.set u (some ⟨c, 0⟩) }
  | _, _ => s

/-- The queue is served (R103): while a unit is free and the queue is not empty, the oldest channel takes the
lowest-numbered free unit. -/
def serveQueue (s : State) : State := serveUnit 3 (serveUnit 2 (serveUnit 1 (serveUnit 0 s)))

/-- The queue can be served: a unit is free and the queue is not empty (R103). -/
def serviceDue (s : State) : Bool := !s.chan.queue.isEmpty && s.chan.fades.toList.any (fun f => f.isNone)

/-- The fade of a unit's channel ends (R105): the banks exchange, the new live bank keeping its histories; the unit is
free; a BANK notice SWAPPED is posted and a path-change event is raised. -/
def endFade (u : Fin 4) (s : State) : State :=
  match s.chan.fades[u] with
  | none => s
  | some f =>
    let t := setChannel f.channel s.chan.channels[f.channel].exchange s
    raisePath (postNotice (.bank f.channel .swapped 0)
      (t.setChan { t.chan with fades := t.chan.fades.set u none }))

/-- A unit's count has passed 511: the frame of count 511 has run (R105). -/
def fadeOver (s : State) (u : Fin 4) : Bool :=
  match s.chan.fades[u] with
  | none => false
  | some f => decide (512 ≤ f.count)

/-- Every fade that is over ends (R105), in unit order (log entry 36). -/
def endFades (s : State) : State :=
  (List.finRange 4).foldl (fun t u => if fadeOver t u then endFade u t else t) s

/-- A fade that began earlier comes before one that began later; of two that began together,
the lower unit (R106, log entry 36). -/
def insertFade (f : BankFade) : List BankFade → List BankFade
  | [] => [f]
  | g :: gs => if g.count < f.count then f :: g :: gs else g :: insertFade f gs

/-- The channels with an activation under way: the fading ones in the order in which their fades began, then the queued
ones from the oldest (R106). -/
def underWay (u : ChannelUnit) : List (Fin 28) :=
  ((u.fades.toList.filterMap id).foldl (fun a f => insertFade f a) []).map (fun f => f.channel) ++ u.queue

/-- Every activation under way completes as an immediate swap (R106, R107), each with a notice that is posted or
deferred. -/
def completeActivations (post : NoticeDetail → State → State) (s : State) : State :=
  let t := (underWay s.chan).foldl (fun t c => post (.bank c .immediate 0) (swapChannel c t)) s
  t.setChan { t.chan with queue := [], fades := Vector.replicate 4 none }

/-- The channel unit at START (R92, R94, R15): zero histories in every live bank, zero peaks, zero outputs. -/
def startChannels (s : State) : State :=
  s.setChan { s.chan with channels := s.chan.channels.map fun c =>
    { c.setLive c.live.rested with peak := 0, out := 0 } }

end Sys2Proof.Machine
end

