-- ==== Sys2Proof/Machine/Protect.lean ====
section
/-! DEFINITION. The protection unit (spec 06): amplifier status, derating, the two tiers, the fast tier, trips and
latching, the reduction, and the superframe evaluation. -/

namespace Sys2Proof.Machine

/-! ## Amplifier status (R17, R112) -/

/-- An amplifier takes the status of its slot (R17, R112): temperature code 23..16, over-temperature flag 15, clip
flags 7..0. -/
def Amplifier.read (a : Amplifier) (w : SlotWord) : Amplifier :=
  let hot := w.getLsbD 15
  { a with
    temperature := w.toNat / 65536 % 256
    overTemp := hot
    overTempMark := a.overTempMark || hot
    clipMarks := a.clipMarks ||| w.setWidth 8 }

/-- The slot of an amplifier's role, if the map has one. -/
def ampSlot (m : Vector Role 96) (a : Fin 4) : Option (Fin 96) := (List.finRange 96).find? fun i => m[i] == .amp a

/-- An amplifier after a frame: a mapped one takes its slot's status (R112). -/
def ampInFrame (s : State) (f : Frame) (a : Fin 4) : Amplifier :=
  match ampSlot s.ring.slotMap a with
  | some i => s.prot.amps[a].read f.slots[i]
  | none => s.prot.amps[a]

/-- The protection unit takes the status of every mapped amplifier (R112). -/
def ampFrame (f : Frame) (s : State) : State :=
  s.setProt { s.prot with amps := Vector.ofFn fun a => ampInFrame s f a }

/-- The block marks of an amplifier are cleared (R112). -/
def Amplifier.clearMarks (a : Amplifier) : Amplifier := { a with overTempMark := false, clipMarks := 0 }

/-- START sets the status-present marks from the slot map and clears the block marks (R112). -/
def startAmps (s : State) : State :=
  let amp (a : Fin 4) : Amplifier :=
    { s.prot.amps[a].clearMarks with status := (ampSlot s.ring.slotMap a).isSome }
  s.setProt { s.prot with amps := Vector.ofFn amp }

/-! ## Levels and derating (R113) -/

/-- The amplifier of a channel, when it names one whose status is present (R113, R119). -/
def statusAmp (s : State) (c : Fin 28) : Option Amplifier :=
  match s.chan.channels[c].record.amp with
  | none => none
  | some a => if s.prot.amps[a].status then some s.prot.amps[a] else none

/-- The class of a channel (R109). -/
def classOf (s : State) (c : Fin 28) : ProtectClass := s.prot.classes[s.chan.channels[c].record.cls]

/-- A channel is derated (R113): its amplifier's temperature code is at or above the limit code minus the class's
band. -/
def derated (s : State) (c : Fin 28) : Bool :=
  match statusAmp s c with
  | none => false
  | some a => decide ((a.limit : Int) - (classOf s c).derateBand ≤ a.temperature)

/-- A level as it stands for a channel (R113). -/
def effective (level factor : Nat) (hot : Bool) : Nat := if hot then level - level * factor / 256 else level

/-! ## Tiers (R116 to R118) -/

/-- What one tier of a class is given: its alert time, its effective trigger and recovery levels, the recovery time. -/
structure TierSetting where
  time : Nat
  level : Nat
  recover : Nat
  recoverTime : Nat
  deriving DecidableEq, Repr

/-- The setting of a channel's tier (R113, R115). -/
def tierSetting (s : State) (c : Fin 28) (t : TierNo) : TierSetting :=
  let k := classOf s c
  let hot := derated s c
  match t with
  | .one => ⟨k.t1Time, effective k.t1Level k.derateFactor hot, effective k.t1Recover k.derateFactor hot, k.recoverTime⟩
  | .two => ⟨k.t2Time, effective k.t2Level k.derateFactor hot, effective k.t2Recover k.derateFactor hot, k.recoverTime⟩

/-- A tier at an evaluation with block peak P (R116, R117, R118). -/
def Tier.evaluate (x : Tier) (k : TierSetting) (p : Nat) : Tier :=
  if k.time = 0 then ⟨.clear, 0⟩
  else match x.state with
    | .clear => if k.level ≤ p then ⟨.alert, k.time⟩ else x
    | .alert =>
      if p < k.level then ⟨.clear, 0⟩
      else if x.timer ≤ 1 then ⟨.active, 0⟩ else ⟨.alert, x.timer - 1⟩
    | .active => if p < k.recover then ⟨.recovery, k.recoverTime⟩ else x
    | .recovery =>
      if k.recover ≤ p then ⟨.active, 0⟩
      else if x.timer ≤ 1 then ⟨.clear, 0⟩ else ⟨.recovery, x.timer - 1⟩

/-- The tier holds its reduction: it is ACTIVE or in RECOVERY (R121). -/
def Tier.reduces (x : Tier) : Bool :=
  match x.state with
  | .active | .recovery => true
  | .clear | .alert => false

/-- A trip: the tier has entered ACTIVE from ALERT (R117). -/
def tripped (old new : Tier) : Bool := old.state == .alert && new.state == .active

/-- The tier has left ACTIVE: it has gone to CLEAR after holding its reduction (R122); one that R118 has begin in CLEAR may
stand in ALERT already. -/
def leftActive (old new : Tier) : Bool := old.reduces && !new.reduces

/-! ## The fast tier (R119) -/

/-- A channel's marks of the block: its amplifier's over-temperature mark or its own clip mark (R119). -/
def flagged (s : State) (c : Fin 28) : Bool :=
  match statusAmp s c with
  | none => false
  | some a => a.overTempMark || a.clipMarks.getLsbD s.chan.channels[c].record.ampChannel.val

/-- The fast tier at an evaluation: its hold and its timer (R119). -/
def fastEvaluate (marked : Bool) (hold : Bool) (timer fastHold : Nat) : Bool × Nat :=
  if marked then (true, fastHold)
  else if hold then (if timer ≤ 1 then (false, 0) else (true, timer - 1))
  else (hold, timer)

/-! ## Trips and the reduction (R120, R121) -/

/-- The trip history after a trip at superframe count n (R120): aged stamps leave the front, the oldest leaves a full
list, n joins the end. -/
def recordTrip (trips : List (BitVec 32)) (n : BitVec 32) (window : Nat) : List (BitVec 32) :=
  let kept := trips.dropWhile fun t => decide (window ≤ (n - t).toNat)
  (if 15 ≤ kept.length then kept.tail else kept) ++ [n]

/-- The reduction of a channel (R121). -/
def reductionOf (k : ProtectClass) (r : ProtectRecord) : Step :=
  if r.tier2.reduces || r.latched then .mute
  else .steps ((if r.tier1.reduces then k.t1Reduce else 0) + (if r.fastHold then k.fastReduce else 0))

/-- The record of a channel once its tiers and its fast tier have moved (R120, R121): a tier-2 trip enters the history
and may latch; the reduction is recomputed. -/
def afterMoves (k : ProtectClass) (n : BitVec 32) (r : ProtectRecord) (t1 t2 : Tier) (fast : Bool × Nat) :
    ProtectRecord :=
  let trips := if tripped r.tier2 t2 then recordTrip r.trips n k.latchWindow else r.trips
  let latches := tripped r.tier2 t2 && k.latchCount != 0 && decide (k.latchCount ≤ trips.length)
  let x : ProtectRecord :=
    { r with tier1 := t1, tier2 := t2, fastHold := fast.1, fastTimer := fast.2, trips := trips,
             latched := r.latched || latches }
  { x with reduction := reductionOf k x }

/-- The notices one evaluation of a channel calls for, in the order of R122. -/
def protectNotices (c : Fin 28) (old new : ProtectRecord) : List NoticeDetail :=
  (if tripped old.tier1 new.tier1 then [.protect c .tier1Active] else []) ++
  (if leftActive old.tier1 new.tier1 then [.protect c .tier1Left] else []) ++
  (if tripped old.tier2 new.tier2 then [.protect c .tier2Active] else []) ++
  (if leftActive old.tier2 new.tier2 then [.protect c .tier2Left] else []) ++
  (if !old.latched && new.latched then [.protect c .latched] else [])

/-- A channel's protection record is replaced; a changed reduction raises a path-change event (R123). -/
def setProtection (c : Fin 28) (r : ProtectRecord) (s : State) : State :=
  let t := s.setProt { s.prot with records := s.prot.records.set c r }
  if s.prot.records[c].reduction = r.reduction then t else raisePath t

/-- A channel's tiers and fast tier take new values, with all that follows (R120 to R123). -/
def moveProtection (c : Fin 28) (t1 t2 : Tier) (fast : Bool × Nat) (s : State) : State :=
  let old := s.prot.records[c]
  let new := afterMoves (classOf s c) s.prot.count old t1 t2 fast
  postNotices (protectNotices c old new) (setProtection c new s)

/-! ## The superframe evaluation (R115) -/

/-- A channel is enabled: its zone is not NONE (R88). -/
def enabled (s : State) (c : Fin 28) : Bool := s.chan.channels[c].record.zone.isSome

/-- A tier of a channel's record. -/
def ProtectRecord.tier (r : ProtectRecord) : TierNo → Tier
  | .one => r.tier1
  | .two => r.tier2

/-- A tier's time has been written to nonzero from 0 since the last evaluation (R118). -/
def ProtectRecord.restart (r : ProtectRecord) : TierNo → Bool
  | .one => r.restart1
  | .two => r.restart2

/-- The tier an evaluation begins from (R118): CLEAR where its time has been written to nonzero from 0 (log entry 38). -/
def ProtectRecord.tierBefore (r : ProtectRecord) (t : TierNo) : Tier := if r.restart t then ⟨.clear, 0⟩ else r.tier t

/-- A channel's tier as the evaluation leaves it, from the block peak in progress. -/
def evaluatedTier (s : State) (c : Fin 28) (t : TierNo) : Tier :=
  (s.prot.records[c].tierBefore t).evaluate (tierSetting s c t) s.chan.channels[c].peak

/-- A channel's fast tier as the evaluation leaves it. -/
def evaluatedFast (s : State) (c : Fin 28) : Bool × Nat :=
  let r := s.prot.records[c]
  fastEvaluate (flagged s c) r.fastHold r.fastTimer (classOf s c).fastHold

/-- The marks of R118 of a channel are cleared. -/
def clearRestarts (c : Fin 28) (s : State) : State :=
  s.setProt { s.prot with
    records := s.prot.records.set c { s.prot.records[c] with restart1 := false, restart2 := false } }

/-- The evaluation of one channel (R115, R118); a disabled one stays as it stood. -/
def evaluateChannel (s : State) (c : Fin 28) : State :=
  if enabled s c then
    clearRestarts c (moveProtection c (evaluatedTier s c .one) (evaluatedTier s c .two) (evaluatedFast s c) s)
  else s

/-- The superframe evaluation (R115): the count, every channel in order, the block marks cleared, the peaks begun
again. -/
def protectEvaluate (s : State) : State :=
  let t := s.setProt { s.prot with count := s.prot.count + 1 }
  let u := (List.finRange 28).foldl evaluateChannel t
  clearPeaks (u.setProt { u.prot with amps := u.prot.amps.map Amplifier.clearMarks })

/-- A record once its class's values change from one to another (R118): a tier whose time goes from 0 to nonzero is
marked. -/
def ProtectRecord.underClass (r : ProtectRecord) (old new : ProtectClass) : ProtectRecord :=
  { r with
    restart1 := r.restart1 || (old.t1Time == 0 && new.t1Time != 0)
    restart2 := r.restart2 || (old.t2Time == 0 && new.t2Time != 0) }

/-- A class takes new values (R110, R118): the record of every channel that names it marks the tiers that begin in CLEAR
(log entry 38). -/
def setClass (k : Fin 4) (x : ProtectClass) (s : State) : State :=
  let recordOf (c : Fin 28) : ProtectRecord :=
    if s.chan.channels[c].record.cls = k then s.prot.records[c].underClass s.prot.classes[k] x else s.prot.records[c]
  s.setProt { s.prot with classes := s.prot.classes.set k x, records := Vector.ofFn recordOf }

/-- PROTECT CLEAR on one channel (R124). -/
def clearProtection (c : Fin 28) (s : State) : State :=
  let t := s.setProt { s.prot with records := s.prot.records.set c .initial }
  if s.msg.op = .run ∧ s.prot.records[c].reduction ≠ .steps 0 then raisePath t else t

end Sys2Proof.Machine
end

