-- ==== Sys2Proof/Machine/Antenna.lean ====
section
/-! DEFINITION. The antenna unit (spec 07): samples and their combination, presence, measurement and score, the
selection in the three modes, weights and phase, mode changes, the switch crossfade. -/

namespace Sys2Proof.Machine

/-! ## Samples and their combination (R129, R142, R144) -/

/-- Sample n of antenna a in a frame (R129). -/
def antennaSample (m : Vector Role 96) (f : Frame) (a n : Fin 4) : Complex24 :=
  (roleSample m f (.antI a n), roleSample m f (.antQ a n))

/-- An antenna is mapped: a slot carries its roles; a validated map has all eight or none (R16, R129). -/
def antennaMapped (m : Vector Role 96) (a : Fin 4) : Bool := m.toList.contains (.antI a 0)

/-- 2^480 × cos(k × 5.625°) for k = 0..15, to the nearest integer. R144 gives the exact turn; at this scale the rounding
of a turned 24-bit sample is exact (log entry 23). -/
def cosineQuarter : Nat → Int
  | 0 => 3121748550315992231381597229793166305748598142664971150859156959625371738819765620120306103063491971159826931121406622895447975679288285306290176
  | 1 => 3106716477785547597367367137942275893802132120041267651384100881310887658624597905965951956799586821508473546294054844652448307696280054219831173
  | 2 => 3061765027270048599136350477938119223960410878310801940902410619313191436366952314875307441977854775668594170828339204904129259726617158993908587
  | 3 => 2987327105810921924397548375755515521736885187618830646108408301618158546577356786880781194808919305124924426155201526916245571413907636188350075
  | 4 => 2884119591283726044583387890652409290160682547389356613270418632379412396061319517332438523762473506874304373400867084752930483186869770636617435
  | 5 => 2753136428472324277115321834024389354274401202074001810495966766314521396394966473215773550213751622260673360741913063134655910769279804992122543
  | 6 => 2595639056837270693277586670740349265204250104345160346836608041829364438916452947130428954248824518746137872282750562667558488057083527740533722
  | 7 => 2413144262164232029482245885316096901850456636461078222760751143472392748240642938804676121692152747006270899335988042495580146172677741605767769
  | 8 => 2207409569087712263416621474468186325413301061846159832503749834152556095150797819903924997990816070932646535945632444374279192937128550990120758
  | 9 => 1980416315168061646203609601498199431301464747610933308934234276767963883989352358493234262596492903497471292553274724827002564483533840595410857
  | 10 => 1734350569527661244288764251944026886314580363676506906961608681595915219522120012051187735510240458770693600849768742830836945149149690873279529
  | 11 => 1471582079810247468419963209082096112183777945514268659782348475007229018609805745173171512039383039985795199933620128076231033507334415010595885
  | 12 => 1194641450215667057218964210041936392329895335993382464704604387875791784073524318727797090345149471755539358477297707628423180979555712966826602
  | 13 => 906195770398063580099374823675617581172793272535618651277850722256060161608119336711387991429736534260747896288839144208121671927748031245914171
  | 14 => 609022929934528522944225623935441304367679952253600263070746008268785654405410421859450100925435905289521490206606111153517661591775388060860884
  | 15 => 305984865729924986298888109081657314673598298667438321258788820939347780532549368146547292688897194546479449328672917639499355700287107437132407
  | _ => 0

/-- 2^480 × cos(k × 5.625°) for k = 0..63. -/
def cosineAt (k : Nat) : Int :=
  if k ≤ 16 then cosineQuarter k
  else if k ≤ 32 then -cosineQuarter (32 - k)
  else if k ≤ 48 then -cosineQuarter (k - 32)
  else cosineQuarter (64 - k)

/-- 2^480 × sin(k × 5.625°) for k = 0..63. -/
def sineAt (k : Nat) : Int := cosineAt ((k + 48) % 64)

/-- A component at scale 2^480 rounded to the nearest integer. -/
def roundTurn (v : Int) : Int := (v + 2 ^ 479) / 2 ^ 480

/-- A sample turned counterclockwise by k × 5.625° (R144). -/
def rotate (k : Fin 64) (z : Complex24) : Complex24 :=
  (roundTurn (z.1 * cosineAt k.val - z.2 * sineAt k.val), roundTurn (z.1 * sineAt k.val + z.2 * cosineAt k.val))

/-- A weighted component of two members' samples (R144). -/
def weigh (w1 w2 : Nat) (x y : Int) : Int := saturate ((w1 * x + w2 * y) / 256)

/-- A pair's combined sample (R144): two members weighted, one alone, none zero. -/
def pairSample (members : List (Fin 4)) (w1 w2 : Nat) (phase : Fin 64) (z : Fin 4 → Complex24) : Complex24 :=
  match members with
  | [] => (0, 0)
  | [a] => z a
  | a :: b :: _ =>
    let r := rotate phase (z b)
    (weigh w1 w2 (z a).1 r.1, weigh w1 w2 (z a).2 r.2)

/-- The sample of a crossfade's outgoing selection (R142). -/
def outgoingSample (o : Outgoing) (z : Fin 4 → Complex24) : Complex24 :=
  match o with
  | .antenna a => z a
  | .pair ms w1 w2 k => pairSample ms w1 w2 k z

/-- A component of a crossfade at count n (R142). -/
def blendComponent (o i : Int) (n : Nat) : Int := (o * (64 - n) + i * n + 32) / 64

/-- One combined sample from the antennas' samples of one n (R129, R142, R144). -/
def combinedSample (u : AntennaUnit) (z : Fin 4 → Complex24) : Complex24 :=
  match u.fade with
  | some f =>
    let o := outgoingSample f.outgoing z
    let i := z f.incoming
    (blendComponent o.1 i.1 f.count, blendComponent o.2 i.2 f.count)
  | none =>
    match u.mode with
    | .fixed _ | .switched => z u.current
    | .paired => pairSample u.pair u.w1 u.w2 u.phase z

/-- The four combined samples of a frame, oldest first (R129). -/
def combinedSamples (s : State) (f : Frame) : List Complex24 :=
  (List.finRange 4).map fun n => combinedSample s.ant fun a => antennaSample s.ring.slotMap f a n

/-! ## What a frame adds to the block (R133, R136, R142) -/

/-- The power of a sample (R133). -/
def power (z : Complex24) : Nat := (z.1 * z.1 + z.2 * z.2).toNat

/-- z1 × conj(z2) (R136). -/
def timesConj (z1 z2 : Complex24) : Complex24 := (z1.1 * z2.1 + z1.2 * z2.2, z1.2 * z2.1 - z1.1 * z2.2)

/-- The six pairs of antennas, in the order of their correlations (R136). -/
def corrPairs : Vector (Fin 4 × Fin 4) 6 := #v[(0, 1), (0, 2), (0, 3), (1, 2), (1, 3), (2, 3)]

/-- A pair's correlation sum after the samples of one frame (R136). -/
def addCorrelation (c : Complex24) (z1 z2 : Fin 4 → Complex24) : Complex24 :=
  (List.finRange 4).foldl (fun a n => let p := timesConj (z1 n) (z2 n); (a.1 + p.1, a.2 + p.2)) c

/-- The antenna unit's part of a processed frame in which it runs: powers, correlation sums, the crossfade's count. -/
def antennaFrame (f : Frame) (s : State) : State :=
  let z (a n : Fin 4) : Complex24 := antennaSample s.ring.slotMap f a n
  let powersOf (a : Fin 4) : List Nat := (List.finRange 4).foldl (fun l n => power (z a n) :: l) s.ant.powers[a]
  let corrOf (p : Fin 6) : Complex24 := addCorrelation s.ant.corrSum[p] (z corrPairs[p].1) (z corrPairs[p].2)
  s.setAnt { s.ant with
    powers := Vector.ofFn powersOf
    corrSum := Vector.ofFn corrOf
    fade := s.ant.fade.map fun x => { x with count := x.count + 1 } }

/-! ## Choices among antennas -/

/-- Some antenna is PRESENT. -/
def anyPresent (u : AntennaUnit) : Bool := u.antennas.toList.any fun x => x.present

/-- The antenna with the highest score among those of a set, the lower-numbered on a tie. -/
def bestOf (u : AntennaUnit) (p : Fin 4 → Bool) : Option (Fin 4) :=
  (List.finRange 4).foldl (fun b a =>
    if p a then
      match b with
      | none => some a
      | some c => if u.antennas[c].score < u.antennas[a].score then some a else b
    else b) none

/-- The PRESENT antenna with the highest score. -/
def bestPresent (u : AntennaUnit) : Option (Fin 4) := bestOf u fun a => u.antennas[a].present

/-- The lowest-numbered PRESENT antenna. -/
def lowestPresent (u : AntennaUnit) : Option (Fin 4) := (List.finRange 4).find? fun a => u.antennas[a].present

/-- The part switches to an antenna (R139 to R141): it becomes current and a crossfade starts from the old current
antenna, any running crossfade ending at once. -/
def AntennaUnit.switchTo (u : AntennaUnit) (b : Fin 4) : AntennaUnit :=
  if b = u.current then u else { u with current := b, fade := some ⟨.antenna u.current, b, 0⟩ }

/-! ## FIXED and SWITCHED (R139 to R141) -/

/-- The antenna in use under FIXED(a) (R139). -/
def fixedChoice (u : AntennaUnit) (a : Fin 4) : Fin 4 :=
  if u.antennas[a].present then a
  else if u.antennas[u.current].present then u.current
  else (bestPresent u).getD u.current

/-- The target of a switch test (R140): of the PRESENT antennas that lead the current one by the margin, the best. -/
def switchTarget (u : AntennaUnit) : Option (Fin 4) :=
  bestOf u fun b =>
    u.antennas[b].present && b != u.current &&
      decide (u.antennas[u.current].score + u.record.margin ≤ u.antennas[b].score)

/-- The switch test of R140, made when the dwell timer reaches 0. -/
def AntennaUnit.testSwitch (u : AntennaUnit) : AntennaUnit :=
  match switchTarget u with
  | some b => { u with alert := none }.switchTo b
  | none => { u with alert := some u.record.dwell }

/-- The selection under SWITCHED (R140, R141). -/
def AntennaUnit.switchedMove (u : AntennaUnit) : AntennaUnit :=
  let q := u.antennas[u.current].score
  if u.antennas[u.current].present then
    match u.alert with
    | none => if q < u.record.switchLevel then { u with alert := some u.record.dwell } else u
    | some t =>
      if u.record.switchLevel + u.record.hysteresis ≤ q then { u with alert := none }
      else if t ≤ 1 then u.testSwitch else { u with alert := some (t - 1) }
  else
    match bestPresent u with
    | some b => { u with alert := none }.switchTo b
    | none => { u with alert := none }

/-! ## PAIRED (R143, R144) -/

/-- Whether antenna a stands before antenna b: a higher score, or the same and a lower number. -/
def leads (u : AntennaUnit) (a b : Fin 4) : Bool :=
  decide (u.antennas[b].score < u.antennas[a].score) ||
    (u.antennas[a].score == u.antennas[b].score && decide (a.val < b.val))

/-- A pair's members, first member first (R144). -/
def ordered (u : AntennaUnit) : List (Fin 4) → List (Fin 4)
  | [a, b] => if leads u b a then [b, a] else [a, b]
  | l => l

/-- The best PRESENT non-member joins a pair that has room (R143). -/
def joinBest (u : AntennaUnit) (pair : List (Fin 4)) : List (Fin 4) :=
  if pair.length < 2 then
    match bestOf u fun a => u.antennas[a].present && !pair.contains a with
    | some a => pair ++ [a]
    | none => pair
  else pair

/-- The pair once absent members have left and others have joined, first member first (R143, R144). -/
def settledPair (u : AntennaUnit) : List (Fin 4) :=
  ordered u (joinBest u (joinBest u (u.pair.filter fun a => u.antennas[a].present)))

/-- The challenge count of antenna x against a pair (R143). -/
def challengeCount (u : AntennaUnit) (pair : List (Fin 4)) (x : Fin 4) : Nat :=
  match pair with
  | [_, w] =>
    if u.antennas[x].present ∧ x ∉ pair ∧ u.antennas[w].score + u.record.pairMargin ≤ u.antennas[x].score then
      incSat u.challenge[x]
    else 0
  | _ => 0

/-- The antenna that replaces the weaker member, if one does (R143): of the non-members whose counts are at or above
pair dwell, the best. -/
def replacement (u : AntennaUnit) (pair : List (Fin 4)) (counts : Vector Nat 4) : Option (Fin 4) :=
  bestOf u fun x =>
    u.antennas[x].present && !pair.contains x && decide (u.record.pairDwell ≤ counts[x])

/-- The pair at an evaluation in PAIRED mode (R143). -/
def AntennaUnit.pairedMove (u : AntennaUnit) : AntennaUnit :=
  let pair := settledPair u
  let counts : Vector Nat 4 := Vector.ofFn fun x => challengeCount u pair x
  match pair, replacement u pair counts with
  | [a, w], some x =>
    { u with pair := ordered u [a, x], challenge := (counts.set x 0).set w 0 }
  | _, _ => { u with pair := pair, challenge := counts }

/-- The held correlation of two antennas, first with second (R144). -/
def correlationOf (u : AntennaUnit) (a b : Fin 4) : Complex24 :=
  match (List.finRange 6).find? fun p => corrPairs[p] == (a, b) || corrPairs[p] == (b, a) with
  | none => (0, 0)
  | some p => if corrPairs[p] = (a, b) then u.corrHeld[p] else (u.corrHeld[p].1, -u.corrHeld[p].2)

/-- Whether an angle in 0°..360° is at or beyond 180°. -/
def lowerHalf (z : Complex24) : Bool := decide (z.2 < 0) || (z.2 == 0 && decide (z.1 < 0))

/-- The first n binary digits of an angle as a part of a full turn: each is the half plane it lies in, and squaring
doubles the angle. -/
def angleDigits : Nat → Complex24 → Nat → Nat
  | 0, _, acc => acc
  | n + 1, z, acc =>
    angleDigits n (z.1 * z.1 - z.2 * z.2, 2 * z.1 * z.2) (2 * acc + (if lowerHalf z then 1 else 0))

/-- The direction nearest to a correlation's angle (R144): of the 128 half steps the angle lies in, the nearer whole
one; a correlation of 0 gives 0. No Gaussian integer lies exactly midway (log entry 23). -/
def nearestDirection (z : Complex24) : Fin 64 :=
  if z = (0, 0) then 0 else finWrap 63 ((angleDigits 7 z 0 + 1) / 2)

/-- The weight of the first member (R144). -/
def firstWeight (q1 q2 : Nat) : Nat :=
  if q1 + q2 = 0 then 128 else (512 * q1 + (q1 + q2)) / (2 * (q1 + q2))

/-- The weights and the phase direction for the next block (R144). One member stands alone at weight 256; an empty pair
keeps what stood. Log entry 29. -/
def AntennaUnit.align (u : AntennaUnit) : AntennaUnit :=
  match u.pair with
  | a :: b :: _ =>
    let w := firstWeight u.antennas[a].score u.antennas[b].score
    { u with w1 := w, w2 := 256 - w, phase := nearestDirection (correlationOf u a b) }
  | [_] => { u with w1 := 256, w2 := 0 }
  | [] => u

/-! ## Mode changes (R145, R146) -/

/-- The change to FIXED or SWITCHED out of PAIRED: a crossfade from the pair's combined sample (R145). -/
def AntennaUnit.leavePair (u : AntennaUnit) (b : Fin 4) : AntennaUnit :=
  { u with current := b, fade := some ⟨.pair u.pair u.w1 u.w2 u.phase, b, 0⟩ }

/-- The antenna that FIXED(a) takes out of PAIRED (R145). -/
def fixedFromPair (u : AntennaUnit) (a : Fin 4) : Fin 4 :=
  if u.antennas[a].present then a
  else match u.pair with
    | b :: _ => b
    | [] => fixedChoice u a

/-- A mode change taken with no crossfade running (R145). -/
def AntennaUnit.changeMode (u : AntennaUnit) (m : DiversityMode) : AntennaUnit :=
  if m = u.mode then u
  else
    let v := { u with mode := m }
    match u.mode, m with
    | .paired, .fixed a => v.leavePair (fixedFromPair u a)
    | .paired, .switched => { v with alert := none }.leavePair (u.pair.headD u.current)
    | _, .fixed a => v.switchTo (fixedChoice u a)
    | _, .switched => { v with alert := none }
    | _, .paired =>
      { v with pair := ordered u (joinBest u (joinBest u [])), challenge := Vector.replicate 4 0 }.align

/-- The antenna an ANTENNA notice of a mode change names (R146). -/
def noticeAntenna (u : AntennaUnit) : Fin 4 :=
  match u.mode with
  | .paired => u.pair.headD u.current
  | .fixed _ | .switched => u.current

/-- The pending mode takes effect, with its ANTENNA notice, posted or deferred (R146). -/
def applyPendingMode (post : NoticeDetail → State → State) (s : State) : State :=
  match s.ant.pendingMode with
  | none => s
  | some m =>
    let u := { s.ant.changeMode m with pendingMode := none }
    let a := noticeAntenna u
    post (.antenna a u.antennas[a].present u.antennas[a].lastAbsence) (s.setAnt u)

/-- A switch crossfade ends (R142, R146, R148). -/
def endSwitchFade (post : NoticeDetail → State → State) (s : State) : State :=
  if s.ant.fade.isSome then applyPendingMode post (s.setAnt { s.ant with fade := none }) else s

/-- A crossfade's last frame, that of count 63, has run (R142). -/
def switchFadeOver (s : State) : Bool :=
  match s.ant.fade with
  | none => false
  | some f => decide (64 ≤ f.count)

/-! ## The block evaluation (R130) -/

/-- The level of a sum of powers (R133). -/
def levelOf (e : Nat) : Nat := min 127 (levelCode e - 20)

/-- The multipath measure of a block's powers (R134). -/
def multipathOf (ps : List Nat) : Nat :=
  let m := ps.sum / ps.length
  let d := (ps.map fun p => ((p : Int) - m).natAbs).sum / ps.length
  if m = 0 then 255 else min 255 (256 * d / m)

/-- The score of a block's powers (R134). -/
def scoreOf (penalty : Vector Nat 32) (ps : List Nat) : Nat :=
  min 127 (levelOf ps.sum - penalty[finWrap 31 (multipathOf ps / 8)])

/-- A mapped antenna's record after presence, measurement and score (R131, R133, R134). -/
def Antenna.evaluate (x : Antenna) (penalty : Vector Nat 32) (ps : List Nat) : Antenna :=
  let silent := ps.all (· == 0)
  match x.present, silent with
  | true, true => { x with present := false, absence := 1 }
  | true, false => { x with score := scoreOf penalty ps }
  | false, true => { x with absence := incSat x.absence }
  | false, false => { x with present := true, lastAbsence := x.absence, absence := 0, score := scoreOf penalty ps }

/-- Step 2 of R130 for one antenna: an unmapped one stays as it is; a change of presence posts its notice. -/
def evaluateAntenna (s : State) (a : Fin 4) : State :=
  if antennaMapped s.ring.slotMap a then
    let old := s.ant.antennas[a]
    let new := old.evaluate s.ant.penalty s.ant.powers[a]
    let t := s.setAnt { s.ant with antennas := s.ant.antennas.set a new }
    if old.present = new.present then t else postNotice (.antenna a new.present new.lastAbsence) t
  else s

/-- The block's correlations become the held ones, 0 for a pair with an ABSENT antenna; new sums and powers begin
(R136). -/
def AntennaUnit.holdCorrelations (u : AntennaUnit) : AntennaUnit :=
  let heldOf (p : Fin 6) : Complex24 :=
    if u.antennas[corrPairs[p].1].present ∧ u.antennas[corrPairs[p].2].present then u.corrSum[p] else (0, 0)
  { u with corrHeld := Vector.ofFn heldOf, corrSum := Vector.replicate 6 (0, 0), powers := Vector.replicate 4 [] }

/-- Steps 3 and 4 of R130: the selection under the mode in force, and in PAIRED the weights and the direction. -/
def AntennaUnit.select (u : AntennaUnit) : AntennaUnit :=
  match u.mode with
  | .fixed a => u.switchTo (fixedChoice u a)
  | .switched => u.switchedMove
  | .paired => u.pairedMove.align

/-- The block evaluation from step 2 on (R130); step 1 is made at the end of every frame. Changes of presence post their
notices from A0 to A3 (log entry 36). -/
def antennaEvaluate (s : State) : State :=
  let t := (List.finRange 4).foldl evaluateAntenna s
  t.setAnt t.ant.holdCorrelations.select

/-- What the unit hands on: no antenna, one score, or the scores of two members (R147). -/
inductive HandOver where
  | absent
  | one (q : Nat)
  | two (q1 q2 : Nat)
  deriving DecidableEq, Repr

/-- What the unit hands the radio unit at the end of an evaluation (R147). -/
def handOver (u : AntennaUnit) : HandOver :=
  if anyPresent u then
    match u.mode with
    | .fixed _ | .switched => .one u.antennas[u.current].score
    | .paired =>
      match u.pair with
      | a :: b :: _ => .two u.antennas[a].score u.antennas[b].score
      | [a] => .one u.antennas[a].score
      | [] => .absent
  else .absent

/-! ## START and RADIO TUNE (R132, R134, R136, R138, R147) -/

/-- The selection at START, from the presences START has set (R138). -/
def AntennaUnit.selectAtStart (u : AntennaUnit) : AntennaUnit :=
  let kept := if u.antennas[u.current].present then u.current else (lowestPresent u).getD u.current
  match u.mode with
  | .fixed a => { u with current := if u.antennas[a].present then a else kept }
  | .switched => { u with current := kept, alert := none }
  | .paired =>
    { u with
      pair := ((List.finRange 4).filter fun a => u.antennas[a].present).take 2
      challenge := Vector.replicate 4 0
      w1 := 128
      w2 := 128
      phase := 0 }

/-- The antenna unit at START. The powers of the block in progress start again too (log entry 24). -/
def startAntennas (s : State) : State :=
  let antennaOf (a : Fin 4) : Antenna :=
    { s.ant.antennas[a] with present := antennaMapped s.ring.slotMap a, absence := 0, score := 0 }
  let u := { s.ant with
    antennas := Vector.ofFn antennaOf
    fade := none
    powers := Vector.replicate 4 []
    corrSum := Vector.replicate 6 (0, 0)
    corrHeld := Vector.replicate 6 (0, 0) }
  s.setAnt u.selectAtStart

/-- What every valid RADIO TUNE does to the antenna unit (R147): alerts end, challenge counts are 0. -/
def tuneAntennas (s : State) : State :=
  s.setAnt { s.ant with alert := none, challenge := Vector.replicate 4 0 }

end Sys2Proof.Machine
end

