-- ==== Sys2Proof/Machine/Radio.lean ====
section
/-! DEFINITION. The radio unit (spec 08): from baseband to the pair of source RADIO, the pilot, the radio evaluation,
the blend, the reception state, the station record. The arithmetic the manual does not give is Config's. -/

namespace Sys2Proof.Machine

/-! ## From baseband to a stereo pair (R149, R150) -/

/-- The multiplex sample between two combined samples (R149): 0 where either is zero in both components. -/
def multiplexSample (prev z : Complex24) : Int :=
  if prev = (0, 0) ∨ z = (0, 0) then 0 else Config.demodAngle prev z

/-- The multiplex samples of a run of combined samples, oldest first (R149). -/
def multiplexOf (prev : Complex24) : List Complex24 → List Int
  | [] => []
  | z :: zs => multiplexSample prev z :: multiplexOf z zs

/-- The left and right outputs of the decoder at a separation (R150). -/
def separate (m d : Int) (sep : Nat) : Int × Int := (saturate (m + d * sep / 16), saturate (m - d * sep / 16))

/-- The samples m and s that the decoder forms in a frame from its history (R150). -/
def decodedPair (history : List Int) : Int × Int :=
  (saturate (Config.decodedMono history), saturate (Config.decodedDifference history))

/-- The decoder's delay line one frame on (R150): the pair formed now enters, and the oldest leaves. -/
def RadioUnit.delayed (u : RadioUnit) (p : Int × Int) : List (Int × Int) := (u.delay ++ [p]).drop 1

/-- Left and right before the high-cut (R150): the pair formed 16 processed frames ago, with the separation in force; the
difference counts as 0 while the pilot is ABSENT. The delay stands before both (log entry 8). -/
def separatedPair (u : RadioUnit) : Int × Int :=
  let p := u.delay.headD (0, 0)
  separate p.1 (if u.pilot then p.2 else 0) u.separation

/-- The radio unit's part of a processed frame in which it runs, on the frame's four combined samples (R149, R150). -/
def radioFrame (zs : List Complex24) (s : State) : State :=
  let u := s.radio
  let mpx := multiplexOf u.lastSample zs
  let history := Config.decoderNext u.decoder mpx
  let p := separatedPair u
  s.setRadio { u with
    lastSample := zs.getLastD u.lastSample
    decoder := history
    delay := u.delayed (decodedPair history)
    cutLeft := Config.highCutNext u.highCut u.cutLeft p.1
    cutRight := Config.highCutNext u.highCut u.cutRight p.2
    multiplex := mpx.reverse ++ u.multiplex }

/-- Source RADIO in the frame (R150): the high-cut outputs through the radio point, saturated. -/
def radioPair (s : State) : Int × Int :=
  let cut (h : List Int) : Int := saturate (Config.highCutOut s.radio.highCut h)
  let p := applyGainPair (cut s.radio.cutLeft, cut s.radio.cutRight) s.gain.radio.current
  (saturate p.1, saturate p.2)

/-! ## The pilot (R151) -/

/-- The pilot detector after a block whose outcome is "at or above the threshold" or not (R151). -/
def RadioUnit.pilotMove (u : RadioUnit) (above : Bool) : RadioUnit :=
  if above = u.pilot then { u with pilotRun := 0 }
  else if 4 ≤ u.pilotRun + 1 then { u with pilot := above, pilotRun := 0 }
  else { u with pilotRun := u.pilotRun + 1 }

/-! ## The radio evaluation (R152 to R156) -/

/-- The blend quality of what the antenna unit handed on (R152). -/
def blendQuality : HandOver → Nat
  | .absent => 0
  | .one q => q
  | .two q1 q2 => min 127 (q1 + q2 / 4)

/-- The BLEND entry for a quality (R152, 8.4). -/
def blendEntry (u : RadioUnit) (q : Nat) : BlendEntry := u.blend[finWrap 31 (q / 4)]

/-- A setting moves one unit toward its target (R154). -/
def toward (v target : Nat) : Nat := if v < target then v + 1 else if target < v then v - 1 else v

/-- The blend and the soft-mute component at an evaluation (R154, R155). -/
def RadioUnit.blendMove (u : RadioUnit) (q : Nat) : RadioUnit :=
  let e := blendEntry u q
  { u with
    separation := toward u.separation (if u.pilot then e.separation else 0)
    highCut := toward u.highCut e.highCut
    softMute := e.softMute }

/-- The reception state and its counts at an evaluation (R156). -/
def RadioUnit.receptionMove (u : RadioUnit) (k : RadioRecord) (q : Nat) : RadioUnit :=
  match u.reception with
  | .good | .fair =>
    let n := if q < k.poorLevel then incSat u.poorCount else 0
    if k.poorTime ≤ n then { u with reception := .poor, poorCount := 0, recoverCount := 0 }
    else { u with reception := if k.goodLevel ≤ q then .good else .fair, poorCount := n }
  | .poor =>
    let n := if k.poorLevel + k.hysteresis ≤ q then incSat u.recoverCount else 0
    if k.recoverTime ≤ n then { u with reception := .fair, poorCount := 0, recoverCount := 0 }
    else { u with recoverCount := n }

/-- The radio unit takes new values; a change of the reception state posts its notice (R157). -/
def moveRadio (u : RadioUnit) (s : State) : State :=
  let t := s.setRadio u
  if u.reception = s.radio.reception then t else postNotice (.reception u.reception u.frequency) t

/-- The hand-over is taken: whether it named no antenna (R155). -/
def RadioUnit.takeHandOver (u : RadioUnit) (h : HandOver) : RadioUnit := { u with noAntenna := h == .absent }

/-- Steps 4 to 6 of R152. -/
def evaluateReception (h : HandOver) (s : State) : State :=
  let q := blendQuality h
  if settling s then s else moveRadio ((s.radio.blendMove q).receptionMove s.ant.record q) s

/-- The radio evaluation (R152): the tune count, the pilot from a free outcome, then steps 3 to 6. -/
def radioEvaluate (s : State) : State :=
  let h := handOver s.ant
  let above := Config.pilotAtThreshold s.draws s.radio.multiplex
  let u := { s.radio with
    blocksSinceTune := incSat s.radio.blocksSinceTune, settle := s.ant.record.tuneSettle, multiplex := [] }
  evaluateReception h (s.drawn.setRadio ((u.pilotMove above).takeHandOver h))

/-! ## The station record, START, long loss (R157 to R161) -/

/-- Pilot, separation and high-cut at their start values, the tune count 0 (R158 to R161). -/
def RadioUnit.restart (u : RadioUnit) : RadioUnit :=
  { u with blocksSinceTune := 0, pilot := false, pilotRun := 0, separation := 0, highCut := 7 }

/-- Reception FAIR with both counts 0 (R156). -/
def RadioUnit.fair (u : RadioUnit) : RadioUnit := { u with reception := .fair, poorCount := 0, recoverCount := 0 }

/-- The radio unit at START (R160). -/
def startRadio (s : State) : State :=
  moveRadio { s.radio.restart.fair with
    settle := s.ant.record.tuneSettle, softMute := .mute, lastSample := (0, 0), decoder := []
    delay := List.replicate 16 (0, 0), cutLeft := [], cutRight := [], multiplex := [] } s

/-- A valid RADIO TUNE (R159): a repeat tune changes nothing here, any other changes the station. -/
def tuneRadio (frequency : Nat) (identifier : Option (BitVec 16)) (s : State) : State :=
  if s.radio.frequency = frequency ∧ s.radio.identifier = identifier then s
  else moveRadio { s.radio.restart.fair with frequency := frequency, identifier := identifier } s

/-- The radio unit at the 100 ms mark (R161). -/
def loseRadio (s : State) : State := s.setRadio s.radio.restart

end Sys2Proof.Machine
end

