-- ==== Sys2Proof/Machine/Uplink.lean ====
section
/-! DEFINITION. The uplink unit (spec 10): microphones, beams and their crossfade, the echo subtraction, the talk state,
the echo state and the commitment of updates. The filter's own arithmetic is Config's. -/

namespace Sys2Proof.Machine

/-! ## Beams (R178 to R180) -/

/-- The seats of a placement's selection (R180). -/
def placementSeats (p : Fin 4) : List (Fin 4) :=
  match p with
  | 0 => [0, 1]
  | 1 => [0, 1, 2, 3]
  | 2 => [2]
  | 3 => [3]

/-- The BEAM entry of a seat and a microphone (R179). -/
def beamEntry (beams : Vector BeamEntry 24) (s : Fin 4) (m : Fin 6) : BeamEntry := beams[s.val * 6 + m.val]

/-- The selection that a placement and the BEAM table give, with its copies (R180). -/
def selectionOf (beams : Vector BeamEntry 24) (p : Fin 4) : List SeatBeam :=
  (placementSeats p).map fun s => ⟨s, Vector.ofFn fun m => beamEntry beams s m⟩

/-- The beam of a seat (R180). -/
def beamSample (mics : Vector (List Int) 6) (b : SeatBeam) : Int :=
  saturate (((List.finRange 6).map fun m => b.taps[m].weight * mics[m].getD b.taps[m].delay.val 0).sum / 32768)

/-- The sum of a selection (R180). -/
def selectionSum (mics : Vector (List Int) 6) (sel : List SeatBeam) : Int :=
  saturate (sel.map (beamSample mics)).sum

/-- The uplink beam sum u (R181). -/
def beamSum (s : State) : Int :=
  saturate ((List.finRange 2).map fun b =>
    applyGain (selectionSum s.uplink.mics s.uplink.selections[b]) s.gain.beam[b].current).sum

/-! ## Beam changes (R181, R182) -/

/-- The beam point that is not live. -/
def otherPoint (u : UplinkUnit) : Fin 2 := 1 - u.live

/-- The selection in use (R181). -/
def selectionInUse (u : UplinkUnit) : List SeatBeam := u.selections[if u.fading then otherPoint u else u.live]

/-- A beam crossfade starts (R181): the other point takes the selection the placement and the table give, and a
path-change event is raised. -/
def startBeamFade (s : State) : State :=
  let u := s.uplink
  raisePath (s.setUplink { u with
    selections := u.selections.set (otherPoint u) (selectionOf u.beams s.call.placement)
    fading := true })

/-- A beam change arises (R181, R182): it starts a crossfade, or marks the running one pending. -/
def changeBeams (s : State) : State :=
  if s.uplink.fading then s.setUplink { s.uplink with changePending := true } else startBeamFade s

/-- The incoming point becomes live and the outgoing one is emptied (R181). -/
def UplinkUnit.landBeams (u : UplinkUnit) : UplinkUnit :=
  { u with selections := u.selections.set u.live [], live := otherPoint u, fading := false }

/-- Both ramps of the crossfade have ended (R181): the incoming point stands at unity, the outgoing one at zero. -/
def beamFadeOver (s : State) : Bool :=
  let i := s.gain.beam[otherPoint s.uplink]
  let o := s.gain.beam[s.uplink.live]
  s.uplink.fading && i.ramp.isNone && i.current == unity && o.ramp.isNone && o.current == 0

/-- A beam crossfade ends (R181, R182): a pending change is resolved, and may start another. -/
def endBeamFade (s : State) : State :=
  let u := { s.uplink.landBeams with changePending := false }
  let t := s.setUplink u
  if s.uplink.changePending ∧ selectionOf u.beams s.call.placement ≠ u.selections[u.live] then startBeamFade t else t

/-- The live point's selection is rebuilt from the placement and the table, no crossfade running and no change pending
(R182). -/
def UplinkUnit.rebuild (u : UplinkUnit) (p : Fin 4) : UplinkUnit :=
  let v := if u.fading then u.landBeams else u
  { v with selections := v.selections.set v.live (selectionOf v.beams p), changePending := false }

/-- STOPPING reaches CONFIG, or a loss becomes long: the beam crossfade is resolved at once (R182). -/
def resolveBeams (s : State) : State := s.setUplink (s.uplink.rebuild s.call.placement)

/-! ## The uplink chain (R178, R183, R185) -/

/-- A microphone's history with the sample of one more frame: 32 samples, newest first (R178). -/
def pushMic (m : Vector Role 96) (f : Frame) (h : List Int) (i : Fin 6) : List Int :=
  roleSample m f (.mic i) :: h.take 31

/-- The ten bus sides of a frame (R183). -/
def busSides (buses : Vector (Int × Int) 5) : List Int := buses.toList.flatMap fun b => [b.1, b.2]

/-- The reference sum r of a frame (R185). -/
def referenceSum (buses : Vector (Int × Int) 5) : Int :=
  saturate (buses.toList.map fun b => (b.1 + b.2) / 2).sum

/-- How many processed frames of its reference an adaptive filter spans (R183). -/
def filterSpan : Nat := 6144

/-- A list of coefficients or of samples in full, what it leaves off being zero (log entry 11). -/
def spanned (l : List Int) : List Int := l.take filterSpan ++ List.replicate (filterSpan - l.length) 0

/-- The output of one adaptive filter (R183): zero while its coefficients are all zero. -/
def echoOutput (filter reference : List Int) : Int :=
  if filter.all (· == 0) then 0 else Config.echoOutput (spanned filter) (spanned reference)

/-- The echo estimate (R183): the sum of the outputs of the ten filters, each on its own bus side. -/
def echoEstimate (filters references : Vector (List Int) 10) : Int :=
  ((List.finRange 10).map fun k => echoOutput filters[k] references[k]).sum

/-- The reference histories with the bus sides of one more frame (R183). -/
def pushReferences (buses : Vector (Int × Int) 5) (h : Vector (List Int) 10) : Vector (List Int) 10 :=
  Vector.ofFn fun k => (busSides buses).getD k.val 0 :: h[k].take (filterSpan - 1)

/-- The coefficients that the block's update gives (R186). -/
def updatedFilters (u : UplinkUnit) : Vector (List Int) 10 :=
  (Config.echoUpdate (u.filters.map spanned) (u.references.map spanned) u.residuals).map fun c => c.take filterSpan

/-- A filter reset (R183): every coefficient of the ten filters is zero. -/
def zeroFilters : Vector (List Int) 10 := Vector.replicate 10 []

/-- The uplink unit's part of a processed frame in which it runs (R178, R181, R183, R185). -/
def uplinkFrame (f : Frame) (buses : Vector (Int × Int) 5) (s : State) : State :=
  let t := s.setUplink { s.uplink with
    mics := Vector.ofFn fun i => pushMic s.ring.slotMap f s.uplink.mics[i] i
    references := pushReferences buses s.uplink.references }
  let u := beamSum t
  let e := saturate (u - echoEstimate t.uplink.filters t.uplink.references)
  t.setUplink { t.uplink with
    residuals := e :: t.uplink.residuals
    peakF := max t.uplink.peakF (magnitude (referenceSum buses))
    peakN := max t.uplink.peakN (magnitude u)
    peakR := max t.uplink.peakR (magnitude e)
    out := saturate (applyGain e t.gain.uplink.current) }

/-! ## The talk state (R185) -/

/-- The raw state of a block (R185). -/
def rawTalk (far cabin : Bool) : TalkState :=
  match far, cabin with
  | false, false => .quiet
  | true, false => .farOnly
  | false, true => .nearOnly
  | true, true => .double

/-- The talk state that follows (R185). -/
def nextTalk (old raw : TalkState) (near far nearRelax farRelax : Nat) : TalkState :=
  match old, raw with
  | .nearOnly, .farOnly | .double, .farOnly => if near < nearRelax then .double else .farOnly
  | .farOnly, .quiet => if far < farRelax then .farOnly else .quiet
  | _, r => r

/-- The talk state and its counts at an evaluation (R185). -/
def UplinkUnit.talkMove (u : UplinkUnit) : UplinkUnit :=
  let far := decide (u.record.farThreshold ≤ u.peakF)
  let cabin := decide (u.record.nearThreshold ≤ u.peakR)
  let near := if cabin then 0 else incSat u.nearQuiet
  let farq := if far then 0 else incSat u.farQuiet
  { u with
    nearQuiet := near
    farQuiet := farq
    talk := nextTalk u.talk (rawTalk far cabin) near farq u.record.nearRelax u.record.farRelax }

/-! ## The echo state (R186) -/

/-- The ERLE code of the block (R186). -/
def erle (u : UplinkUnit) : Int := (levelCode u.peakN : Int) - levelCode u.peakR

/-- CONVERGING at a FAR_ONLY block (R186). -/
def convergingMove (s : State) : State :=
  let u := s.uplink
  let n := if (u.record.convergeLevel : Int) ≤ erle u then incSat u.converge else 0
  let t := s.setUplink { u with converge := n }
  if u.record.convergeBlocks ≤ n then
    let v := setEcho .converged t
    v.setUplink { v.uplink with diverge := 0 }
  else t

/-- CONVERGED at a FAR_ONLY block (R186); on divergence the filters are reset. -/
def convergedMove (s : State) : State :=
  let u := s.uplink
  let n := if erle u < (u.record.divergeLevel : Int) then incSat u.diverge else 0
  let t := s.setUplink { u with diverge := n }
  if u.record.divergeBlocks ≤ n then
    let v := setEcho .converging t
    v.setUplink { v.uplink with converge := 0, filters := zeroFilters }
  else t

/-- The block's update is committed (R186): the call is ACTIVE and no filter reset is made at the same evaluation. -/
def commitUpdate (s : State) : State :=
  if s.call.state = .active then
    s.setUplink { s.uplink with filters := updatedFilters s.uplink }
  else s

/-- The echo state at an evaluation, the talk state having been decided (R186). -/
def echoMove (s : State) : State :=
  match s.uplink.talk, s.uplink.echo with
  | .farOnly, .converging => convergingMove (commitUpdate s)
  | .farOnly, .converged =>
    let t := convergedMove s
    if t.uplink.echo = .converged then commitUpdate t else t
  | _, _ => s

/-- The peaks and the residuals of the block start again (R185, R186). -/
def UplinkUnit.nextBlock (u : UplinkUnit) : UplinkUnit :=
  { u with peakF := 0, peakN := 0, peakR := 0, residuals := [] }

/-- The block evaluation of the uplink unit (R185, R186). -/
def uplinkEvaluate (s : State) : State :=
  let t := echoMove (s.setUplink s.uplink.talkMove)
  t.setUplink t.uplink.nextBlock

/-- A block's evaluation and a path-change event raised at the end of its last frame meet in either order (R188). -/
def evaluateWithPath (s : State) : State :=
  if s.uplink.pathRaised then
    let t := s.drawn
    if Config.evaluationBeforeEvent s.draws then takePath (uplinkEvaluate t) else uplinkEvaluate (takePath t)
  else uplinkEvaluate s

/-! ## START (R178, R182, R183, R185, R187) -/

/-- The uplink unit at START. -/
def startUplink (s : State) : State :=
  let u := s.uplink.rebuild s.call.placement
  s.setUplink { u.nextBlock with
    mics := Vector.replicate 6 (List.replicate 32 0)
    selections := u.selections.set (otherPoint u) []
    filters := zeroFilters
    references := Vector.replicate 10 []
    talk := .quiet
    nearQuiet := 0
    farQuiet := 0
    echo := .off
    converge := 0
    diverge := 0
    out := 0 }

end Sys2Proof.Machine
end

