-- ==== Sys2Proof/Machine/Call.lean ====
section
/-! DEFINITION. The call unit (spec 09): what each call request, STOP, a long loss and the end of a closing do to the
call context and to the units it informs. -/

namespace Sys2Proof.Machine

/-- The call state is set. -/
def setCallState (x : CallState) (s : State) : State := s.setCall { s.call with state := x }

/-- The placement is stored; one that differs from the one last handed on is a beam change (R173, R181). -/
def placeCall (p : Fin 4) (s : State) : State :=
  let t := s.setCall { s.call with placement := p }
  if p = s.call.placement then t else changeBeams t

/-- CALL ALERT taken (R170). -/
def alertCall (p : Fin 4) (s : State) : State := placeCall p (setCallState .alerting s)

/-- CALL CONNECT taken, its uplink gain clamped (R169, R171, R187): the filters are reset. -/
def connectCall (g : Int) (s : State) : State :=
  let t := s.setCall { s.call with state := .active, uplinkGain := g }
  callEcho .converging (t.setUplink { t.uplink with filters := zeroFilters })

/-- CALL HOLD taken (R172, R187). -/
def holdCall (s : State) : State := callEcho .off (setCallState .onHold s)

/-- CALL RESUME taken (R172, R187): the filters are kept. -/
def resumeCall (s : State) : State := callEcho .converging (setCallState .active s)

/-- CALL MOVE taken (R173). -/
def moveCall (p : Fin 4) (s : State) : State := placeCall p s

/-- CALL END taken in ALERTING, ACTIVE or ON_HOLD (R174, R175, R187). -/
def beginClosing (s : State) : State :=
  callEcho .off (s.setCall { s.call with state := .closing, closingArmed := false })

/-- The current gains of every call feed and of the uplink point are zero, their ramps idle (R176). -/
def silenceCall (s : State) : State :=
  s.setGain { s.gain with feed := s.gain.feed.map GainPoint.silenced, uplink := s.gain.uplink.silenced }

/-- STOP forces a call to IDLE (R176, R187). The sample awaiting the UPLINK slot is zero too (R165, log entry 16). -/
def stopCall (s : State) : State :=
  if s.call.state = .idle then s
  else
    let t := postNotice (.call .stopped) (callEcho .off (silenceCall (setCallState .idle s)))
    t.setUplink { t.uplink with out := 0 }

/-- A long loss forces a call to IDLE (R177, R187); its notices wait for the relink frame, CALL before ECHO (log entry 36).
The currents are already zero. -/
def loseCall (s : State) : State :=
  if s.call.state = .idle then s
  else
    let t := deferNotice (.call .lost) (setCallState .idle s)
    let v := if s.uplink.echo = .off then t else deferNotice (.echo .off) t
    v.setUplink { v.uplink with echo := .off, converge := 0, diverge := 0, out := 0 }

/-- A route point holds a running ramp whose cause is ducking (R175). -/
def duckingRamp (p : GainPoint) : Bool :=
  match p.ramp with
  | some r => r.cause == .ducking
  | none => false

/-- The three conditions of R175. -/
def callSilent (g : GainUnit) : Bool :=
  g.feed.all (fun p => p.current == 0) && g.uplink.current == 0 && !g.route.any duckingRamp

/-- The test of R175: CLOSING, in RUN or in PATTERN entered from RUN, after a frame later than the one of CALL END. -/
def closingDue (s : State) : Bool :=
  s.call.state == .closing && s.msg.op != .stopping && s.running && s.call.closingArmed && callSilent s.gain

/-- A closing ends (R175). -/
def closeCall (s : State) : State := postNotice (.call .ended) (setCallState .idle s)

/-- The test of R175 armed by a processed frame. -/
def armClosing (s : State) : State := s.setCall { s.call with closingArmed := true }

end Sys2Proof.Machine
end

