-- ==== Sys2Proof/Machine/Flags.lean ====
section
/-! DEFINITION. The words the part sends: HEAD and CHECK words, reply and notice words, and the status words of the
STATE reply with their flags (R27, R29, R31, R36; spec 02, Word layouts). -/

namespace Sys2Proof.Machine

/-! ## Message words (R23, R29) -/

/-- A HEAD word from its fields (spec 02, HEAD word). -/
def headWord (dest origin : Node) (kind : BitVec 6) (length : Nat) (tag : BitVec 8) : Word :=
  wordOf [at_ dest.toNat 28, at_ origin.toNat 24, at_ kind.toNat 18, at_ (length % 16) 14, tag.toNat]

/-- The 32-bit sum of words, modulo 2^32 (R23). -/
def wordSum (ws : List Word) : Word := ws.foldl (· + ·) 0

/-- The CHECK word that makes a message sum to zero (R23, R29). -/
def checkWord (head : Word) (body : List Word) : Word := -wordSum (head :: body)

/-- The words of an outgoing message under a position, with their types (R29, R31). -/
def messageWords (m : OutMessage) (position : Node) : List (WordType × Word) :=
  let h := headWord 0 position m.kind m.body.length m.tag
  (.head, h) :: m.body.map (fun w => (WordType.body, w)) ++ [(.check, checkWord h m.body)]

/-! ## Replies (R27) -/

/-- The result codes (R27), in the order of their code numbers. -/
inductive ResultCode where
  | ok | accepted | badKind | badArg | state | mode | busy | denied | taken | noCursor | overrun | unstable | mapping
  deriving DecidableEq, Repr

/-- The code of a result (spec 02, Reply first word). -/
def resultCode : ResultCode → Nat
  | .ok => 0
  | .accepted => 1
  | .badKind => 2
  | .badArg => 3
  | .state => 4
  | .mode => 5
  | .busy => 6
  | .denied => 7
  | .taken => 8
  | .noCursor => 9
  | .overrun => 10
  | .unstable => 11
  | .mapping => 12

/-- The kind code of a reply (spec 02, Replies and notices). -/
def replyKind : BitVec 6 := 0x20

/-- The first payload word of a reply (R27). -/
def replyFirst (code : ResultCode) (kind : BitVec 6) (detail : Nat) : Word :=
  wordOf [at_ (resultCode code) 28, at_ kind.toNat 22, detail % 65536]

/-! ## Codes inside notices and the STATE reply -/

/-- A position as a field: 0 for none. -/
def positionCode : Option Node → Nat
  | none => 0
  | some p => p.toNat

/-- Bank outcome codes. -/
def outcomeCode : BankOutcome → Nat
  | .swapped => 0
  | .unstable => 1
  | .immediate => 2

/-- Protection event codes. -/
def protectEventCode : ProtectEvent → Nat
  | .tier1Active => 0
  | .tier1Left => 1
  | .tier2Active => 2
  | .tier2Left => 3
  | .latched => 4

/-- Reception state codes. -/
def receptionCode : Reception → Nat
  | .good => 0
  | .fair => 1
  | .poor => 2

/-- CALL notice cause codes. -/
def causeCode : CallCause → Nat
  | .ended => 0
  | .stopped => 1
  | .lost => 2

/-- Echo state codes. -/
def echoCode : EchoState → Nat
  | .off => 0
  | .converging => 1
  | .converged => 2

/-- Talk state codes, by the order in which the layout lists them (log entry 26). -/
def talkCode : TalkState → Nat
  | .quiet => 0
  | .farOnly => 1
  | .nearOnly => 2
  | .double => 3

/-- Call state codes, by the order in which the layout lists them (log entry 26). -/
def callCode : CallState → Nat
  | .idle => 0
  | .alerting => 1
  | .active => 2
  | .onHold => 3
  | .closing => 4

/-- Diversity mode codes. -/
def modeCode : DiversityMode → Nat
  | .fixed _ => 0
  | .switched => 1
  | .paired => 2

/-- The antenna FIXED names, 0 in the other modes. -/
def fixedCode : DiversityMode → Nat
  | .fixed a => a.val
  | .switched | .paired => 0

/-- Notice kind numbers 0..9, in the order of the kinds. -/
def noticeIndex : NoticeKind → Nat
  | .state => 0
  | .link => 1
  | .bank => 2
  | .claim => 3
  | .protect => 4
  | .antenna => 5
  | .reception => 6
  | .call => 7
  | .echo => 8
  | .dropped => 9

/-! ## Notices (R31) -/

/-- The kind code of a notice message (spec 02, Replies and notices). -/
def noticeKind (k : NoticeKind) : BitVec 6 := BitVec.ofNat 6 (0x21 + noticeIndex k)

/-- The details of a notice in its first word, as fields. -/
def noticeFields : NoticeDetail → List Nat
  | .state op => [opCode op]
  | .link moved long position previous =>
    [at_ (bit moved) 20, at_ (bit long) 16, at_ (positionCode position) 4, positionCode previous]
  | .bank c outcome stage => [at_ c.val 16, at_ (outcomeCode outcome) 8, stage]
  | .claim z source held => [at_ (seatZone z).val 16, at_ (sourceCode source) 8, if held then 2 else 0]
  | .protect c event => [at_ c.val 16, protectEventCode event]
  | .antenna a present duration => [at_ (bit present) 20, at_ a.val 16, duration]
  | .reception state _ => [receptionCode state]
  | .call cause => [causeCode cause]
  | .echo state => [echoCode state]
  | .dropped tally => [tally]

/-- The first payload word of a notice (R31). -/
def noticeFirst (n : Notice) : Word := wordOf (at_ n.count 24 :: noticeFields n.detail)

/-- The second payload word of a notice, for the kinds that have one (R31). -/
def noticeSecond (n : Notice) : List Word :=
  match n.detail with
  | .claim .. => [wordOf [n.changed.toNat % 32]]
  | .protect .. => [wordOf [n.changed.toNat]]
  | .reception _ frequency => [wordOf [frequency]]
  | .state _ | .link .. | .bank .. | .antenna .. | .call _ | .echo _ | .dropped _ => []

/-- A notice as a message of the outgoing queue under a sequence number (R31). -/
def noticeMessage (n : Notice) (seq : BitVec 8) : OutMessage :=
  ⟨noticeKind n.detail.kind, seq, noticeFirst n :: noticeSecond n, false⟩

/-! ## The STATE reply (R36) -/

/-- The cursor fields of the first word: open, table, CONTINUE, SPARE, ACTIVATE-ON-CLOSE; what the table and the flags
hold while no cursor is open is free (log entry 12). -/
def cursorFields (s : State) : Nat :=
  match s.msg.cursor with
  | some c =>
    at_ 1 16 + at_ (tableNumber c.table) 20 + at_ (bit c.activate) 24 + at_ (bit c.spare) 25 + at_ (bit c.cont) 26
  | none => at_ (Config.closedCursorTable s.draws).toNat 20

/-- The cursor index of the second word; free while no cursor is open (log entry 12). -/
def cursorIndex (s : State) : Nat :=
  match s.msg.cursor with
  | some c => c.index
  | none => (Config.closedCursorIndex s.draws).toNat

/-- The set of pending notice kinds, bit 20 STATE to bit 29 DROPPED. -/
def pendingKinds (set : List Notice) : Nat := (set.map fun n => at_ 1 (20 + noticeIndex n.detail.kind)).sum

/-- The five data words of the STATE reply (R36). The queue count, the pending kinds and the sequence number are those of
the moment it is taken, also where a notice of the same frame then enters before it (log entry 35). -/
def stateWords (s : State) : List Word :=
  let m := s.msg
  [ wordOf [opCode m.op, at_ (opCode m.patternFrom) 2, at_ (positionCode s.ring.position) 4,
      at_ (formatCode s.ring.patternFormat) 8, cursorFields s],
    wordOf [cursorIndex s, at_ m.queue.length 16, pendingKinds m.notices],
    wordOf [at_ m.broken 16, m.checkFailed],
    wordOf [m.dropped, at_ m.noticeSeq.toNat 16],
    wordOf [callCode s.call.state, at_ s.call.placement.val 4, at_ (echoCode s.uplink.echo) 8,
      at_ (talkCode s.uplink.talk) 12, at_ (receptionCode s.radio.reception) 16, at_ (bit s.radio.pilot) 18,
      at_ (modeCode s.ant.mode) 20, at_ (fixedCode s.ant.mode) 22, at_ s.ant.current.val 24,
      at_ (bit s.ant.pendingMode.isSome) 26] ]

end Sys2Proof.Machine
end

