-- ==== Sys2Proof/Machine/Tables.lean ====
section
/-! DEFINITION. The sixteen tables (spec 02, 2.6 and 2.7): their sizes and permissions, the entry words read and
written, the structural faults and clamps of each, and the table cursor. -/

namespace Sys2Proof.Machine

/-! ## Sizes and permissions -/

/-- How many entries a table has. -/
def tableEntries : Table → Nat
  | .slotMap => 96
  | .channel => 28
  | .route => 32
  | .zone => 5
  | .curve => 256
  | .duck => 40
  | .placement => 20
  | .coef => 224
  | .protect => 4
  | .amp => 4
  | .beam => 24
  | .penalty => 32
  | .blend => 32
  | .radio | .echo | .ramp => 1

/-- How many words an entry has. -/
def entryWords : Table → Nat
  | .coef => 5
  | .protect => 8
  | .radio | .ramp => 4
  | .echo => 6
  | .slotMap | .channel | .route | .zone | .curve | .duck | .placement | .amp | .beam | .penalty | .blend => 1

/-- A table is writable in an operating state. -/
def tableWritable (t : Table) (op : OpState) : Bool :=
  match op with
  | .config => true
  | .run =>
    match t with
    | .slotMap | .channel | .route | .zone => false
    | .curve | .duck | .placement | .coef | .protect | .amp | .beam | .penalty | .blend | .radio | .echo | .ramp => true
  | .stopping | .pattern => false

/-! ## SLOTMAP (R13) -/

/-- The role of an entry word; none when a code names nothing. -/
def roleOfWord (w : Word) : Option Role :=
  let x := field w 23 16
  let n := field w 15 8
  match field w 31 24 with
  | 0 => some .unused
  | 1 => (finOf 4 x).bind fun a => (finOf 4 n).map fun k => Role.antI a k
  | 2 => (finOf 4 x).bind fun a => (finOf 4 n).map fun k => Role.antQ a k
  | 3 => (finOf 6 x).map .mic
  | 4 => (mediaOf x).map .srcL
  | 5 => (mediaOf x).map .srcR
  | 6 => (monoOf x).map .srcM
  | 7 => (finOf 28 x).map .out
  | 8 => some .uplink
  | 9 => (finOf 4 x).map .amp
  | _ => none

/-- The entry word of a role. -/
def wordOfRole : Role → Word
  | .unused => 0
  | .antI a n => wordOf [at_ 1 24, at_ a.val 16, at_ n.val 8]
  | .antQ a n => wordOf [at_ 2 24, at_ a.val 16, at_ n.val 8]
  | .mic m => wordOf [at_ 3 24, at_ m.val 16]
  | .srcL x => wordOf [at_ 4 24, at_ (mediaCode x) 16]
  | .srcR x => wordOf [at_ 5 24, at_ (mediaCode x) 16]
  | .srcM x => wordOf [at_ 6 24, at_ (monoCode x) 16]
  | .out c => wordOf [at_ 7 24, at_ c.val 16]
  | .uplink => wordOf [at_ 8 24]
  | .amp a => wordOf [at_ 9 24, at_ a.val 16]

/-! ## CHANNEL (R89) -/

/-- A zone field of CHANNEL: Z0..Z4, 7 for NONE; the other codes name nothing. -/
def channelZoneOf (code : Nat) : Option (Option (Fin 5)) := if code = 7 then some none else (finOf 5 code).map some

/-- An amplifier field of CHANNEL: 0..3, 7 for NONE; the other codes name nothing. -/
def channelAmpOf (code : Nat) : Option (Option (Fin 4)) := if code = 7 then some none else (finOf 4 code).map some

/-- The record of an entry word, its trim clamped; none when a code names nothing. -/
def channelOfWord (w : Word) : Option ChannelRecord :=
  (channelZoneOf (field w 22 20)).bind fun zone =>
  (sideOf (field w 19 18)).bind fun side =>
  (channelAmpOf (field w 14 12)).map fun amp =>
    ⟨zone, side, clampSteps (-320) 32 (stepOf (field w 9 0)), finWrap 3 (field w 17 16), amp,
      finWrap 7 (field w 26 24)⟩

/-- A field that may be NONE, coded 7. -/
def noneSeven {n : Nat} : Option (Fin n) → Nat
  | none => 7
  | some x => x.val

/-- The entry word of a record. -/
def wordOfChannel (r : ChannelRecord) : Word :=
  wordOf [at_ r.ampChannel.val 24, at_ (noneSeven r.zone) 20, at_ (sideCode r.side) 18, at_ r.cls.val 16,
    at_ (noneSeven r.amp) 12, codeOf 10 r.trim]

/-- The relations of R89: a headphone channel names no shared zone and no amplifier; no other channel names the same
amplifier channel. -/
def channelFits (u : ChannelUnit) (c : Fin 28) (r : ChannelRecord) : Bool :=
  (decide (c.val < 24) || (r.zone.all (fun z => decide (3 ≤ z.val)) && r.amp.isNone)) &&
  (r.amp.isNone || (List.finRange 28).all fun d =>
    d == c || !(u.channels[d].record.amp == r.amp && u.channels[d].record.ampChannel == r.ampChannel))

/-! ## ROUTE (R49, R50) -/

/-- The record of an entry word, its trim clamped; none when a code of a non-EMPTY entry names nothing it may. -/
def routeOfWord (w : Word) : Option RouteRecord :=
  (routeStateOf (field w 31 30)).bind fun st =>
    if st = .empty then some ⟨.empty, .radio, 0, 0, .none⟩
    else
      (sourceOf (field w 29 27)).bind fun src =>
      (finOf 5 (field w 26 24)).bind fun zone =>
      (duckOf (field w 21 20)).bind fun duck =>
        if src = .call then none else some ⟨st, src, zone, clampSteps (-320) 32 (stepOf (field w 9 0)), duck⟩

/-- The entry word of a record. -/
def wordOfRoute (r : RouteRecord) : Word :=
  wordOf [at_ (routeStateCode r.state) 30, at_ (sourceCode r.source) 27, at_ r.zone.val 24, at_ (duckCode r.duck) 20,
    codeOf 10 r.trim]

/-- No other non-EMPTY entry has the source and the zone of a non-EMPTY one (R50). -/
def routeFits (m : MixUnit) (i : Fin 32) (r : RouteRecord) : Bool :=
  r.state == .empty || (List.finRange 32).all fun j =>
    let x := m.routes[j]
    j == i || x.state == .empty || !(x.source == r.source && x.zone == r.zone)

/-! ## ZONE (R45, R58) -/

/-- A zone record after an entry word: its static fields alone; the cap is the private zones'. -/
def zoneWritten (z : Fin 5) (w : Word) (r : ZoneRecord) : ZoneRecord :=
  { r with
    curve := finWrap 3 (field w 31 30)
    panel := BitVec.ofNat 4 (field w 29 26)
    cap := if 3 ≤ z.val then clampSteps (-320) 0 (stepOf (field w 25 16)) else r.cap }

/-- Claim state codes. -/
def claimCode : ClaimState → Nat
  | .pending => 1
  | .held => 2
  | .releasing => 3

/-- The claim fields of a zone's entry word: the claimed source, 7 for none, and the claim state. -/
def claimFields (m : MixUnit) (z : Fin 5) : Nat :=
  match (seatOf z.val).bind fun a => shownClaim m a with
  | none => at_ 7 5
  | some c => at_ (sourceCode c.source) 5 + at_ (claimCode c.state) 3

/-- The entry word of a zone (R41). -/
def wordOfZone (m : MixUnit) (z : Fin 5) : Word :=
  let r := m.zones[z]
  wordOf [at_ r.curve.val 30, at_ r.panel.toNat 26, at_ (codeOf 10 r.cap) 16, at_ r.volume.val 10, at_ (bit r.mute) 9,
    at_ (bit r.seatMode) 8, claimFields m z, at_ (bit r.lock) 2]

/-! ## COEF (R97) -/

/-- The five words of a stage, as a stage. -/
def stageOfWords (ws : List Word) : Stage :=
  let v (i : Nat) : Int := signedOf 24 (field (ws.getD i 0) 23 0)
  ⟨v 0, v 1, v 2, v 3, v 4⟩

/-- The five words of a stage. -/
def wordsOfStage (c : Stage) : List Word := [c.b0, c.b1, c.b2, c.a1, c.a2].map fun v => wordOf [codeOf 24 v]

/-! ## PROTECT (R110) and AMP (R111) -/

/-- A level field: 24 bits, at most 8,388,607. -/
def levelField (w : Word) : Nat := min 8388607 (field w 23 0)

/-- The class of eight words, clamped; none when a recovery level stands above its trigger level. -/
def classOfWords (ws : List Word) : Option ProtectClass :=
  let w (i : Nat) : Word := ws.getD i 0
  let k : ProtectClass :=
    { t1Level := levelField (w 0)
      t1Recover := levelField (w 1)
      t2Level := levelField (w 2)
      t2Recover := levelField (w 3)
      t1Time := field (w 4) 31 16
      t2Time := field (w 4) 15 0
      recoverTime := max 1 (field (w 5) 31 16)
      fastHold := max 1 (field (w 5) 15 0)
      latchWindow := max 1 (field (w 6) 31 16)
      derateFactor := field (w 6) 15 8
      latchCount := field (w 6) 3 0
      t1Reduce := clampSteps (-320) 0 (stepOf (field (w 7) 29 20))
      fastReduce := clampSteps (-320) 0 (stepOf (field (w 7) 19 10))
      derateBand := min 100 (field (w 7) 6 0) }
  if k.t1Level < k.t1Recover ∨ k.t2Level < k.t2Recover then none else some k

/-- The eight words of a class. -/
def wordsOfClass (k : ProtectClass) : List Word :=
  [ wordOf [k.t1Level], wordOf [k.t1Recover], wordOf [k.t2Level], wordOf [k.t2Recover],
    wordOf [at_ k.t1Time 16, k.t2Time], wordOf [at_ k.recoverTime 16, k.fastHold],
    wordOf [at_ k.latchWindow 16, at_ k.derateFactor 8, k.latchCount],
    wordOf [at_ (codeOf 10 k.t1Reduce) 20, at_ (codeOf 10 k.fastReduce) 10, k.derateBand] ]

/-- The entry word of an amplifier (R111). -/
def wordOfAmp (a : Amplifier) : Word :=
  wordOf [a.limit, at_ a.temperature 8, at_ (bit a.status) 16, at_ (bit a.overTemp) 17]

/-! ## BEAM (R179), BLEND (R153), RADIO (R137), ECHO (R184), RAMP (R80) -/

/-- A BEAM entry from its word. -/
def beamOfWord (w : Word) : BeamEntry := ⟨finWrap 31 (field w 20 16), signedOf 16 (field w 15 0)⟩

/-- The word of a BEAM entry. -/
def wordOfBeam (b : BeamEntry) : Word := wordOf [at_ b.delay.val 16, codeOf 16 b.weight]

/-- A BLEND entry from its word, clamped. -/
def blendOfWord (w : Word) : BlendEntry :=
  ⟨min 16 (field w 28 24), field w 18 16, clampStep (-320) 0 (stepOf (field w 9 0))⟩

/-- The word of a BLEND entry. -/
def wordOfBlend (e : BlendEntry) : Word := wordOf [at_ e.separation 24, at_ e.highCut 16, stepCode e.softMute]

/-- The RADIO record from its four words, clamped. -/
def radioOfWords (ws : List Word) : RadioRecord :=
  let w (i : Nat) : Word := ws.getD i 0
  { switchLevel := min 127 (field (w 0) 31 24)
    hysteresis := min 127 (field (w 0) 23 16)
    margin := min 127 (field (w 0) 15 8)
    pairMargin := min 127 (field (w 0) 7 0)
    goodLevel := min 127 (field (w 1) 31 24)
    poorLevel := min 127 (field (w 1) 23 16)
    tuneSettle := field (w 1) 15 0
    dwell := max 1 (field (w 2) 31 16)
    pairDwell := max 1 (field (w 2) 15 0)
    poorTime := max 1 (field (w 3) 31 16)
    recoverTime := max 1 (field (w 3) 15 0) }

/-- The four words of the RADIO record. -/
def wordsOfRadio (r : RadioRecord) : List Word :=
  [ wordOf [at_ r.switchLevel 24, at_ r.hysteresis 16, at_ r.margin 8, r.pairMargin],
    wordOf [at_ r.goodLevel 24, at_ r.poorLevel 16, r.tuneSettle],
    wordOf [at_ r.dwell 16, r.pairDwell], wordOf [at_ r.poorTime 16, r.recoverTime] ]

/-- The ECHO record from its six words, clamped. -/
def echoOfWords (ws : List Word) : EchoRecord :=
  let w (i : Nat) : Word := ws.getD i 0
  { farThreshold := levelField (w 0)
    nearThreshold := levelField (w 1)
    nearRelax := max 1 (field (w 2) 31 16)
    farRelax := max 1 (field (w 2) 15 0)
    convergeBlocks := max 1 (field (w 3) 31 16)
    divergeBlocks := max 1 (field (w 3) 15 0)
    convergeLevel := field (w 4) 23 16
    divergeLevel := field (w 4) 15 8
    pathStep := field (w 4) 7 0
    attenuation := clampSteps (-320) 0 (stepOf (field (w 5) 9 0)) }

/-- The six words of the ECHO record. -/
def wordsOfEcho (r : EchoRecord) : List Word :=
  [ wordOf [r.farThreshold], wordOf [r.nearThreshold], wordOf [at_ r.nearRelax 16, r.farRelax],
    wordOf [at_ r.convergeBlocks 16, r.divergeBlocks],
    wordOf [at_ r.convergeLevel 16, at_ r.divergeLevel 8, r.pathStep], wordOf [codeOf 10 r.attenuation] ]

/-- The RAMP record from its four words, clamped. -/
def rampsOfWords (ws : List Word) : RampRecord :=
  let w (i : Nat) : Word := ws.getD i 0
  { route := max 1 (field (w 0) 31 16)
    volume := max 1 (field (w 0) 15 0)
    attack := max 1 (field (w 1) 31 16)
    release := max 1 (field (w 1) 15 0)
    claim := max 1 (field (w 2) 31 16)
    call := max 1 (field (w 2) 15 0)
    stop := max 1 (field (w 3) 15 0) }

/-- The four words of the RAMP record. -/
def wordsOfRamps (r : RampRecord) : List Word :=
  [ wordOf [at_ r.route 16, r.volume], wordOf [at_ r.attack 16, r.release], wordOf [at_ r.claim 16, r.call],
    wordOf [r.stop] ]

/-! ## Reading an entry (R41) -/

/-- The bank a COEF read takes: the live one, or with SPARE the spare one. -/
def bankRead (c : Channel) (spare : Bool) : Bank := if spare then c.spareBank else c.live

/-- The words of an entry of a table. -/
def readEntry (s : State) (t : Table) (spare : Bool) (i : Nat) : List Word :=
  match t with
  | .slotMap => [wordOfRole s.ring.slotMap[finWrap 95 i]]
  | .channel => [wordOfChannel s.chan.channels[finWrap 27 i].record]
  | .route => [wordOfRoute s.mix.routes[finWrap 31 i]]
  | .zone => [wordOfZone s.mix (finWrap 4 i)]
  | .curve => [wordOf [stepCode s.gain.curve[finWrap 255 i]]]
  | .duck => [wordOf [stepCode s.call.ducks[finWrap 39 i]]]
  | .placement => [wordOf [stepCode s.call.placements[finWrap 19 i]]]
  | .coef => wordsOfStage (bankRead s.chan.channels[finWrap 27 (i / 8)] spare).stages[finWrap 7 i]
  | .protect => wordsOfClass s.prot.classes[finWrap 3 i]
  | .amp => [wordOfAmp s.prot.amps[finWrap 3 i]]
  | .beam => [wordOfBeam s.uplink.beams[finWrap 23 i]]
  | .penalty => [wordOf [s.ant.penalty[finWrap 31 i]]]
  | .blend => [wordOfBlend s.radio.blend[finWrap 31 i]]
  | .radio => wordsOfRadio s.ant.record
  | .echo => wordsOfEcho s.uplink.record
  | .ramp => wordsOfRamps s.gain.ramps

/-- How many whole entries fit in a TABLE READ reply (R41). -/
def readLimit (t : Table) : Nat := 14 / entryWords t

/-! ## Writing an entry (R38, R39) -/

/-- A CHANNEL entry is written (R89). -/
def writeChannel (c : Fin 28) (w : Word) (s : State) : Option State :=
  (channelOfWord w).bind fun r =>
    if channelFits s.chan c r then some (setChannel c { s.chan.channels[c] with record := r } s) else none

/-- A ROUTE entry is written; its point is set to zero with no ramp (R49, R50). -/
def writeRoute (i : Fin 32) (w : Word) (s : State) : Option State :=
  (routeOfWord w).bind fun r =>
    if routeFits s.mix i r then
      some (silencePoint (.route i) (s.setMix { s.mix with routes := s.mix.routes.set i r }))
    else none

/-- A stage of a channel's spare bank is written (R97). -/
def writeStage (c : Fin 28) (i : Fin 8) (ws : List Word) (s : State) : State :=
  let x := s.chan.channels[c]
  setChannel c (x.setSpare { x.spareBank with stages := x.spareBank.stages.set i (stageOfWords ws) }) s

/-- The RADIO record is written (R137): in RUN its tune settle is in force from the next evaluation, otherwise at
once (log entry 39). -/
def writeRadio (ws : List Word) (s : State) : State :=
  let r := radioOfWords ws
  let t := s.setAnt { s.ant with record := r }
  if s.msg.op = .run then t else t.setRadio { t.radio with settle := r.tuneSettle }

/-- One whole entry is written at an index; none when it is structurally wrong. -/
def writeEntry (t : Table) (i : Nat) (ws : List Word) (s : State) : Option State :=
  let w := ws.headD 0
  match t with
  | .slotMap =>
    (roleOfWord w).map fun r => s.setRing { s.ring with slotMap := s.ring.slotMap.set (finWrap 95 i) r }
  | .channel => writeChannel (finWrap 27 i) w s
  | .route => writeRoute (finWrap 31 i) w s
  | .zone =>
    let z : Fin 5 := finWrap 4 i
    some (s.setMix { s.mix with zones := s.mix.zones.set z (zoneWritten z w s.mix.zones[z]) })
  | .curve =>
    some (s.setGain { s.gain with
      curve := s.gain.curve.set (finWrap 255 i) (clampStep (-320) 16 (stepOf (field w 9 0))) })
  | .duck =>
    some (s.setCall { s.call with
      ducks := s.call.ducks.set (finWrap 39 i) (clampStep (-320) 0 (stepOf (field w 9 0))) })
  | .placement =>
    some (s.setCall { s.call with
      placements := s.call.placements.set (finWrap 19 i) (clampStep (-320) 32 (stepOf (field w 9 0))) })
  | .coef => some (writeStage (finWrap 27 (i / 8)) (finWrap 7 i) ws s)
  | .protect =>
    (classOfWords ws).map fun k => setClass (finWrap 3 i) k s
  | .amp =>
    let a : Fin 4 := finWrap 3 i
    some (s.setProt { s.prot with amps := s.prot.amps.set a { s.prot.amps[a] with limit := field w 7 0 } })
  | .beam => some (s.setUplink { s.uplink with beams := s.uplink.beams.set (finWrap 23 i) (beamOfWord w) })
  | .penalty => some (s.setAnt { s.ant with penalty := s.ant.penalty.set (finWrap 31 i) (field w 6 0) })
  | .blend => some (s.setRadio { s.radio with blend := s.radio.blend.set (finWrap 31 i) (blendOfWord w) })
  | .radio => some (writeRadio ws s)
  | .echo => some (s.setUplink { s.uplink with record := echoOfWords ws })
  | .ramp => some (s.setGain { s.gain with ramps := rampsOfWords ws })

/-- The first index past the last entry a cursor may write: the table's end, or for COEF the end of its channel (R39). -/
def cursorEnd (c : Cursor) : Nat :=
  match c.table with
  | .coef => c.chan.val * 8 + 8
  | t => tableEntries t

/-- The fault that ended a TABLE WRITE (R39). -/
inductive WriteFault where
  | none
  | overrun
  | wrong
  deriving DecidableEq, Repr

/-- What the entries of a TABLE WRITE came to: the state, how many were written, the fault if any. -/
structure WriteOutcome where
  state : State
  written : Nat
  fault : WriteFault
  deriving DecidableEq, Repr

/-- The entries of a TABLE WRITE in order, `done` of them written already (R38, R39). -/
def writeEntries (c : Cursor) : List (List Word) → Nat → State → WriteOutcome
  | [], done, s => ⟨s, done, .none⟩
  | e :: es, done, s =>
    if cursorEnd c ≤ c.index + done then ⟨s, done, .overrun⟩
    else
      match writeEntry c.table (c.index + done) e s with
      | none => ⟨s, done, .wrong⟩
      | some t => writeEntries c es (done + 1) t

/-- A payload cut into entries of n words; the fuel is the payload's length. -/
def entriesOf (n : Nat) : Nat → List Word → List (List Word)
  | 0, _ => []
  | fuel + 1, ws => if ws.isEmpty then [] else ws.take n :: entriesOf n fuel (ws.drop n)

/-! ## The cursor (R37, R40) -/

/-- The cursor closes, cleanly or as aborted (R40, R98, R101). -/
def closeCursor (clean : Bool) (s : State) : State :=
  match s.msg.cursor with
  | none => s
  | some c =>
    let t := s.setMsg { s.msg with cursor := none }
    if c.table = .coef then
      let u := setSpareState c.chan .loaded t
      if clean && c.activate then activateOnClose c.chan u else u
    else t

/-- The cursor opens at an entry, an open one closing as replaced (R37, R97). -/
def openCursor (c : Cursor) (s : State) : State :=
  let t := closeCursor false s
  let u := t.setMsg { t.msg with cursor := some c }
  if c.table = .coef then setSpareState c.chan .open_ u else u

/-- The cursor of a TABLE OPEN word (spec 02, Kinds and request arguments). -/
def cursorOfWord (w : Word) : Cursor where
  table := tableOf (field w 31 28)
  index := field w 15 0
  chan := finWrap 27 (field w 15 0 / 8)
  cont := bitAt w 27
  spare := bitAt w 26
  activate := bitAt w 25

end Sys2Proof.Machine
end

