-- ==== Sys2Proof/Machine/Requests.lean ====
section
/-! DEFINITION. Requests (spec 02): how one is taken, judged and answered, what each kind does when it passes, and the
meanings of the table's request rows. -/

namespace Sys2Proof.Machine

/-! ## The slot map as a whole (R16) -/

/-- The antenna of a role, if it has one. -/
def roleAntenna : Role → Option (Fin 4)
  | .antI a _ | .antQ a _ => some a
  | .unused | .mic _ | .srcL _ | .srcR _ | .srcM _ | .out _ | .uplink | .amp _ => none

/-- The stereo source of a role, if it has one. -/
def roleMedia : Role → Option Media
  | .srcL x | .srcR x => some x
  | .unused | .antI _ _ | .antQ _ _ | .mic _ | .srcM _ | .out _ | .uplink | .amp _ => none

/-- The roles of an antenna. -/
def antennaRoles (a : Fin 4) : List Role :=
  (List.finRange 4).map (Role.antI a) ++ (List.finRange 4).map (Role.antQ a)

/-- Every role of an antenna stands in the map. -/
def antennaWhole (m : List Role) (a : Fin 4) : Bool := (antennaRoles a).all fun r => m.contains r

/-- Both sides of a stereo source stand in the map. -/
def mediaWhole (m : List Role) (x : Media) : Bool := m.contains (.srcL x) && m.contains (.srcR x)

/-- A slot's role offends, given the roles of the whole map and those of the lower slots (R16): it stands in a lower
slot too, or it is the lowest slot of an antenna mapped in part or of a stereo source mapped on one side. -/
def offends (whole before : List Role) (r : Role) : Bool :=
  (r != .unused && before.contains r) ||
  (match roleAntenna r with
    | some a => !antennaWhole whole a && !before.any (fun x => roleAntenna x == some a)
    | none => false) ||
  (match roleMedia r with
    | some x => !mediaWhole whole x && !before.any (fun y => roleMedia y == some x)
    | none => false)

/-- The lowest offending slot among the slots that follow `before`, if any. -/
def firstOffence (whole : List Role) : List Role → List Role → Nat → Option Nat
  | _, [], _ => none
  | before, r :: rest, i => if offends whole before r then some i else firstOffence whole (r :: before) rest (i + 1)

/-- The lowest-numbered offending slot of a map; none when the map is valid (R16). -/
def mapFault (m : Vector Role 96) : Option Nat := firstOffence m.toList [] m.toList 0

/-! ## Answers -/

/-- What a request came to: its result code and detail, its data words, the state it leaves. -/
structure Answer where
  code : ResultCode
  detail : Nat
  data : List Word
  state : State
  deriving DecidableEq, Repr

/-- A request refused: no data, no effect (R25). -/
def refuse (code : ResultCode) (detail : Nat) (s : State) : Answer := ⟨code, detail, [], s⟩

/-- A request answered OK with no detail. -/
def answerOk (s : State) : Answer := ⟨.ok, 0, [], s⟩

/-- A request answered ACCEPTED. -/
def answerAccepted (s : State) : Answer := ⟨.accepted, 0, [], s⟩

/-- Payload word i of a request. -/
def argument (r : Request) (i : Nat) : Word := r.payload.getD i 0

/-- The operating state is set. -/
def setOp (op : OpState) (s : State) : State := s.setMsg { s.msg with op := op }

/-! ## The part as a whole: STATE, START, STOP, RESET, PATTERN (R18, R20, R33 to R36) -/

/-- STATE (R36). The cursor fields of a closed cursor are drawn (log entry 12). -/
def handleState (_r : Request) (s : State) : Answer :=
  ⟨.ok, 0, stateWords s, if s.msg.cursor.isNone then s.drawn else s⟩

/-- The next processed frame starts every point from zero (R82, R86). -/
def startPoints (s : State) : State := s.setGain { s.gain with startPending := true }

/-- The part enters RUN: what every unit does at START (R33). -/
def enterRun (s : State) : State :=
  startUplink (startRadio (startAntennas (startAmps (startChannels (startPoints (silenceAll (setOp .run s)))))))

/-- START (R33). -/
def handleStart (_r : Request) (s : State) : Answer :=
  match mapFault s.ring.slotMap with
  | some i => refuse .mapping i s
  | none => answerOk (enterRun s)

/-- STOP (R34, R65, R176): the call's notices are posted before the claims' (log entry 36). -/
def handleStop (_r : Request) (s : State) : Answer := answerAccepted (releaseAll (stopCall (setOp .stopping s)))

/-- RESET (R35): it takes effect when the reply has been sent, a broadcast one at once. -/
def handleReset (r : Request) (s : State) : Answer :=
  answerOk (s.setMsg { s.msg with resetPhase := if r.dest = 0 then .due else .pending })

/-- The pattern words of a PATTERN ENTER. -/
def patternWords (r : Request) : Vector SlotWord 4 := Vector.ofFn fun i => (argument r (i.val + 1)).setWidth 24

/-- The part takes a format and words and stands in PATTERN (R18); the state it came from is kept in PATTERN. -/
def enterPattern (format : PatternFormat) (words : Vector SlotWord 4) (s : State) : State :=
  let t := s.setRing { s.ring with pattern := words, patternFormat := format }
  t.setMsg { t.msg with op := .pattern, patternFrom := if s.msg.op = .pattern then s.msg.patternFrom else s.msg.op }

/-- PATTERN ENTER (R18). -/
def handlePatternEnter (r : Request) (s : State) : Answer :=
  match formatOf (field (argument r 0) 1 0) with
  | none => refuse .badArg 0 s
  | some format =>
    match if s.msg.op = .config then mapFault s.ring.slotMap else none with
    | some i => refuse .mapping i s
    | none => answerOk (enterPattern format (patternWords r) s)

/-- PATTERN EXIT (R20). -/
def handlePatternExit (_r : Request) (s : State) : Answer := answerOk (setOp s.msg.patternFrom s)

/-! ## Tables (R37 to R41) -/

/-- A cursor's spare bank is in transition (R37). -/
def spareInTransition (s : State) (c : Fin 28) : Bool :=
  s.chan.channels[c].spare == .queued || s.chan.channels[c].spare == .fading

/-- The arguments of TABLE OPEN break a rule (R37). -/
def openFault (c : Cursor) : Bool :=
  decide (tableEntries c.table ≤ c.index) || (c.spare && c.table != .coef) || (!c.spare && c.table == .coef) ||
    (c.activate && !c.spare)

/-- TABLE OPEN (R37). -/
def handleTableOpen (r : Request) (s : State) : Answer :=
  let c := cursorOfWord (argument r 0)
  if openFault c then refuse .badArg 0 s
  else if !tableWritable c.table s.msg.op then refuse .state 0 s
  else if c.spare && spareInTransition s c.chan then refuse .busy 0 s
  else answerOk (openCursor c s)

/-- A BEAM write in RUN that touches a seat of the selection in use is one beam change (R181, log entry 20). -/
def beamsTouched (c : Cursor) (written : Nat) (s : State) : Bool :=
  c.table == .beam && s.msg.op == .run &&
    (selectionInUse s.uplink).any fun b =>
      (List.range written).any fun i => (c.index + i) / 6 == b.seat.val

/-- The cursor moves on by the entries written. -/
def advanceCursor (c : Cursor) (written : Nat) (s : State) : State :=
  s.setMsg { s.msg with cursor := some { c with index := c.index + written } }

/-- TABLE WRITE's entries on an open cursor (R38, R39). -/
def writeTable (c : Cursor) (payload : List Word) (s : State) : Answer :=
  let o := writeEntries c (entriesOf (entryWords c.table) payload.length payload) 0 s
  let t := advanceCursor c o.written o.state
  let u := if beamsTouched c o.written s then changeBeams t else t
  match o.fault with
  | .none => ⟨.ok, o.written, [], if c.cont then u else closeCursor true u⟩
  | .overrun => ⟨.overrun, o.written, [], closeCursor false u⟩
  | .wrong => ⟨.badArg, c.index + o.written, [], closeCursor false u⟩

/-- TABLE WRITE (R38). -/
def handleTableWrite (r : Request) (s : State) : Answer :=
  match s.msg.cursor with
  | none => refuse .noCursor 0 s
  | some c =>
    if r.payload.length % entryWords c.table ≠ 0 then ⟨.badArg, 65535, [], closeCursor false s⟩
    else if !tableWritable c.table s.msg.op then ⟨.state, 0, [], closeCursor false s⟩
    else writeTable c r.payload s

/-- TABLE CLOSE (R40). -/
def handleTableClose (_r : Request) (s : State) : Answer := answerOk (closeCursor true s)

/-- TABLE READ (R41). -/
def handleTableRead (r : Request) (s : State) : Answer :=
  let w := argument r 0
  let t := tableOf (field w 31 28)
  let i := field w 15 0
  let spare := bitAt w 26
  if tableEntries t ≤ i ∨ (spare ∧ t ≠ .coef) then refuse .badArg 0 s
  else
    let n := min (min (field w 23 16) (tableEntries t - i)) (readLimit t)
    ⟨.ok, n, (List.range n).flatMap fun k => readEntry s t spare (i + k), s⟩

/-! ## Routes and zones (R46 to R48, R52, R59 to R64) -/

/-- ROUTE SET (R52). -/
def handleRouteSet (r : Request) (s : State) : Answer :=
  let w := argument r 0
  match finOf 32 (field w 31 24), routeStateOf (field w 23 22), duckOf (field w 21 20) with
  | some i, some st, some duck =>
    if s.mix.routes[i].state = .empty ∨ st = .empty then refuse .badArg 0 s
    else
      let x := { s.mix.routes[i] with state := st, duck := duck, trim := clampSteps (-320) 32 (stepOf (field w 9 0)) }
      answerOk (s.setMix { s.mix with routes := s.mix.routes.set i x })
  | _, _, _ => refuse .badArg 0 s

/-- A zone record is replaced. -/
def setZone (z : Fin 5) (x : ZoneRecord) (s : State) : State :=
  s.setMix { s.mix with zones := s.mix.zones.set z x }

/-- A request on a zone: a zone code above 4 is refused. -/
def onZone (r : Request) (s : State) (f : Fin 5 → Answer) : Answer :=
  match finOf 5 (field (argument r 0) 31 28) with
  | none => refuse .badArg 0 s
  | some z => f z

/-- ZONE SET (R46). -/
def handleZoneSet (r : Request) (s : State) : Answer :=
  onZone r s fun z =>
    answerOk (setZone z { s.mix.zones[z] with volume := finWrap 63 (min 63 (field (argument r 0) 7 0)) } s)

/-- ZONE MUTE (R47). -/
def handleZoneMute (r : Request) (s : State) : Answer :=
  onZone r s fun z => answerOk (setZone z { s.mix.zones[z] with mute := bitAt (argument r 0) 0 } s)

/-- ZONE LOCK (R48). -/
def handleZoneLock (r : Request) (s : State) : Answer :=
  onZone r s fun z => answerOk (setZone z { s.mix.zones[z] with lock := bitAt (argument r 0) 0 } s)

/-- ZONE SOURCE naming none (R59, R62, R64). -/
def releaseZone (z : Fin 2) (s : State) : Answer :=
  match claimOf s.mix z with
  | none => answerOk (setSeatMode z false s)
  | some c =>
    if c.state = ClaimState.pending then answerOk (setSeatMode z false (endPending z c s))
    else if s.msg.op = .config then answerOk (setSeatMode z false (releaseAtOnce z s))
    else answerAccepted (setSeatMode z false (releaseHeld z s))

/-- A seat holds a PENDING or HELD claim on a source (R59). -/
def claims (m : MixUnit) (z : Fin 2) (x : Source) : Bool := (claimOf m z).any fun c => c.source == x

/-- ZONE SOURCE naming a claimable source (R59, R60, R64). -/
def claimZone (z : Fin 2) (x : Source) (s : State) : Answer :=
  if claims s.mix (otherSeat z) x then refuse .taken (seatZone (otherSeat z)).val s
  else if claims s.mix z x then answerOk s
  else if s.msg.op = .config then answerOk (claimAtOnce z x s)
  else answerAccepted (newClaim z x s)

/-- ZONE SOURCE (R59). -/
def handleZoneSource (r : Request) (s : State) : Answer :=
  match seatOf (field (argument r 0) 31 28) with
  | none => refuse .badArg 0 s
  | some z =>
    match sourceOf (field (argument r 0) 2 0) with
    | none => releaseZone z s
    | some x => if x.claimable then claimZone z x s else refuse .badArg 0 s

/-! ## Banks and protection (R100, R124) -/

/-- BANK ACTIVATE (R100). -/
def handleBankActivate (r : Request) (s : State) : Answer :=
  match finOf 28 (field (argument r 0) 7 0) with
  | none => refuse .badArg 0 s
  | some c =>
    if s.chan.channels[c].spare ≠ .loaded then refuse .busy 0 s
    else
      match failingStage s.chan.channels[c].spareBank with
      | some i => refuse .unstable i.val s
      | none => if s.msg.op = .config then answerOk (swapChannel c s) else answerAccepted (queueActivation c s)

/-- PROTECT CLEAR (R124). -/
def handleProtectClear (r : Request) (s : State) : Answer :=
  let n := field (argument r 0) 7 0
  if n = 255 then answerOk ((List.finRange 28).foldl (fun t c => clearProtection c t) s)
  else
    match finOf 28 n with
    | none => refuse .badArg 0 s
    | some c => answerOk (clearProtection c s)

/-! ## The radio (R145, R146, R159) -/

/-- The mode a RADIO MODE word names; none for the code 3. -/
def modeOfWord (w : Word) : Option DiversityMode :=
  match field w 1 0 with
  | 0 => some (.fixed (finWrap 3 (field w 5 4)))
  | 1 => some .switched
  | 2 => some .paired
  | _ => none

/-- RADIO MODE (R145, R146). -/
def handleRadioMode (r : Request) (s : State) : Answer :=
  match modeOfWord (argument r 0) with
  | none => refuse .badArg 0 s
  | some m =>
    if s.msg.op = .config then answerOk (s.setAnt { s.ant with mode := m })
    else if s.ant.fade.isSome then answerAccepted (s.setAnt { s.ant with pendingMode := some m })
    else answerOk (s.setAnt (s.ant.changeMode m))

/-- RADIO TUNE (R147, R159). -/
def handleRadioTune (r : Request) (s : State) : Answer :=
  let f := field (argument r 0) 15 0
  let id := if bitAt (argument r 0) 31 then some ((argument r 1).setWidth 16) else none
  if f < 8750 ∨ 10800 < f then refuse .badArg 0 s else answerOk (tuneAntennas (tuneRadio f id s))

/-! ## Calls (R169 to R174) -/

/-- CALL ALERT (R169, R170). -/
def handleCallAlert (r : Request) (s : State) : Answer :=
  match s.call.state with
  | .idle => answerOk (alertCall (finWrap 3 (field (argument r 0) 1 0)) s)
  | .closing => refuse .busy 0 s
  | .alerting | .active | .onHold => refuse .state 0 s

/-- CALL CONNECT (R169, R171). -/
def handleCallConnect (r : Request) (s : State) : Answer :=
  match s.call.state with
  | .idle | .alerting => answerOk (connectCall (clampSteps (-320) 32 (stepOf (field (argument r 0) 9 0))) s)
  | .closing => refuse .busy 0 s
  | .active | .onHold => refuse .state 0 s

/-- CALL HOLD (R169, R172). -/
def handleCallHold (_r : Request) (s : State) : Answer :=
  match s.call.state with
  | .active => answerOk (holdCall s)
  | .idle | .alerting | .onHold | .closing => refuse .state 0 s

/-- CALL RESUME (R169, R172). -/
def handleCallResume (_r : Request) (s : State) : Answer :=
  match s.call.state with
  | .onHold => answerOk (resumeCall s)
  | .idle | .alerting | .active | .closing => refuse .state 0 s

/-- CALL MOVE (R169, R173). -/
def handleCallMove (r : Request) (s : State) : Answer :=
  match s.call.state with
  | .alerting | .active | .onHold => answerOk (moveCall (finWrap 3 (field (argument r 0) 1 0)) s)
  | .idle | .closing => refuse .state 0 s

/-- CALL END (R169, R174). -/
def handleCallEnd (_r : Request) (s : State) : Answer :=
  match s.call.state with
  | .idle => answerOk s
  | .closing => answerAccepted s
  | .alerting | .active | .onHold => answerAccepted (beginClosing s)

/-! ## Judging (R25, R26, R32) -/

/-- The kinds taken in PATTERN (R20, R25). -/
def takenInPattern : RequestKind → Bool
  | .state | .tableRead | .patternEnter | .patternExit | .reset => true
  | .start | .stop | .tableOpen | .tableWrite | .tableClose | .routeSet | .zoneSet | .zoneMute | .zoneLock
  | .zoneSource | .bankActivate | .protectClear | .radioMode | .radioTune | .callAlert | .callConnect | .callHold
  | .callResume | .callMove | .callEnd => false

/-- The table of R32: a kind is taken in an operating state. -/
def takenIn (k : RequestKind) (op : OpState) : Bool :=
  match k with
  | .state | .tableRead | .reset => true
  | .start => op == .config
  | .stop => op == .run
  | .patternEnter => op != .stopping
  | .patternExit => op == .pattern
  | .tableOpen | .tableWrite | .tableClose | .routeSet | .zoneSet | .zoneMute | .zoneLock | .zoneSource
  | .bankActivate | .protectClear | .radioMode | .radioTune => op == .config || op == .run
  | .callAlert | .callConnect | .callHold | .callResume | .callMove | .callEnd => op == .run

/-- A relayed zone request is permitted (R26): a seat zone, its panel node the origin, its lock off. -/
def panelMay (r : Request) (s : State) : Bool :=
  match seatOf (field (argument r 0) 31 28) with
  | none => false
  | some z =>
    let x := s.mix.zones[seatZone z]
    x.panel == r.origin && !x.lock

/-- The permission check (R26). -/
def permitted (k : RequestKind) (r : Request) (s : State) : Bool :=
  r.origin == 0 ||
    match k with
    | .state => true
    | .zoneSet | .zoneMute | .zoneSource => panelMay r s
    | .start | .stop | .reset | .patternEnter | .patternExit | .tableOpen | .tableWrite | .tableClose | .tableRead
    | .routeSet | .zoneLock | .bankActivate | .protectClear | .radioMode | .radioTune | .callAlert | .callConnect
    | .callHold | .callResume | .callMove | .callEnd => false

/-- The payload length is the one listed for the kind (R25, check 2). -/
def lengthRight (k : RequestKind) (r : Request) : Bool :=
  match requestLength k with
  | none => true
  | some n => r.payload.length == n

/-- Checks 2 to 5 of R25, in order: the refusal of the first that fails. -/
def refusalOf (k : RequestKind) (r : Request) (s : State) : Option (ResultCode × Nat) :=
  if !lengthRight k r then some (.badArg, 65535)
  else if s.msg.op == .pattern && !takenInPattern k then some (.mode, 0)
  else if !permitted k r s then some (.denied, 0)
  else if !takenIn k s.msg.op then some (.state, 0)
  else none

/-- A request of a listed kind judged, and executed if it passes checks 2 to 5 (R25); `handle` is the kind's own. -/
def judge (k : RequestKind) (handle : Request → State → Answer) (r : Request) (s : State) : Answer :=
  match refusalOf k r s with
  | some (code, detail) => refuse code detail s
  | none => handle r s

/-- The own checks and effects of each kind. -/
def handlerOf : RequestKind → Request → State → Answer
  | .state => handleState
  | .start => handleStart
  | .stop => handleStop
  | .reset => handleReset
  | .patternEnter => handlePatternEnter
  | .patternExit => handlePatternExit
  | .tableOpen => handleTableOpen
  | .tableWrite => handleTableWrite
  | .tableClose => handleTableClose
  | .tableRead => handleTableRead
  | .routeSet => handleRouteSet
  | .zoneSet => handleZoneSet
  | .zoneMute => handleZoneMute
  | .zoneLock => handleZoneLock
  | .zoneSource => handleZoneSource
  | .bankActivate => handleBankActivate
  | .protectClear => handleProtectClear
  | .radioMode => handleRadioMode
  | .radioTune => handleRadioTune
  | .callAlert => handleCallAlert
  | .callConnect => handleCallConnect
  | .callHold => handleCallHold
  | .callResume => handleCallResume
  | .callMove => handleCallMove
  | .callEnd => handleCallEnd

/-- A request of a kind that is no request kind (R25, check 1). -/
def answerBadKind (_r : Request) (s : State) : Answer := refuse .badKind 0 s

/-- A request of any kind code judged and executed (R25). -/
def answerCode (code : BitVec 6) (r : Request) (s : State) : Answer :=
  match requestKindOf code with
  | none => answerBadKind r s
  | some k => judge k (handlerOf k) r s

/-! ## Taking a request (R24, R28, R35) -/

/-- The reply to a request as a message of the outgoing queue (R27); the reply of a RESET taken carries its mark. -/
def replyTo (code : BitVec 6) (r : Request) (a : Answer) : OutMessage :=
  ⟨replyKind, r.tag, replyFirst a.code code a.detail :: a.data, a.state.msg.resetPhase == .pending⟩

/-- A request dropped (R28): the tally counts it and a DROPPED notice carries the tally. -/
def dropRequest (s : State) : State :=
  let n := incSat s.msg.dropped
  postNotice (.dropped n) (s.setMsg { s.msg with dropped := n })

/-- A request is taken and answered: a broadcast one without a reply, a numbered one with a reply that joins the queue,
or dropped while the queue is full (R24, R28). -/
def answerRequest (code : BitVec 6) (answer : Request → State → Answer) (r : Request) (s : State) : State :=
  if r.dest = 0 then (answer r s).state
  else if 4 ≤ s.msg.queue.length then dropRequest s
  else
    let a := answer r s
    enqueue (replyTo code r a) a.state

/-- A completed request reaches the message unit: a reset-pending part discards it (R35), a part without a position
ignores a numbered destination (R4). -/
def takeRequest (code : BitVec 6) (answer : Request → State → Answer) (r : Request) (s : State) : State :=
  if s.msg.resetPhase ≠ .none then s
  else if r.dest ≠ 0 ∧ s.ring.position = none then s
  else answerRequest code answer r s

/-! ## The reset (R10, R35) -/

/-- What a reset leaves: the reset values, with the link, the loss timer, the position and what the transmit link last
carried as they stood (R35, log entry 27), and the model's own queue and counter. -/
def resetPart (s : State) : State :=
  { State.reset with
    ring :=
      { RingUnit.reset with
        link := s.ring.link
        goodRun := s.ring.goodRun
        badRun := s.ring.badRun
        lossTimer := s.ring.lossTimer
        frameSeen := s.ring.frameSeen
        position := s.ring.position
        transmitted := s.ring.transmitted
        replyWritten := s.ring.replyWritten }
    pending := s.pending
    draws := s.draws }

/-- A RESET that is due takes effect (R35). -/
def settleReset (s : State) : State := if s.msg.resetPhase = .due then resetPart s else s

/-! ## The request rows -/

/-- A request for this part: broadcast, or at its position (R21). -/
def addressed (r : Request) (s : State) : Bool := r.dest == 0 || s.ring.position == some r.dest

/-- A request command (log entry 3): the completed request reaches the message unit of a linked part it is addressed to;
a path-change event it raises takes effect, and a broadcast RESET takes effect at once. -/
def requestStep (code : BitVec 6) (answer : Request → State → Answer) (r : Request) (s : State) : State :=
  if s.linked && addressed r s then settleReset (takePath (takeRequest code answer r s)) else s

/-- BAD_KIND_REQUEST (R25). -/
def execBadKindRequest (kind : BitVec 6) (r : Request) (s : State) : Host.Outcome State Fault Refusal :=
  .next (requestStep kind (answerCode kind) r s)

/-- STATE (R36). -/
def execState (r : Request) (s : State) : Host.Outcome State Fault Refusal :=
  .next (requestStep (requestCode .state) (judge .state handleState) r s)

/-- START (R33). -/
def execStart (r : Request) (s : State) : Host.Outcome State Fault Refusal :=
  .next (requestStep (requestCode .start) (judge .start handleStart) r s)

/-- STOP (R34). -/
def execStop (r : Request) (s : State) : Host.Outcome State Fault Refusal :=
  .next (requestStep (requestCode .stop) (judge .stop handleStop) r s)

/-- RESET (R35). -/
def execReset (r : Request) (s : State) : Host.Outcome State Fault Refusal :=
  .next (requestStep (requestCode .reset) (judge .reset handleReset) r s)

/-- PATTERN ENTER (R18). -/
def execPatternEnter (r : Request) (s : State) : Host.Outcome State Fault Refusal :=
  .next (requestStep (requestCode .patternEnter) (judge .patternEnter handlePatternEnter) r s)

/-- PATTERN EXIT (R20). -/
def execPatternExit (r : Request) (s : State) : Host.Outcome State Fault Refusal :=
  .next (requestStep (requestCode .patternExit) (judge .patternExit handlePatternExit) r s)

/-- TABLE OPEN (R37). -/
def execTableOpen (r : Request) (s : State) : Host.Outcome State Fault Refusal :=
  .next (requestStep (requestCode .tableOpen) (judge .tableOpen handleTableOpen) r s)

/-- TABLE WRITE (R38, R39). -/
def execTableWrite (r : Request) (s : State) : Host.Outcome State Fault Refusal :=
  .next (requestStep (requestCode .tableWrite) (judge .tableWrite handleTableWrite) r s)

/-- TABLE CLOSE (R40). -/
def execTableClose (r : Request) (s : State) : Host.Outcome State Fault Refusal :=
  .next (requestStep (requestCode .tableClose) (judge .tableClose handleTableClose) r s)

/-- TABLE READ (R41). -/
def execTableRead (r : Request) (s : State) : Host.Outcome State Fault Refusal :=
  .next (requestStep (requestCode .tableRead) (judge .tableRead handleTableRead) r s)

/-- ROUTE SET (R52). -/
def execRouteSet (r : Request) (s : State) : Host.Outcome State Fault Refusal :=
  .next (requestStep (requestCode .routeSet) (judge .routeSet handleRouteSet) r s)

/-- ZONE SET (R46). -/
def execZoneSet (r : Request) (s : State) : Host.Outcome State Fault Refusal :=
  .next (requestStep (requestCode .zoneSet) (judge .zoneSet handleZoneSet) r s)

/-- ZONE MUTE (R47). -/
def execZoneMute (r : Request) (s : State) : Host.Outcome State Fault Refusal :=
  .next (requestStep (requestCode .zoneMute) (judge .zoneMute handleZoneMute) r s)

/-- ZONE LOCK (R48). -/
def execZoneLock (r : Request) (s : State) : Host.Outcome State Fault Refusal :=
  .next (requestStep (requestCode .zoneLock) (judge .zoneLock handleZoneLock) r s)

/-- ZONE SOURCE (R59). -/
def execZoneSource (r : Request) (s : State) : Host.Outcome State Fault Refusal :=
  .next (requestStep (requestCode .zoneSource) (judge .zoneSource handleZoneSource) r s)

/-- BANK ACTIVATE (R100). -/
def execBankActivate (r : Request) (s : State) : Host.Outcome State Fault Refusal :=
  .next (requestStep (requestCode .bankActivate) (judge .bankActivate handleBankActivate) r s)

/-- PROTECT CLEAR (R124). -/
def execProtectClear (r : Request) (s : State) : Host.Outcome State Fault Refusal :=
  .next (requestStep (requestCode .protectClear) (judge .protectClear handleProtectClear) r s)

/-- RADIO MODE (R145). -/
def execRadioMode (r : Request) (s : State) : Host.Outcome State Fault Refusal :=
  .next (requestStep (requestCode .radioMode) (judge .radioMode handleRadioMode) r s)

/-- RADIO TUNE (R159). -/
def execRadioTune (r : Request) (s : State) : Host.Outcome State Fault Refusal :=
  .next (requestStep (requestCode .radioTune) (judge .radioTune handleRadioTune) r s)

/-- CALL ALERT (R170). -/
def execCallAlert (r : Request) (s : State) : Host.Outcome State Fault Refusal :=
  .next (requestStep (requestCode .callAlert) (judge .callAlert handleCallAlert) r s)

/-- CALL CONNECT (R171). -/
def execCallConnect (r : Request) (s : State) : Host.Outcome State Fault Refusal :=
  .next (requestStep (requestCode .callConnect) (judge .callConnect handleCallConnect) r s)

/-- CALL HOLD (R172). -/
def execCallHold (r : Request) (s : State) : Host.Outcome State Fault Refusal :=
  .next (requestStep (requestCode .callHold) (judge .callHold handleCallHold) r s)

/-- CALL RESUME (R172). -/
def execCallResume (r : Request) (s : State) : Host.Outcome State Fault Refusal :=
  .next (requestStep (requestCode .callResume) (judge .callResume handleCallResume) r s)

/-- CALL MOVE (R173). -/
def execCallMove (r : Request) (s : State) : Host.Outcome State Fault Refusal :=
  .next (requestStep (requestCode .callMove) (judge .callMove handleCallMove) r s)

/-- CALL END (R174). -/
def execCallEnd (r : Request) (s : State) : Host.Outcome State Fault Refusal :=
  .next (requestStep (requestCode .callEnd) (judge .callEnd handleCallEnd) r s)

end Sys2Proof.Machine
end

