-- ==== Sys2Proof/Machine/Frame.lean ====
section
/-! DEFINITION. One processed frame (spec 01): position, the reply word, the slots written, the units' work on the
frame, the command word and the message assembly, the end-of-frame tests, the notice that enters the queue. -/

namespace Sys2Proof.Machine

/-! ## Hop count and position (R3, R4) -/

/-- The position a hop count gives (R3). -/
def positionOf (hop : BitVec 4) : Option Node := if hop = 15 then none else some (hop + 1)

/-- The hop count forwarded (R3). -/
def nextHop (hop : BitVec 4) : BitVec 4 := if hop = 15 then 15 else hop + 1

/-- The part takes a position; a partly sent message is sent again from its HEAD word when the position is a new one
(R4, R29). -/
def takePosition (p : Option Node) (s : State) : State :=
  if p = s.ring.position then s
  else
    let t := s.setRing { s.ring with position := p }
    t.setMsg { t.msg with sent := 0 }

/-- A processed frame that neither acquires nor relinks gives a position: a change posts a LINK notice (R4). Its class
field, which has no meaning without a loss, is SHORT (log entry 32). -/
def adoptPosition (p : Option Node) (s : State) : State :=
  if p = s.ring.position then s else postNotice (.link true false p s.ring.position) (takePosition p s)

/-! ## Sending (R12, R29) -/

/-- The next word of the message at the head of the queue, if there is one to send under a position (R12). -/
def nextWord (s : State) : Option ReplyField :=
  match s.ring.position, s.msg.queue with
  | some p, m :: _ => (messageWords m p)[s.msg.sent]?.map fun w => ⟨w.1, p, w.2⟩
  | _, _ => none

/-- The message unit once a word of the head message has been written (R29): after the CHECK word the message leaves the
queue, and a RESET taken becomes due (R35). -/
def MessageUnit.wordSent (u : MessageUnit) : MessageUnit :=
  match u.queue with
  | [] => u
  | m :: rest =>
    if u.sent < m.body.length + 1 then { u with sent := u.sent + 1 }
    else { u with queue := rest, sent := 0, resetPhase := if m.resets then .due else u.resetPhase }

/-- A word is written into a free reply field (R12, R29). -/
def sendWord (s : State) : State :=
  match nextWord s with
  | none => s
  | some w => (s.setRing { s.ring with replyWritten := some w }).setMsg s.msg.wordSent

/-- The reply field forwarded (R12): the part's word in a field that arrived IDLE, otherwise as it arrived. -/
def replyForwarded (s : State) (r : ReplyField) : ReplyField :=
  if r.wtype = .idle then (nextWord s).getD r else r

/-! ## The slots written (R15, R19) -/

/-- A slot of this role is owned (R15). -/
def ownedRole : Role → Bool
  | .out _ | .uplink => true
  | .unused | .antI _ _ | .antQ _ _ | .mic _ | .srcL _ | .srcR _ | .srcM _ | .amp _ => false

/-- The number j of an owned slot: how many lower slots are owned (R19). -/
def ownedNumber (m : Vector Role 96) (i : Fin 96) : Nat :=
  ((List.finRange 96).filter fun k => decide (k.val < i.val) && ownedRole m[k]).length

/-- The pattern word of owned slot j in a frame of index f (R19). -/
def patternWord (u : RingUnit) (j f : Nat) : SlotWord :=
  match u.patternFormat with
  | .serial => u.pattern[finWrap 3 f]
  | .parallel => u.pattern[0]
  | .staggered => u.pattern[finWrap 3 (j + f)]

/-- The output that awaits a slot's role; none for a slot that is not owned (R15). -/
def outputOf (s : State) : Role → Option Int
  | .out c => some s.chan.channels[c].out
  | .uplink => some s.uplink.out
  | .unused | .antI _ _ | .antQ _ _ | .mic _ | .srcL _ | .srcR _ | .srcM _ | .amp _ => none

/-- What slot i is forwarded with (R2, R15, R19). -/
def slotForwarded (s : State) (f : Frame) (i : Fin 96) : SlotWord :=
  match outputOf s s.ring.slotMap[i] with
  | none => f.slots[i]
  | some x =>
    match s.msg.op with
    | .run | .stopping => slotOf x
    | .pattern => patternWord s.ring (ownedNumber s.ring.slotMap i) f.index.val
    | .config => f.slots[i]

/-- The frame as it leaves on the transmit link when it is processed (R2, R3). -/
def frameForwarded (s : State) (f : Frame) : Frame :=
  { f with
    hop := nextHop f.hop
    reply := replyForwarded s f.reply
    slots := Vector.ofFn fun i => slotForwarded s f i }

/-- A good frame that is not processed leaves with its hop count alone changed (R2, R3). -/
def framePassed (f : Frame) : Frame := { f with hop := nextHop f.hop }

/-- The transmit link carries something in this frame period. -/
def transmit (x : Transmitted) (s : State) : State := s.setRing { s.ring with transmitted := x }

/-! ## Message assembly (R21 to R23) -/

/-- The assembly takes a value. -/
def setAssembly (a : Assembly) (s : State) : State := s.setMsg { s.msg with assembly := a }

/-- The broken-message counter is incremented (R21, R22). -/
def countBroken (s : State) : State := s.setMsg { s.msg with broken := incSat s.msg.broken }

/-- A frame period that brings no word of the message (R22): the gap count rises, and at 65 the message is discarded. -/
def gapTick (s : State) : State :=
  match s.msg.assembly with
  | .empty => s
  | .assembling h b o g => if 65 ≤ g + 1 then setAssembly .empty (countBroken s) else setAssembly (.assembling h b o (g + 1)) s
  | .skipping g => if 65 ≤ g + 1 then setAssembly .empty s else setAssembly (.skipping (g + 1)) s

/-- The gap count is about to reach 65 (R22). -/
def gapDue (s : State) : Bool :=
  match s.msg.assembly with
  | .empty => false
  | .assembling _ _ _ g => decide (65 ≤ g + 1)
  | .skipping g => decide (65 ≤ g + 1)

/-- A destination is this part's: broadcast, or the position held (R21). -/
def forUs (dest : Node) (s : State) : Bool := dest == 0 || s.ring.position == some dest

/-- The destination of a HEAD word. -/
def headDest (h : Word) : Node := BitVec.ofNat 4 (field h 31 28)

/-- A HEAD word starts a new message (R21). -/
def takeHead (h : Word) (s : State) : State :=
  let t := match s.msg.assembly with
    | .assembling .. => countBroken s
    | .empty | .skipping _ => s
  setAssembly (if forUs (headDest h) s then .assembling h [] false 0 else .skipping 0) t

/-- A BODY word (R21). A BODY word beyond the fifteenth marks the message over-long and is taken in the sense of R22
(log entry 21). -/
def takeBody (w : Word) (s : State) : State :=
  match s.msg.assembly with
  | .empty => s
  | .skipping _ => setAssembly (.skipping 0) s
  | .assembling h b o _ =>
    if b.length < 15 then setAssembly (.assembling h (b ++ [w]) o 0) s else setAssembly (.assembling h b true 0) s

/-- The request that a HEAD word and a body make. -/
def requestOf (h : Word) (body : List Word) : Request :=
  ⟨headDest h, BitVec.ofNat 4 (field h 27 24), BitVec.ofNat 8 (field h 7 0), body⟩

/-- The kind code of a HEAD word. -/
def headKind (h : Word) : BitVec 6 := BitVec.ofNat 6 (field h 23 18)

/-- A completed message passes R23: not over-long, as many BODY words as its length, summing to zero. -/
def messageSound (h : Word) (body : List Word) (overLong : Bool) (check : Word) : Bool :=
  !overLong && body.length == field h 17 14 && wordSum (h :: body) + check == 0

/-- A CHECK word (R21, R23, R24). -/
def takeCheck (w : Word) (s : State) : State :=
  match s.msg.assembly with
  | .empty => s
  | .skipping _ => setAssembly .empty s
  | .assembling h b o _ =>
    let t := setAssembly .empty s
    if messageSound h b o w then takeRequest (headKind h) (answerCode (headKind h)) (requestOf h b) t
    else t.setMsg { t.msg with checkFailed := incSat t.msg.checkFailed }

/-- The command field of a processed frame (R21, R22). -/
def takeCommand (f : Frame) (s : State) : State :=
  match f.ctype with
  | .idle => gapTick s
  | .head => takeHead f.cword s
  | .body => takeBody f.cword s
  | .check => takeCheck f.cword s

/-! ## The units' work on a frame (R11, R14) -/

/-- The zone buses of a frame (R53, R57). -/
def zoneBuses (f : Frame) (s : State) : Vector (Int × Int) 5 :=
  let src := sourcePair s.ring.slotMap f (radioPair s)
  Vector.ofFn fun z => zoneBus s src z

/-- Everything the units do with a processed frame while they run, before its command word. -/
def audioFrame (f : Frame) (s : State) : State :=
  let t := gainFrame (ampFrame f s)
  let u := radioFrame (combinedSamples t f) (antennaFrame f t)
  let buses := zoneBuses f u
  armClosing (uplinkFrame f buses (channelFrame buses u))

/-- What the units do with a processed frame: all of it while they run, targets alone while they do not (R68, R81). -/
def unitsFrame (f : Frame) (running : Bool) (s : State) : State := if running then audioFrame f s else gainRecord s

/-! ## The end of a frame -/

/-- The three block evaluations that precede the uplink unit's, at a superframe end (R11, R115, R130, R152). -/
def blockEvaluations (s : State) : State := radioEvaluate (antennaEvaluate (protectEvaluate s))

/-- Crossfades that end with this frame, and the activation queue's service (R103, R105, R142, R181). -/
def endCrossfades (s : State) : State :=
  let t := serveQueue (endFades s)
  let u := if beamFadeOver t then endBeamFade t else t
  if switchFadeOver u then endSwitchFade postNotice u else u

/-- Every output point's current gain is zero (R34). -/
def outputsSilent (g : GainUnit) : Bool := g.out.all fun p => p.current == 0

/-- STOPPING reaches CONFIG (R34, R65, R81, R106, R148, R182). -/
def reachConfig (s : State) : State :=
  let t := completeActivations postNotice (postNotice (.state .config) (setOp .config s))
  silenceAll (resolveBeams (endSwitchFade postNotice (dropReleasing t)))

/-- The test of R34. -/
def configDue (s : State) : Bool := s.msg.op == .stopping && outputsSilent s.gain

/-- The path-change events of a frame take effect at its end (R188): against the uplink evaluation in either order when
the frame ends a block. Several events of one frame have the effect of one, so where the gain unit's event has been taken
in this frame (`early`) nothing more is (log entry 7). -/
def settlePath (blockEnd early : Bool) (s : State) : State :=
  let t := if early then clearPath s else s
  if blockEnd then evaluateWithPath t else takePath t

/-- The tests and evaluations at the end of a processed frame in which the units ran; `early` when the gain unit's
path-change event has been taken in it. -/
def endOfFrame (f : Frame) (early : Bool) (s : State) : State :=
  let blockEnd := f.index == 63
  let t := endCrossfades s
  let u := settleClaims (if blockEnd then blockEvaluations t else t)
  let v := if closingDue u then closeCall u else u
  let w := settlePath blockEnd early v
  if configDue w then reachConfig w else w

/-- The oldest notice as a message, and the set without it (R31). -/
def oldestNotice (s : State) : Option (OutMessage × State) :=
  match s.msg.notices with
  | [] => none
  | n :: rest =>
    some (noticeMessage n s.msg.noticeSeq, s.setMsg { s.msg with notices := rest, noticeSeq := s.msg.noticeSeq + 1 })

/-- A notice enters the queue at the end of a frame when the queue, apart from this frame's reply, is empty (R31); not
without a position (R4, log entry 15). Which of the two enters first is free (log entry 6). A STATE reply
of the same frame stays as it was formed (log entry 35). -/
def enterNotice (wasEmpty : Bool) (s : State) : State :=
  if !wasEmpty || s.ring.position.isNone then s
  else
    match oldestNotice s with
    | none => s
    | some (m, t) =>
      if s.msg.queue.isEmpty then enqueue m t
      else
        let u := t.drawn
        if Config.noticeBeforeReply t.draws then u.setMsg { u.msg with queue := m :: u.msg.queue } else enqueue m u

/-- A processed frame, its position already adopted (R11). The reply word is written before the command word is taken, so
a queue that its CHECK word leaves with three messages takes a request completed in the same frame (log entry 34). A table
entry written in a frame of index 63 stands at that frame's evaluations (log entry 37). -/
def processFrame (f : Frame) (s : State) : State :=
  let running := s.running
  let t := transmit (.good (frameForwarded s f)) (if f.reply.wtype = .idle then sendWord s else s)
  let u := takeCommand f (unitsFrame f running t)
  let v := settleReset (if running then endOfFrame f (gainEvent t) u else takePath u)
  enterNotice t.msg.queue.isEmpty v

end Sys2Proof.Machine
end

