-- ==== Sys2Proof/Machine/Link.lean ====
section
/-! DEFINITION. The link (spec 01): good, bad and missing frames in each link state, loss and relink, the long-loss
effects, the reset pin, and the meanings of the table's frame and link rows. -/

namespace Sys2Proof.Machine

/-! ## Good frames (R4 to R8) -/

/-- A frame has begun (R1). -/
def seeFrame (s : State) : State := s.setRing { s.ring with frameSeen := true }

/-- A good frame in LINKED: a processed frame, the bad run 0 (R4, R6). -/
def linkedFrame (f : Frame) (s : State) : State :=
  processFrame f (adoptPosition (positionOf f.hop) (s.setRing { s.ring with badRun := 0 }))

/-- A good frame that is forwarded and not processed (R5, R7, R8). -/
def passFrame (f : Frame) (s : State) : State :=
  s.setRing { s.ring with goodRun := s.ring.goodRun + 1, transmitted := .good (framePassed f) }

/-- The link state becomes LINKED, its runs at 0 and the loss timer stopped. That the good run is 0 in LINKED, where no
rule reads it, is the model's choice (log entry 40). -/
def linkUp (s : State) : State :=
  s.setRing { s.ring with link := .linked, goodRun := 0, badRun := 0, lossTimer := .stopped }

/-- The good frame that completes acquisition (R5): the position is adopted without a notice, and the frame is
processed. -/
def acquireLink (f : Frame) (s : State) : State := processFrame f (takePosition (positionOf f.hop) (linkUp s))

/-- The deferred notices of a long loss are posted (R30). -/
def postDeferred (s : State) : State :=
  let t := postNotices s.msg.deferred s
  t.setMsg { t.msg with deferred := [] }

/-- The good frame that ends a loss (R8): one LINK notice with the class and both positions, then the notices a long
loss left, then the frame is processed. The block in progress goes on with the measures of the frames before the loss
(log entry 33). -/
def relinkFrame (f : Frame) (s : State) : State :=
  let p := positionOf f.hop
  let n : NoticeDetail := .link false (s.ring.lossTimer == .reached) p s.ring.position
  processFrame f (postDeferred (postNotice n (takePosition p (linkUp s))))

/-- A good frame in any link state (R1 to R8). -/
def goodFrame (f : Frame) (s : State) : State :=
  let t := seeFrame s
  match t.ring.link with
  | .linked => linkedFrame f t
  | .acquiring => if 16 ≤ t.ring.goodRun + 1 then acquireLink f t else passFrame f t
  | .lost => if 16 ≤ t.ring.goodRun + 1 then relinkFrame f t else passFrame f t

/-! ## Bad and missing frames (R5 to R8) -/

/-- The part enters LOST (R6, R7): the bad run stands at 4 until relink (R8), the loss timer starts, the assembly
is emptied without counting, a partly sent message is to be sent again from its HEAD word. -/
def loseLink (s : State) : State :=
  let t := s.setRing { s.ring with link := .lost, goodRun := 0, badRun := s.ring.badRun + 1, lossTimer := .running }
  t.setMsg { t.msg with assembly := .empty, sent := 0 }

/-- A frame period that brings no good frame (R5, R6, R8, R22). -/
def badTick (s : State) : State :=
  match s.ring.link with
  | .acquiring | .lost => s.setRing { s.ring with goodRun := 0 }
  | .linked =>
    if 4 ≤ s.ring.badRun + 1 then loseLink s
    else gapTick (s.setRing { s.ring with badRun := s.ring.badRun + 1 })

/-- A bad frame: forwarded exactly as received (R2). -/
def badFrame (raw : RawFrame) (s : State) : State := badTick (transmit (.bad raw) (seeFrame s))

/-- A missing frame: nothing is transmitted; none is recorded before the first frame has begun (R1, R2). -/
def missingFrame (s : State) : State := if s.ring.frameSeen then badTick (transmit .nothing s) else s

/-! ## The long loss (R9) and the reset pin (R10) -/

/-- The long-loss effects of every unit (R9, R86, R107, R148, R161, R177, R182). -/
def longLossEffects (s : State) : State :=
  let t := startPoints (silenceAll s)
  resolveBeams (loseRadio (endSwitchFade deferNotice (loseCall (completeActivations deferNotice t))))

/-- The loss timer reaches 100 ms in LOST (R9). -/
def longLoss (s : State) : State :=
  if s.ring.link = .lost ∧ s.ring.lossTimer = .running then
    longLossEffects (s.setRing { s.ring with lossTimer := .reached })
  else s

/-- The reset pin (R10): the part entirely, the waiting commands and the draw counter being the model's own. -/
def resetByPin (s : State) : State := { State.reset with pending := s.pending, draws := s.draws }

/-! ## The frame and link rows -/

/-- RESET_PIN (R10). -/
def execResetPin (s : State) : Host.Outcome State Fault Refusal := .next (resetByPin s)

/-- GOOD_FRAME (R1). -/
def execGoodFrame (f : Frame) (s : State) : Host.Outcome State Fault Refusal := .next (goodFrame f s)

/-- BAD_FRAME (R1, R2). -/
def execBadFrame (raw : RawFrame) (s : State) : Host.Outcome State Fault Refusal := .next (badFrame raw s)

/-- MISSING_FRAME (R1, R2). -/
def execMissingFrame (s : State) : Host.Outcome State Fault Refusal := .next (missingFrame s)

/-- LINK_ACQUIRED (R5): the sixteenth good frame of ACQUIRING. -/
def execLinkAcquired (f : Frame) (s : State) : Host.Outcome State Fault Refusal :=
  .next (if s.ring.link = .acquiring ∧ 16 ≤ s.ring.goodRun + 1 then acquireLink f (seeFrame s) else s)

/-- ENTER_LOST (R6, R7): the fourth bad or missing frame of LINKED. -/
def execEnterLost (raw : Option RawFrame) (s : State) : Host.Outcome State Fault Refusal :=
  .next (if s.ring.link = .linked ∧ 4 ≤ s.ring.badRun + 1 then
    match raw with
    | some bytes => loseLink (transmit (.bad bytes) s)
    | none => loseLink (transmit .nothing s)
  else s)

/-- RELINK (R8): the sixteenth good frame of LOST. -/
def execRelink (f : Frame) (s : State) : Host.Outcome State Fault Refusal :=
  .next (if s.ring.link = .lost ∧ 16 ≤ s.ring.goodRun + 1 then relinkFrame f (seeFrame s) else s)

/-- LONG_LOSS (R9). -/
def execLongLoss (s : State) : Host.Outcome State Fault Refusal := .next (longLoss s)

/-- MESSAGE_GAP_TIMEOUT (R22): the frame period that brings the gap count to 65. -/
def execMessageGapTimeout (s : State) : Host.Outcome State Fault Refusal :=
  .next (if s.linked && gapDue s then gapTick s else s)

/-- RESET_TAKES_EFFECT (R35). -/
def execResetTakesEffect (s : State) : Host.Outcome State Fault Refusal := .next (settleReset s)

/-- NOTICE_ENTERS_QUEUE (R31). -/
def execNoticeEntersQueue (s : State) : Host.Outcome State Fault Refusal :=
  .next (if s.linked then enterNotice s.msg.queue.isEmpty s else s)

/-- MESSAGE_WORD_SENT (R29). -/
def execMessageWordSent (s : State) : Host.Outcome State Fault Refusal := .next (if s.linked then sendWord s else s)

end Sys2Proof.Machine
end

