-- ==== Sys2Proof/Machine/Events.lean ====
section
/-! DEFINITION. The event rows of the table: the events of the units as commands of their own. Inside GOOD_FRAME they come
about by themselves; as a command each is the event alone, and leaves the state as it is when the event is not due
(log entries 1 and 25). -/

namespace Sys2Proof.Machine

/-- An event as a command: its effect and the path-change event it raises, when it is due (log entry 1). -/
def eventStep (due : Bool) (effect : State → State) (s : State) : State :=
  if s.active && due then takePath (effect s) else s

/-! ## Claims, banks, closing, stopping -/

/-- CLAIM_HELD (R61). -/
def execClaimHeld (z : Fin 2) (s : State) : Host.Outcome State Fault Refusal :=
  .next (eventStep (heldDue s z) (claimBecomesHeld z) s)

/-- CLAIM_NONE (R62). -/
def execClaimNone (z : Fin 2) (s : State) : Host.Outcome State Fault Refusal :=
  .next (eventStep (noneDue s z) (claimReachesNone z) s)

/-- ACTIVATION_QUEUE_SERVED (R103). -/
def execActivationQueueServed (s : State) : Host.Outcome State Fault Refusal :=
  .next (eventStep (serviceDue s) serveQueue s)

/-- A crossfade unit stands at its last frame's count, 511 (R105). -/
def fadeDue (s : State) (u : Fin 4) : Bool :=
  match s.chan.fades[u] with
  | none => false
  | some f => decide (511 ≤ f.count)

/-- BANK_FADE_END (R105): the fade ends and the queue is served. -/
def execBankFadeEnd (u : Fin 4) (s : State) : Host.Outcome State Fault Refusal :=
  .next (eventStep (fadeDue s u) (fun t => serveQueue (endFade u t)) s)

/-- CLOSING_ENDS (R175). -/
def execClosingEnds (s : State) : Host.Outcome State Fault Refusal := .next (eventStep (closingDue s) closeCall s)

/-- STOPPING_REACHES_CONFIG (R34). -/
def execStoppingReachesConfig (s : State) : Host.Outcome State Fault Refusal :=
  .next (eventStep (configDue s) reachConfig s)

/-! ## Gain and protection -/

/-- A point's ramp stands before its last frame (R77). -/
def rampDue (p : GainPoint) : Bool :=
  match p.ramp with
  | none => false
  | some r => decide (r.left ≤ 1)

/-- A point's ramp advances by one frame. -/
def advancePoint (p : GainId) (s : State) : State := s.setGain (s.gain.setPoint (s.point p).advance p)

/-- GAIN_RAMP_END (R77). -/
def execGainRampEnd (p : GainId) (s : State) : Host.Outcome State Fault Refusal :=
  .next (eventStep (rampDue (s.point p)) (advancePoint p) s)

/-- One tier of a channel moves as its evaluation gives, the other and the fast tier stay. -/
def moveTier (c : Fin 28) (t : TierNo) (s : State) : State :=
  let r := s.prot.records[c]
  match t with
  | .one => moveProtection c (evaluatedTier s c .one) r.tier2 (r.fastHold, r.fastTimer) s
  | .two => moveProtection c r.tier1 (evaluatedTier s c .two) (r.fastHold, r.fastTimer) s

/-- The evaluation of a tier would be a trip (R116). -/
def tripDue (s : State) (c : Fin 28) (t : TierNo) : Bool :=
  enabled s c && tripped (s.prot.records[c].tier t) (evaluatedTier s c t)

/-- TIER_TRIP (R116, R117, R120). -/
def execTierTrip (c : Fin 28) (t : TierNo) (s : State) : Host.Outcome State Fault Refusal :=
  .next (eventStep (tripDue s c t) (moveTier c t) s)

/-- The evaluation of a tier would take it out of ACTIVE or RECOVERY, to CLEAR or through it (R117, R118). -/
def recoveryDue (s : State) (c : Fin 28) (t : TierNo) : Bool :=
  enabled s c && leftActive (s.prot.records[c].tier t) (evaluatedTier s c t)

/-- TIER_RECOVERED (R117). -/
def execTierRecovered (c : Fin 28) (t : TierNo) (s : State) : Host.Outcome State Fault Refusal :=
  .next (eventStep (recoveryDue s c t) (moveTier c t) s)

/-- The evaluation of the fast tier would end its hold (R119). -/
def fastDue (s : State) (c : Fin 28) : Bool :=
  enabled s c && s.prot.records[c].fastHold && !(evaluatedFast s c).1

/-- The fast tier of a channel moves as its evaluation gives. -/
def moveFast (c : Fin 28) (s : State) : State :=
  let r := s.prot.records[c]
  moveProtection c r.tier1 r.tier2 (evaluatedFast s c) s

/-- FAST_HOLD_EXPIRY (R119). -/
def execFastHoldExpiry (c : Fin 28) (s : State) : Host.Outcome State Fault Refusal :=
  .next (eventStep (fastDue s c) (moveFast c) s)

/-! ## Antennas -/

/-- In SWITCHED mode the dwell timer of a running alert would reach 0 (R140). -/
def dwellDue (u : AntennaUnit) : Bool :=
  u.mode == .switched && u.antennas[u.current].present &&
    decide (u.antennas[u.current].score < u.record.switchLevel + u.record.hysteresis) &&
    u.alert.any fun t => decide (t ≤ 1)

/-- DWELL_EXPIRY (R140): the switch is tested. -/
def execDwellExpiry (s : State) : Host.Outcome State Fault Refusal :=
  .next (eventStep (dwellDue s.ant) (fun t => t.setAnt t.ant.testSwitch) s)

/-- In PAIRED mode the evaluation would replace the weaker member (R143). -/
def replacementDue (u : AntennaUnit) : Bool :=
  let pair := settledPair u
  u.mode == .paired && pair.length == 2 &&
    (replacement u pair (Vector.ofFn fun x => challengeCount u pair x)).isSome

/-- PAIR_REPLACEMENT (R143, R144). -/
def execPairReplacement (s : State) : Host.Outcome State Fault Refusal :=
  .next (eventStep (replacementDue s.ant) (fun t => t.setAnt t.ant.pairedMove.align) s)

/-- A switch crossfade stands at its last frame's count, 63 (R142). -/
def switchFadeDue (u : AntennaUnit) : Bool := u.fade.any fun f => decide (63 ≤ f.count)

/-- SWITCH_CROSSFADE_END (R142, R146). -/
def execSwitchCrossfadeEnd (s : State) : Host.Outcome State Fault Refusal :=
  .next (eventStep (switchFadeDue s.ant) (endSwitchFade postNotice) s)

/-! ## Radio -/

/-- PILOT_CHANGE (R151): the block that disagrees for the fourth time running. -/
def execPilotChange (s : State) : Host.Outcome State Fault Refusal :=
  .next (eventStep (decide (3 ≤ s.radio.pilotRun)) (fun t => t.setRadio (t.radio.pilotMove (!t.radio.pilot))) s)

/-- The tune count would reach the tune settle, which is compared afresh, and end the settle in force (R158). -/
def settleDue (s : State) : Bool :=
  settleForced s && decide (s.ant.record.tuneSettle ≤ incSat s.radio.blocksSinceTune)

/-- The tune count rises and steps 3 to 6 of R152 are made. -/
def endSettle (s : State) : State :=
  evaluateReception (handOver s.ant)
    (s.setRadio { s.radio with
      blocksSinceTune := incSat s.radio.blocksSinceTune, settle := s.ant.record.tuneSettle })

/-- TUNE_SETTLE_END (R158). -/
def execTuneSettleEnd (s : State) : Host.Outcome State Fault Refusal := .next (eventStep (settleDue s) endSettle s)

/-- The radio unit as step 6 of R152 leaves it, for the selection as it stands (R147, R156). -/
def receptionNext (s : State) : RadioUnit :=
  s.radio.receptionMove s.ant.record (blendQuality (handOver s.ant))

/-- The reception would become POOR (R156). -/
def poorDue (s : State) : Bool :=
  !settling s && s.radio.reception != .poor && (receptionNext s).reception == .poor

/-- RECEPTION_POOR (R156, R157). -/
def execReceptionPoor (s : State) : Host.Outcome State Fault Refusal :=
  .next (eventStep (poorDue s) (fun t => moveRadio (receptionNext t) t) s)

/-- The reception would leave POOR (R156). -/
def recoveredDue (s : State) : Bool :=
  !settling s && s.radio.reception == .poor && (receptionNext s).reception != .poor

/-- RECEPTION_RECOVERED (R156, R157). -/
def execReceptionRecovered (s : State) : Host.Outcome State Fault Refusal :=
  .next (eventStep (recoveredDue s) (fun t => moveRadio (receptionNext t) t) s)

/-! ## Uplink -/

/-- BEAM_CROSSFADE_END (R181, R182). -/
def execBeamCrossfadeEnd (s : State) : Host.Outcome State Fault Refusal :=
  .next (eventStep (beamFadeOver s) endBeamFade s)

/-- The talk state moves as its evaluation gives (R185). -/
def moveTalk (s : State) : State := s.setUplink s.uplink.talkMove

/-- FAR_ONLY would follow talk (R185). -/
def nearRelaxDue (u : UplinkUnit) : Bool :=
  (u.talk == .nearOnly || u.talk == .double) && u.talkMove.talk == .farOnly

/-- NEAR_RELAX_EXPIRY (R185). -/
def execNearRelaxExpiry (s : State) : Host.Outcome State Fault Refusal :=
  .next (eventStep (nearRelaxDue s.uplink) moveTalk s)

/-- FAR_ONLY would give way to QUIET (R185). -/
def farRelaxDue (u : UplinkUnit) : Bool := u.talk == .farOnly && u.talkMove.talk == .quiet

/-- FAR_RELAX_EXPIRY (R185). -/
def execFarRelaxExpiry (s : State) : Host.Outcome State Fault Refusal :=
  .next (eventStep (farRelaxDue s.uplink) moveTalk s)

/-- The converge count would reach the converge blocks (R186). -/
def convergedDue (s : State) : Bool :=
  s.uplink.echo == .converging && (echoMove s).uplink.echo == .converged

/-- ECHO_CONVERGED (R186). -/
def execEchoConverged (s : State) : Host.Outcome State Fault Refusal :=
  .next (eventStep (convergedDue s) echoMove s)

/-- The diverge count would reach the diverge blocks (R186). -/
def divergedDue (s : State) : Bool :=
  s.uplink.echo == .converged && (echoMove s).uplink.echo == .converging

/-- ECHO_DIVERGED (R186). -/
def execEchoDiverged (s : State) : Host.Outcome State Fault Refusal :=
  .next (eventStep (divergedDue s) echoMove s)

end Sys2Proof.Machine
end

