-- ==== Sys2Proof/Machine/Dispatch.lean ====
section
/-! DEFINITION. One arm per command, in the table's order, each one call of its meaning. -/

namespace Sys2Proof.Machine

def exec (i : Instr) (s : State) : Host.Outcome State Fault Refusal :=
  match i with
  | .resetPin => Sys2Proof.Machine.execResetPin s
  | .goodFrame f => Sys2Proof.Machine.execGoodFrame f s
  | .badFrame raw => Sys2Proof.Machine.execBadFrame raw s
  | .missingFrame => Sys2Proof.Machine.execMissingFrame s
  | .linkAcquired f => Sys2Proof.Machine.execLinkAcquired f s
  | .enterLost raw => Sys2Proof.Machine.execEnterLost raw s
  | .relink f => Sys2Proof.Machine.execRelink f s
  | .longLoss => Sys2Proof.Machine.execLongLoss s
  | .messageGapTimeout => Sys2Proof.Machine.execMessageGapTimeout s
  | .badKindRequest kind r => Sys2Proof.Machine.execBadKindRequest kind r s
  | .state r => Sys2Proof.Machine.execState r s
  | .start r => Sys2Proof.Machine.execStart r s
  | .stop r => Sys2Proof.Machine.execStop r s
  | .reset r => Sys2Proof.Machine.execReset r s
  | .resetTakesEffect => Sys2Proof.Machine.execResetTakesEffect s
  | .patternEnter r => Sys2Proof.Machine.execPatternEnter r s
  | .patternExit r => Sys2Proof.Machine.execPatternExit r s
  | .tableOpen r => Sys2Proof.Machine.execTableOpen r s
  | .tableWrite r => Sys2Proof.Machine.execTableWrite r s
  | .tableClose r => Sys2Proof.Machine.execTableClose r s
  | .tableRead r => Sys2Proof.Machine.execTableRead r s
  | .routeSet r => Sys2Proof.Machine.execRouteSet r s
  | .zoneSet r => Sys2Proof.Machine.execZoneSet r s
  | .zoneMute r => Sys2Proof.Machine.execZoneMute r s
  | .zoneLock r => Sys2Proof.Machine.execZoneLock r s
  | .zoneSource r => Sys2Proof.Machine.execZoneSource r s
  | .claimHeld z => Sys2Proof.Machine.execClaimHeld z s
  | .claimNone z => Sys2Proof.Machine.execClaimNone z s
  | .bankActivate r => Sys2Proof.Machine.execBankActivate r s
  | .activationQueueServed => Sys2Proof.Machine.execActivationQueueServed s
  | .bankFadeEnd u => Sys2Proof.Machine.execBankFadeEnd u s
  | .protectClear r => Sys2Proof.Machine.execProtectClear r s
  | .radioMode r => Sys2Proof.Machine.execRadioMode r s
  | .radioTune r => Sys2Proof.Machine.execRadioTune r s
  | .callAlert r => Sys2Proof.Machine.execCallAlert r s
  | .callConnect r => Sys2Proof.Machine.execCallConnect r s
  | .callHold r => Sys2Proof.Machine.execCallHold r s
  | .callResume r => Sys2Proof.Machine.execCallResume r s
  | .callMove r => Sys2Proof.Machine.execCallMove r s
  | .callEnd r => Sys2Proof.Machine.execCallEnd r s
  | .closingEnds => Sys2Proof.Machine.execClosingEnds s
  | .stoppingReachesConfig => Sys2Proof.Machine.execStoppingReachesConfig s
  | .noticeEntersQueue => Sys2Proof.Machine.execNoticeEntersQueue s
  | .messageWordSent => Sys2Proof.Machine.execMessageWordSent s
  | .gainRampEnd p => Sys2Proof.Machine.execGainRampEnd p s
  | .tierTrip c t => Sys2Proof.Machine.execTierTrip c t s
  | .tierRecovered c t => Sys2Proof.Machine.execTierRecovered c t s
  | .fastHoldExpiry c => Sys2Proof.Machine.execFastHoldExpiry c s
  | .dwellExpiry => Sys2Proof.Machine.execDwellExpiry s
  | .pairReplacement => Sys2Proof.Machine.execPairReplacement s
  | .switchCrossfadeEnd => Sys2Proof.Machine.execSwitchCrossfadeEnd s
  | .pilotChange => Sys2Proof.Machine.execPilotChange s
  | .tuneSettleEnd => Sys2Proof.Machine.execTuneSettleEnd s
  | .receptionPoor => Sys2Proof.Machine.execReceptionPoor s
  | .receptionRecovered => Sys2Proof.Machine.execReceptionRecovered s
  | .beamCrossfadeEnd => Sys2Proof.Machine.execBeamCrossfadeEnd s
  | .nearRelaxExpiry => Sys2Proof.Machine.execNearRelaxExpiry s
  | .farRelaxExpiry => Sys2Proof.Machine.execFarRelaxExpiry s
  | .echoConverged => Sys2Proof.Machine.execEchoConverged s
  | .echoDiverged => Sys2Proof.Machine.execEchoDiverged s

end Sys2Proof.Machine
end

