-- ==== Sys2Proof/Safety.lean ====
section
/-! DEFINITION. What a safe run is, and the terms that statements use: when a request is taken, what it leaves, and the
invariants of the gain points, the message unit, the claims and the banks, and what the evaluations of a block do. -/

namespace Sys2Proof.Machine

/-! ## Runs -/

/-- A step that answers a next state: the part neither faults nor is refused. -/
def Completes (s : State) : Prop := ∃ t, step s = .next t

/-! ## Requests -/

/-- A request can be taken now (R4, R21, R24, R35): the part is linked, the request is for it, no reset is pending, a
numbered one finds room in the queue, and no path-change event is left over. -/
abbrev Ready (r : Request) (s : State) : Prop :=
  s.linked = true ∧ (r.dest = 0 ∨ s.ring.position = some r.dest) ∧ s.msg.resetPhase = .none ∧
    (r.dest = 0 ∨ s.msg.queue.length < 4) ∧ s.uplink.pathRaised = false

/-- The state a taken request leaves: `t`, with the reply behind the queue unless the request was a broadcast
(R24, R27). -/
def answered (k : BitVec 6) (r : Request) (code : ResultCode) (detail : Nat) (data : List Word) (t : State) : State :=
  if r.dest = 0 then t else enqueue ⟨replyKind, r.tag, replyFirst code k detail :: data, false⟩ t

/-- A request passes checks 2 to 5 of R25. -/
abbrev Passes (k : RequestKind) (r : Request) (s : State) : Prop := refusalOf k r s = none

/-- What a path-change event does (R188): nothing in OFF; in CONVERGING the converge count is 0; in CONVERGED the state
becomes CONVERGING with the converge count at 0, and an ECHO notice is posted. -/
def pathEffect (s : State) : State :=
  match s.uplink.echo with
  | .off => s
  | .converging => s.setUplink { s.uplink with converge := 0 }
  | .converged => postNotice (.echo .converging) (s.setUplink { s.uplink with echo := .converging, converge := 0 })

/-- The command of a request kind. -/
def requestInstr : RequestKind → Request → Instr
  | .state => .state
  | .start => .start
  | .stop => .stop
  | .reset => .reset
  | .patternEnter => .patternEnter
  | .patternExit => .patternExit
  | .tableOpen => .tableOpen
  | .tableWrite => .tableWrite
  | .tableClose => .tableClose
  | .tableRead => .tableRead
  | .routeSet => .routeSet
  | .zoneSet => .zoneSet
  | .zoneMute => .zoneMute
  | .zoneLock => .zoneLock
  | .zoneSource => .zoneSource
  | .bankActivate => .bankActivate
  | .protectClear => .protectClear
  | .radioMode => .radioMode
  | .radioTune => .radioTune
  | .callAlert => .callAlert
  | .callConnect => .callConnect
  | .callHold => .callHold
  | .callResume => .callResume
  | .callMove => .callMove
  | .callEnd => .callEnd

/-! ## What the evaluations of a block do -/

/-- From a state to the next, the protection unit's superframe evaluation (R113, R115 to R121): the count and the marks of
every amplifier; a disabled channel's record as it stood; of an enabled one the tiers on its peak with levels derated, a
tier whose time has been written to nonzero from 0 beginning in CLEAR (log entry 38), the fast tier, the trip history and
the latch, the reduction. -/
def ProtectEvaluated (w v : State) : Prop :=
  v.prot.count = w.prot.count + 1 ∧
  (∀ a : Fin 4, v.prot.amps[a] = { w.prot.amps[a] with overTempMark := false, clipMarks := 0 }) ∧
  (∀ c : Fin 28, w.chan.channels[c].record.zone = none → v.prot.records[c] = w.prot.records[c]) ∧
  ∀ c : Fin 28, w.chan.channels[c].record.zone ≠ none →
    let ch := w.chan.channels[c]
    let k := w.prot.classes[ch.record.cls]
    let r := w.prot.records[c]
    let x := v.prot.records[c]
    let hot : Bool := match ch.record.amp with
      | some a => w.prot.amps[a].status &&
          decide ((w.prot.amps[a].limit : Int) - k.derateBand ≤ w.prot.amps[a].temperature)
      | none => false
    let eff (l : Nat) : Nat := if hot then l - l * k.derateFactor / 256 else l
    let marked : Prop := ∃ a, ch.record.amp = some a ∧ w.prot.amps[a].status = true ∧
      (w.prot.amps[a].overTempMark = true ∨ w.prot.amps[a].clipMarks.getLsbD ch.record.ampChannel.val = true)
    let trip : Prop := r.tier2.state = .alert ∧ x.tier2.state = .active
    let holds (y : Tier) : Bool := y.state == .active || y.state == .recovery
    let begins (anew : Bool) (y : Tier) : Tier := if anew then ⟨.clear, 0⟩ else y
    x.restart1 = false ∧ x.restart2 = false ∧
    x.tier1 = (begins r.restart1 r.tier1).evaluate ⟨k.t1Time, eff k.t1Level, eff k.t1Recover, k.recoverTime⟩ ch.peak ∧
    x.tier2 = (begins r.restart2 r.tier2).evaluate ⟨k.t2Time, eff k.t2Level, eff k.t2Recover, k.recoverTime⟩ ch.peak ∧
    (marked → x.fastHold = true ∧ x.fastTimer = k.fastHold) ∧
    (¬marked → r.fastHold = true → r.fastTimer ≤ 1 → x.fastHold = false ∧ x.fastTimer = 0) ∧
    (¬marked → r.fastHold = true → 1 < r.fastTimer → x.fastHold = true ∧ x.fastTimer = r.fastTimer - 1) ∧
    (¬marked → r.fastHold = false → x.fastHold = false) ∧
    (¬trip → x.trips = r.trips ∧ x.latched = r.latched) ∧
    (trip →
      let n := w.prot.count + 1
      let kept := r.trips.dropWhile fun y => decide (k.latchWindow ≤ (n - y).toNat)
      x.trips = (if 15 ≤ kept.length then kept.drop 1 else kept) ++ [n] ∧
      x.latched = (r.latched || (k.latchCount != 0 && decide (k.latchCount ≤ x.trips.length)))) ∧
    x.reduction = (if holds x.tier2 || x.latched then .mute
      else .steps ((if holds x.tier1 then k.t1Reduce else 0) + (if x.fastHold then k.fastReduce else 0)))

/-- From a state to the next, presence, measurement and score of the antennas (R131, R133, R134, R136): an unmapped
antenna keeps its record; the next block's powers and sums begin. -/
def AntennasEvaluated (w v : State) : Prop :=
  let code (n : Nat) : Nat := if n = 0 then 0 else if n = 1 then 0
    else 2 * n.log2 + (if n.testBit (n.log2 - 1) then 1 else 0)
  v.ant.powers = Vector.replicate 4 [] ∧ v.ant.corrSum = Vector.replicate 6 (0, 0) ∧
  ∀ a : Fin 4,
    let old := w.ant.antennas[a]
    let ps := w.ant.powers[a]
    let mapped : Prop := antennaMapped w.ring.slotMap a = true
    let quiet : Prop := ∀ p ∈ ps, p = 0
    let m := ps.sum / ps.length
    let d := (ps.map fun p => ((p : Int) - m).natAbs).sum / ps.length
    let paths := if m = 0 then 255 else min 255 (256 * d / m)
    let score := min 127 (min 127 (code ps.sum - 20) - w.ant.penalty[Fin.ofNat 32 (paths / 8)])
    (¬mapped → v.ant.antennas[a] = old) ∧
    (mapped → quiet → old.present = true → v.ant.antennas[a] = { old with present := false, absence := 1 }) ∧
    (mapped → quiet → old.present = false →
      v.ant.antennas[a] = { old with absence := min 65535 (old.absence + 1) }) ∧
    (mapped → ¬quiet → old.present = true → v.ant.antennas[a] = { old with score := score }) ∧
    (mapped → ¬quiet → old.present = false →
      v.ant.antennas[a] = { present := true, absence := 0, lastAbsence := old.absence, score := score })

/-- From a state to the next, the selection of the antennas (R136, R139 to R141, R143, R144) on presences and scores as
their evaluation left them: the held correlations; in FIXED and SWITCHED the antenna in use and the alert; in PAIRED the
pair, its challenge counts, weights and direction. An empty pair keeps weights and direction (log entry 29). -/
def SelectionEvaluated (w v : State) : Prop :=
  let u := w.ant
  let x := v.ant
  let k := u.record
  let there (a : Fin 4) : Bool := x.antennas[a].present
  let score (a : Fin 4) : Nat := x.antennas[a].score
  let better (a b : Fin 4) : Prop := score b < score a ∨ (score a = score b ∧ a.val < b.val)
  let best (p : Fin 4 → Prop) (b : Fin 4) : Prop := p b ∧ ∀ d, p d → d = b ∨ better b d
  let takes (b : Fin 4) : Prop :=
    x.current = b ∧ x.fade = if b = u.current then u.fade else some ⟨.antenna u.current, b, 0⟩
  let pairKept : Prop := x.pair = u.pair ∧ x.challenge = u.challenge ∧ x.w1 = u.w1 ∧ x.w2 = u.w2 ∧ x.phase = u.phase
  let rival (b : Fin 4) : Prop := there b = true ∧ b ≠ u.current ∧ score u.current + k.margin ≤ score b
  x.mode = u.mode ∧ x.pendingMode = u.pendingMode ∧ x.record = k ∧ x.penalty = u.penalty ∧
  (∀ p : Fin 6, x.corrHeld[p] =
    if there corrPairs[p].1 && there corrPairs[p].2 then u.corrSum[p] else (0, 0)) ∧
  (∀ a, u.mode = .fixed a → x.alert = u.alert ∧ pairKept ∧ (there a = true → takes a) ∧
    (there a = false → there u.current = true → takes u.current) ∧
    (there a = false → there u.current = false → ∀ b, best (fun d => there d = true) b → takes b) ∧
    ((∀ b, there b = false) → takes u.current)) ∧
  (u.mode = .switched → pairKept ∧
    (there u.current = true →
      let q := score u.current
      (u.alert = none → takes u.current ∧ x.alert = if q < k.switchLevel then some k.dwell else none) ∧
      ∀ n, u.alert = some n →
        (k.switchLevel + k.hysteresis ≤ q → takes u.current ∧ x.alert = none) ∧
        (q < k.switchLevel + k.hysteresis → 1 < n → takes u.current ∧ x.alert = some (n - 1)) ∧
        (q < k.switchLevel + k.hysteresis → n ≤ 1 → (∀ b, best rival b → takes b ∧ x.alert = none) ∧
          ((∀ b, ¬rival b) → takes u.current ∧ x.alert = some k.dwell))) ∧
    (there u.current = false → x.alert = none ∧ (∀ b, best (fun d => there d = true) b → takes b) ∧
      ((∀ b, there b = false) → takes u.current))) ∧
  (u.mode = .paired → u.pair.Nodup → u.pair.length ≤ 2 → takes u.current ∧ x.alert = u.alert ∧
    (∃ p : List (Fin 4),
      p.Nodup ∧ p.length = min 2 ((List.finRange 4).filter there).length ∧ (∀ a ∈ p, there a = true) ∧
      (∀ a ∈ u.pair, there a = true → a ∈ p) ∧
      (∀ a ∈ p, a ∉ u.pair → ∀ b, there b = true → b ∉ p → better a b) ∧ (∀ a b, p = [a, b] → better a b) ∧
      (let count (y : Fin 4) : Nat := match p with
        | [_, z] => if there y = true ∧ y ∉ p ∧ score z + k.pairMargin ≤ score y then min 65535 (u.challenge[y] + 1) else 0
        | _ => 0
       let ripe (y : Fin 4) : Prop := p.length = 2 ∧ there y = true ∧ y ∉ p ∧ k.pairDwell ≤ count y
       ((∀ y, ¬ripe y) → x.pair = p ∧ ∀ y : Fin 4, x.challenge[y] = count y) ∧
       ∀ a z y, p = [a, z] → best ripe y →
        ((x.pair = [a, y] ∧ better a y) ∨ (x.pair = [y, a] ∧ better y a)) ∧
        ∀ d : Fin 4, x.challenge[d] = if d = y ∨ d = z then 0 else count d)) ∧
    (∀ a b, x.pair = [a, b] → x.w1 = firstWeight (score a) (score b) ∧ x.w2 = 256 - x.w1 ∧
      x.phase = nearestDirection (correlationOf x a b)) ∧
    (∀ a, x.pair = [a] → x.w1 = 256 ∧ x.w2 = 0) ∧
    (x.pair = [] → x.w1 = u.w1 ∧ x.w2 = u.w2 ∧ x.phase = u.phase))

/-- The quality that the antennas hand to the radio (R147, R152). -/
def qualityOf (u : AntennaUnit) : Nat :=
  match anyPresent u, u.mode, u.pair with
  | false, _, _ => 0
  | true, .paired, a :: b :: _ => min 127 (u.antennas[a].score + u.antennas[b].score / 4)
  | true, .paired, [a] => u.antennas[a].score
  | true, .paired, [] => 0
  | true, _, _ => u.antennas[u.current].score

/-- From a state to the next, the radio evaluation (R151, R152, R154 to R156, R158) on the antennas as their evaluation
left them: the tune count and the settle in force (log entry 39), the pilot from its free outcome (log entry 10), and
after the settle the blend, the soft mute and the reception. -/
def RadioEvaluated (w v : State) : Prop :=
  let move (x goal : Nat) : Nat := if x < goal then x + 1 else if goal < x then x - 1 else x
  let u := w.radio
  let x := v.radio
  let k := w.ant.record
  let above := Config.pilotAtThreshold w.draws u.multiplex
  let n := min 65535 (u.blocksSinceTune + 1)
  let q := qualityOf v.ant
  let b := u.blend[Fin.ofNat 32 (q / 4)]
  let low := if q < k.poorLevel then min 65535 (u.poorCount + 1) else 0
  let up := if k.poorLevel + k.hysteresis ≤ q then min 65535 (u.recoverCount + 1) else 0
  x.blocksSinceTune = n ∧ x.settle = k.tuneSettle ∧ x.multiplex = [] ∧
  (x.noAntenna = true ↔ anyPresent v.ant = false ∨ (v.ant.mode = .paired ∧ v.ant.pair = [])) ∧
  (above = u.pilot → x.pilot = u.pilot ∧ x.pilotRun = 0) ∧
  (above ≠ u.pilot → u.pilotRun < 3 → x.pilot = u.pilot ∧ x.pilotRun = u.pilotRun + 1) ∧
  (above ≠ u.pilot → 3 ≤ u.pilotRun → x.pilot = above ∧ x.pilotRun = 0) ∧
  (n < k.tuneSettle → x.separation = u.separation ∧ x.highCut = u.highCut ∧ x.softMute = u.softMute ∧
    x.reception = u.reception ∧ x.poorCount = u.poorCount ∧ x.recoverCount = u.recoverCount) ∧
  (k.tuneSettle ≤ n →
    x.separation = move u.separation (if x.pilot then b.separation else 0) ∧ x.highCut = move u.highCut b.highCut ∧
    x.softMute = b.softMute ∧
    (u.reception ≠ .poor → k.poorTime ≤ low → x.reception = .poor ∧ x.poorCount = 0 ∧ x.recoverCount = 0) ∧
    (u.reception ≠ .poor → low < k.poorTime →
      x.reception = (if k.goodLevel ≤ q then .good else .fair) ∧ x.poorCount = low) ∧
    (u.reception = .poor → k.recoverTime ≤ up → x.reception = .fair ∧ x.poorCount = 0 ∧ x.recoverCount = 0) ∧
    (u.reception = .poor → up < k.recoverTime → x.reception = .poor ∧ x.recoverCount = up))

/-- From a state to the next, the talk state and its counts (R185). -/
def TalkEvaluated (w v : State) : Prop :=
  let u := w.uplink
  let x := v.uplink
  let far : Prop := u.record.farThreshold ≤ u.peakF
  let cabin : Prop := u.record.nearThreshold ≤ u.peakR
  (cabin → x.nearQuiet = 0) ∧ (¬cabin → x.nearQuiet = min 65535 (u.nearQuiet + 1)) ∧
  (far → x.farQuiet = 0) ∧ (¬far → x.farQuiet = min 65535 (u.farQuiet + 1)) ∧
  (cabin → far → x.talk = .double) ∧ (cabin → ¬far → x.talk = .nearOnly) ∧
  (¬cabin → far → x.talk =
    if (u.talk = .nearOnly ∨ u.talk = .double) ∧ x.nearQuiet < u.record.nearRelax then .double else .farOnly) ∧
  (¬cabin → ¬far → x.talk =
    if u.talk = .farOnly ∧ x.farQuiet < u.record.farRelax then .farOnly else .quiet)

/-- From a state to the next, the echo state, its counts and the filters (R186), the talk state being decided: nothing
moves in OFF or in a block that is not FAR_ONLY; otherwise the ERLE code moves the counts, and the block's update is
committed while the call is ACTIVE unless the filters are reset. -/
def EchoEvaluated (w v : State) : Prop :=
  let code (n : Nat) : Nat := if n = 0 then 0 else if n = 1 then 0
    else 2 * n.log2 + (if n.testBit (n.log2 - 1) then 1 else 0)
  let u := w.uplink
  let x := v.uplink
  let k := u.record
  let erle : Int := (code u.peakN : Int) - code u.peakR
  let up := if (k.convergeLevel : Int) ≤ erle then min 65535 (u.converge + 1) else 0
  let off := if erle < (k.divergeLevel : Int) then min 65535 (u.diverge + 1) else 0
  let adapted : Prop :=
    (w.call.state = .active → ∀ i : Fin 10, x.filters[i] =
      ((Config.echoUpdate (u.filters.map spanned) (u.references.map spanned) u.residuals)[i]).take 6144) ∧
    (w.call.state ≠ .active → x.filters = u.filters)
  (u.echo = .off ∨ x.talk ≠ .farOnly →
    x.echo = u.echo ∧ x.converge = u.converge ∧ x.diverge = u.diverge ∧ x.filters = u.filters) ∧
  (u.echo = .converging → x.talk = .farOnly → x.converge = up ∧ adapted ∧
    (up < k.convergeBlocks → x.echo = .converging ∧ x.diverge = u.diverge) ∧
    (k.convergeBlocks ≤ up → x.echo = .converged ∧ x.diverge = 0)) ∧
  (u.echo = .converged → x.talk = .farOnly → x.diverge = off ∧
    (off < k.divergeBlocks → x.echo = .converged ∧ x.converge = u.converge ∧ adapted) ∧
    (k.divergeBlocks ≤ off → x.echo = .converging ∧ x.converge = 0 ∧ ∀ i : Fin 10, ∀ c ∈ x.filters[i], c = 0))

/-! ## Invariants -/

/-- The largest linear gain (R70, R77). -/
def maxGain : Nat := 4194304

/-- A ramp of a point is one R77 describes, and the current gain stands where its frames so far have taken it. -/
def Ramp.Sound (r : Ramp) (target current : Nat) : Prop :=
  r.from_ ≤ maxGain ∧ 1 ≤ r.left ∧ r.left ≤ r.length ∧
    r.step = ((target : Int) - r.from_).tdiv r.length ∧
    (current : Int) = r.from_ + r.step * ((r.length : Int) - r.left)

/-- A gain point in the range of R77, its ramp sound. -/
def GainPoint.Sound (p : GainPoint) : Prop :=
  p.linear ≤ maxGain ∧ p.current ≤ maxGain ∧ ∀ r, p.ramp = some r → r.Sound p.linear p.current

/-- A gain point that is silent: current gain zero, no ramp (R81). -/
def GainPoint.Silent (p : GainPoint) : Prop := p.current = 0 ∧ p.ramp = none

/-- Every gain point is sound, and silent while the units do not run (R77, R81). -/
def GainInv (s : State) : Prop :=
  (∀ i : GainId, (s.point i).Sound) ∧ (s.running = false → ∀ i : GainId, (s.point i).Silent)

/-- The words already sent of the head message are fewer than it has (R29). -/
def sentFits (u : MessageUnit) : Prop :=
  match u.queue with
  | [] => u.sent = 0
  | m :: _ => u.sent ≤ m.body.length + 1

/-- The assembly holds at most fifteen BODY words and its gap count is at most 64 (R21, R22). -/
def Assembly.Fits : Assembly → Prop
  | .empty => True
  | .assembling _ body _ gap => body.length ≤ 15 ∧ gap ≤ 64
  | .skipping gap => gap ≤ 64

/-- The message unit's bounds (R21 to R23, R28 to R30): the queue, the sending, the assembly, the counters, and at most
one pending notice of each kind, its count 1..255. -/
def MessageInv (s : State) : Prop :=
  s.msg.queue.length ≤ 4 ∧ sentFits s.msg ∧ s.msg.assembly.Fits ∧
    s.msg.broken ≤ 65535 ∧ s.msg.checkFailed ≤ 65535 ∧ s.msg.dropped ≤ 65535 ∧
    (s.msg.notices.map fun n => n.detail.kind).Nodup ∧ ∀ n ∈ s.msg.notices, 1 ≤ n.count ∧ n.count ≤ 255

/-- How many claims of a list satisfy a test. -/
def claimCount (l : List Claim) (p : Claim → Bool) : Nat := (l.filter p).length

/-- The claim list of R58: each seat has at most one claim in PENDING or HELD and at most one in RELEASING, never a HELD
and a RELEASING one together, and the two seats' PENDING or HELD claims are on different, claimable sources. -/
def ClaimInv (s : State) : Prop :=
  (∀ z : Fin 2, claimCount s.mix.claims (fun c => c.zone == z && c.state != .releasing) ≤ 1) ∧
  (∀ z : Fin 2, claimCount s.mix.claims (fun c => c.zone == z && c.state == .releasing) ≤ 1) ∧
  (∀ z : Fin 2, claimCount s.mix.claims (fun c => c.zone == z && c.state != .pending) ≤ 1) ∧
  (∀ x ∈ s.mix.claims, ∀ y ∈ s.mix.claims, x.state ≠ .releasing → y.state ≠ .releasing → x.source = y.source →
    x.zone = y.zone) ∧
  ∀ c ∈ s.mix.claims, c.source.claimable = true

/-- The banks (R95, R96, R102, R103): every live bank passes the stability test, and every spare that waits or fades; the
queue holds each QUEUED channel once and no other; the busy units hold each FADING channel once and no other; a COEF
cursor stands inside its channel, whose spare is OPEN, and no other spare is. -/
def BankInv (s : State) : Prop :=
  (∀ c : Fin 28, failingStage s.chan.channels[c].live = none) ∧
  (∀ c : Fin 28, s.chan.channels[c].spare = .queued ∨ s.chan.channels[c].spare = .fading →
    failingStage s.chan.channels[c].spareBank = none) ∧
  s.chan.queue.Nodup ∧ (∀ c : Fin 28, c ∈ s.chan.queue ↔ s.chan.channels[c].spare = .queued) ∧
  (∀ u v : Fin 4, ∀ f g, s.chan.fades[u] = some f → s.chan.fades[v] = some g → f.channel = g.channel → u = v) ∧
  (∀ c : Fin 28, (∃ (u : Fin 4) (f : BankFade), s.chan.fades[u] = some f ∧ f.channel = c) ↔
    s.chan.channels[c].spare = .fading) ∧
  (∀ k, s.msg.cursor = some k → k.table = .coef →
    s.chan.channels[k.chan].spare = .open_ ∧ k.chan.val * 8 ≤ k.index ∧ k.index ≤ k.chan.val * 8 + 8) ∧
  ∀ c : Fin 28, s.chan.channels[c].spare = .open_ → ∃ k, s.msg.cursor = some k ∧ k.table = .coef ∧ k.chan = c

end Sys2Proof.Machine
end

