-- ==== Sys2Proof/Certificates/Slice0/Obligations.lean ====
section
/-! DEFINITION. The statements for the provers, one for each row of OBLIGATIONS.json. Each docstring says what it states;
a clause that rests on the model's own choice names its entry of the assumption log. -/

open Sys2Proof Sys2Proof.Machine

/-- A step runs the command at the front of the queue; an empty queue idles (model's choice, log entry 2) (00 The
part in outline, 95 What each step holds). -/
def Obligations.StepRunsFront : Prop :=
  (∀ (c : Instr) (rest : List Instr) (s : State), s.pending = c :: rest → step s = exec c (s.setPending rest)) ∧
  ∀ s : State, s.pending = [] → step s = .next s

/-- Every command completes in every state and leaves the waiting commands alone (00 Scope, 95 What each step
holds). -/
def Obligations.CommandsLeaveQueue : Prop :=
  ∀ (c : Instr) (s : State), ∃ t, exec c s = .next t ∧ t.pending = s.pending

/-- The reset pin leaves the reset state, whatever stood before (01 1.3, 02 2.1, 02 2.5, 03 3.2, 03 3.3, 04 4.1, 05
5.3, 06 6.3, 07 7.10, 08 8.7, 09 9.1, 10 10.5). -/
def Obligations.ResetPinRestores : Prop :=
  (∀ s : State, exec .resetPin s = .next { State.reset with pending := s.pending, draws := s.draws }) ∧
  (let r := State.reset
   r.ring.link = .acquiring ∧ r.ring.goodRun = 0 ∧ r.ring.badRun = 0 ∧ r.ring.lossTimer = .stopped ∧
   r.ring.position = none ∧ (∀ i : Fin 96, r.ring.slotMap[i] = .unused) ∧
   r.ring.pattern = #v[0x000000, 0xFFFFFF, 0x555555, 0xAAAAAA] ∧ r.ring.patternFormat = .serial ∧
   r.msg.assembly = .empty ∧ r.msg.cursor = none ∧ r.msg.queue = [] ∧ r.msg.notices = [] ∧ r.msg.noticeSeq = 0 ∧
   r.msg.op = .config ∧ r.msg.patternFrom = .config ∧ r.msg.broken = 0 ∧ r.msg.checkFailed = 0 ∧ r.msg.dropped = 0 ∧
   (∀ i : Fin 32, r.mix.routes[i].state = .empty) ∧ r.mix.claims = [] ∧
   (∀ z : Fin 5, r.mix.zones[z].volume = 0 ∧ r.mix.zones[z].seatMode = false ∧ r.mix.zones[z].lock = false) ∧
   (∀ i : GainId, r.point i = ⟨.mute, 0, 0, none⟩) ∧
   (∀ c : Fin 28, r.chan.channels[c].record.zone = none ∧ r.chan.channels[c].spare = .loaded ∧
     r.chan.channels[c].liveB = false ∧ ∀ i : Fin 8,
      r.chan.channels[c].bankA.stages[i] = ⟨4194304, 0, 0, 0, 0⟩ ∧ r.chan.channels[c].bankA.history[i] = ⟨0, 0, 0, 0⟩ ∧
      r.chan.channels[c].bankB.stages[i] = ⟨4194304, 0, 0, 0, 0⟩ ∧ r.chan.channels[c].bankB.history[i] = ⟨0, 0, 0, 0⟩) ∧
   r.chan.queue = [] ∧
   r.prot.count = 0 ∧
   (∀ c : Fin 28, r.prot.records[c].tier1 = ⟨.clear, 0⟩ ∧ r.prot.records[c].tier2 = ⟨.clear, 0⟩ ∧
     r.prot.records[c].latched = false ∧ r.prot.records[c].fastHold = false ∧ r.prot.records[c].fastTimer = 0 ∧
     r.prot.records[c].trips = [] ∧ r.prot.records[c].reduction = .steps 0) ∧
   r.ant.mode = .switched ∧ r.ant.current = 0 ∧ r.ant.w1 = 128 ∧ r.ant.w2 = 128 ∧
   r.radio.frequency = 8750 ∧ r.radio.identifier = none ∧ r.radio.reception = .fair ∧ r.radio.highCut = 7 ∧
   r.call.state = .idle ∧ r.call.placement = 0 ∧ r.call.uplinkGain = 0 ∧ r.uplink.echo = .off ∧ r.uplink.talk = .quiet)

/-- Hop count and position: what a good frame gives and how it is forwarded (R3). -/
def Obligations.HopAndPosition : Prop :=
  (∀ (f : Frame) (s : State), ∃ t, exec (.goodFrame f) s = .next t ∧
    (∃ g, t.ring.transmitted = .good g ∧ g.hop = if f.hop.toNat ≤ 14 then f.hop + 1 else 15) ∧
    t.ring.position =
      if s.ring.link = .linked ∨ 16 ≤ s.ring.goodRun + 1 then (if f.hop.toNat ≤ 14 then some (f.hop + 1) else none)
      else s.ring.position) ∧
  ∀ (raw : RawFrame) (s : State), ∃ t, exec (.badFrame raw) s = .next t ∧ t.ring.transmitted = .bad raw

/-- Frames that no unit sees: forwarded or not, counted, and nothing else (01 1.3, 01 1.1, 02 2.1). -/
def Obligations.FramesNotProcessed : Prop :=
  (
    ∀ (f : Frame) (s : State), s.ring.link ≠ .linked → s.ring.goodRun + 1 < 16 →
      exec (.goodFrame f) s = .next (s.setRing { s.ring with
        frameSeen := true
        goodRun := s.ring.goodRun + 1
        transmitted := .good { f with hop := if f.hop = 15 then 15 else f.hop + 1 } })) ∧
  (
    (∀ (raw : RawFrame) (s : State), s.ring.link = .linked → s.ring.badRun + 1 < 4 →
      exec (.badFrame raw) s = .next (gapTick (s.setRing { s.ring with
        frameSeen := true, transmitted := .bad raw, badRun := s.ring.badRun + 1 }))) ∧
    (∀ s : State, s.ring.link = .linked → s.ring.badRun + 1 < 4 → s.ring.frameSeen = true →
      exec .missingFrame s = .next (gapTick (s.setRing { s.ring with
        transmitted := .nothing, badRun := s.ring.badRun + 1 }))) ∧
    (∀ (raw : RawFrame) (s : State), s.ring.link ≠ .linked →
      exec (.badFrame raw) s = .next (s.setRing { s.ring with
        frameSeen := true, transmitted := .bad raw, goodRun := 0 })) ∧
    (∀ s : State, s.ring.link ≠ .linked → s.ring.frameSeen = true →
      exec .missingFrame s = .next (s.setRing { s.ring with transmitted := .nothing, goodRun := 0 })) ∧
    ∀ s : State, s.ring.frameSeen = false → exec .missingFrame s = .next s)

/-- What a processed frame carries on the transmit link: index, command, hop, reply, every slot (01 1.1, 01 1.2, 01
1.4, 01 1.5, 01 1.7, 02 2.3). -/
def Obligations.GoodFrameTransmits : Prop :=
  ∀ (f : Frame) (s : State), s.ring.link = .linked →
    ∃ t g, exec (.goodFrame f) s = .next t ∧ t.ring.transmitted = .good g ∧
      g.index = f.index ∧ g.ctype = f.ctype ∧ g.cword = f.cword ∧ g.hop = (if f.hop = 15 then 15 else f.hop + 1) ∧
      (f.reply.wtype ≠ .idle → g.reply = f.reply) ∧
      (f.reply.wtype = .idle →
        let p : Option Node := if f.hop = 15 then none else some (f.hop + 1)
        let k := if p = s.ring.position then s.msg.sent else 0
        g.reply = match p, s.msg.queue with
          | some n, m :: _ =>
            match (messageWords m n)[k]? with
            | some w => ⟨w.1, n, w.2⟩
            | none => f.reply
          | _, _ => f.reply) ∧
      ∀ i : Fin 96,
        let held : Option Int := match s.ring.slotMap[i] with
          | .out c => some s.chan.channels[c].out
          | .uplink => some s.uplink.out
          | _ => none
        let j := ((List.finRange 96).filter fun n => decide (n.val < i.val) && ownedRole s.ring.slotMap[n]).length
        let pattern : SlotWord := match s.ring.patternFormat with
          | .serial => s.ring.pattern[Fin.ofNat 4 f.index.val]
          | .parallel => s.ring.pattern[0]
          | .staggered => s.ring.pattern[Fin.ofNat 4 (j + f.index.val)]
        g.slots[i] = match held, s.msg.op with
          | some x, .run | some x, .stopping => BitVec.ofInt 24 x
          | some _, .pattern => pattern
          | _, _ => f.slots[i]

/-- A processed frame in CONFIG without a command word moves no unit and no gain (02 2.5, 04 4.5, 01 1.4). -/
def Obligations.GoodFrameInConfig : Prop :=
  ∀ (f : Frame) (s : State), s.ring.link = .linked → s.msg.op = .config → f.ctype = .idle →
    s.msg.resetPhase = .none → (∀ m ∈ s.msg.queue, m.resets = false) → s.uplink.pathRaised = false →
    ∃ t, exec (.goodFrame f) s = .next t ∧ t.mix = s.mix ∧ t.chan = s.chan ∧ t.prot = s.prot ∧ t.ant = s.ant ∧
      t.radio = s.radio ∧ t.call = s.call ∧ t.uplink = s.uplink ∧ t.ring.slotMap = s.ring.slotMap ∧
      t.msg.op = .config ∧ ∀ i, (t.point i).current = (s.point i).current ∧ (t.point i).ramp = (s.point i).ramp

/-- A processed frame while the units run, without a command word: ramps, path change, samples, antennas, radio,
uplink (02 2.5, 04 4.1, 04 4.3, 04 4.4, 04 4.5, 05 5.2, 06 6.2, 07 7.4, 08 8.1, 10 10.1, 10 10.3, 10 10.5). -/
def Obligations.GoodFrameInRun : Prop :=
  ∀ (f : Frame) (s : State), s.ring.link = .linked →
    s.msg.op = .run ∨ s.msg.op = .stopping ∨ (s.msg.op = .pattern ∧ s.msg.patternFrom = .run) →
    f.ctype = .idle → f.index ≠ 63 → s.msg.resetPhase = .none → (∀ m ∈ s.msg.queue, m.resets = false) →
    let sat (v : Int) : Int := max (-8388608) (min 8388607 v)
    let through (x : Int) (c : Nat) : Int := (x * c + 2 ^ 19) / 2 ^ 20
    let size (v : Int) : Nat := min 8388607 v.natAbs
    let g := gainStep s
    let silent : Prop := s.msg.op = .stopping ∧ ∀ c : Fin 28, g.out[c].current = 0
    let pair := s.radio.delay.headD (0, 0)
    let diff : Int := (if s.radio.pilot then pair.2 else 0) * s.radio.separation / 16
    let left := Config.highCutNext s.radio.highCut s.radio.cutLeft (sat (pair.1 + diff))
    let right := Config.highCutNext s.radio.highCut s.radio.cutRight (sat (pair.1 - diff))
    let radio : Int × Int :=
      (sat (through (sat (Config.highCutOut s.radio.highCut left)) g.radio.current),
       sat (through (sat (Config.highCutOut s.radio.highCut right)) g.radio.current))
    let buses : Vector (Int × Int) 5 :=
      Vector.ofFn fun z => zoneBus (s.setGain g) (sourcePair s.ring.slotMap f radio) z
    let jump : Prop := ∃ c : Fin 28, match s.gain.out[c].step, g.out[c].step with
      | .mute, .mute => False
      | .steps a, .steps b => s.uplink.record.pathStep < (a - b).natAbs
      | _, _ => True
    let fadeEnds : Prop := ∃ (n : Fin 4) (x : BankFade), s.chan.fades[n] = some x ∧ 511 ≤ x.count
    let z (a n : Fin 4) : Complex24 := antennaSample s.ring.slotMap f a n
    ∃ t, exec (.goodFrame f) s = .next t ∧
      (jump ∨ s.uplink.pathRaised = true ∨ fadeEnds → t.uplink.echo = (pathEffect s).uplink.echo ∧
        t.uplink.converge = (pathEffect s).uplink.converge) ∧
      (¬jump → s.uplink.pathRaised = false → ¬fadeEnds → s.uplink.fading = false ∨ s.uplink.changePending = false →
        t.uplink.echo = s.uplink.echo ∧ t.uplink.converge = s.uplink.converge) ∧
      t.uplink.diverge = s.uplink.diverge ∧ t.uplink.filters = s.uplink.filters ∧
      (∀ a : Fin 4, t.ant.powers[a] = ([3, 2, 1, 0].map fun n => power (z a n)) ++ s.ant.powers[a]) ∧
      (∀ (p : Fin 6) (a b : Fin 4), corrPairs[p] = (a, b) → t.ant.corrSum[p] =
        (s.ant.corrSum[p].1 + ∑ n : Fin 4, ((z a n).1 * (z b n).1 + (z a n).2 * (z b n).2),
         s.ant.corrSum[p].2 + ∑ n : Fin 4, ((z a n).2 * (z b n).1 - (z a n).1 * (z b n).2))) ∧
      (let held : AntennaUnit := { t.ant with powers := s.ant.powers, corrSum := s.ant.corrSum }
       (¬silent → (∀ x, s.ant.fade = some x → x.count < 63) →
        held = { s.ant with fade := s.ant.fade.map fun x => { x with count := x.count + 1 } }) ∧
       ∀ x, ¬silent → s.ant.fade = some x → 63 ≤ x.count →
        ∃ v, exec .switchCrossfadeEnd s = .next v ∧ held = v.ant) ∧
      (¬silent → t.gain = g ∧ t.msg.op = s.msg.op) ∧
      (silent → t.gain = g.mapPoints (fun p => { p with current := 0, ramp := none }) ∧ t.msg.op = .config) ∧
      (∀ c : Fin 28, t.chan.channels[c].out =
          (channelStep s.chan.channels[c] (fadeOf s.chan c) g.out[c].current buses).out ∧
        (g.out[c].current = 0 → t.chan.channels[c].out = 0)) ∧
      (∃ p, t.radio.delay = (s.radio.delay ++ [p]).drop 1) ∧ t.radio.cutLeft = left ∧ t.radio.cutRight = right ∧
      t.radio.lastSample = combinedSample s.ant (fun a => antennaSample s.ring.slotMap f a 3) ∧
      (let u := s.uplink
       let w := sat (∑ b : Fin 2, through (selectionSum t.uplink.mics u.selections[b]) g.beam[b].current)
       ∃ y : Fin 10 → Int,
        (∀ k : Fin 10, (∀ v ∈ u.filters[k], v = 0) → y k = 0) ∧
        (∀ k : Fin 10, (∃ v ∈ u.filters[k], v ≠ 0) →
          y k = Config.echoOutput (spanned u.filters[k]) (spanned t.uplink.references[k])) ∧
        (let e := sat (w - ∑ k : Fin 10, y k)
         (∀ m : Fin 6, t.uplink.mics[m] = roleSample s.ring.slotMap f (.mic m) :: u.mics[m].take 31) ∧
         (∀ (z : Fin 5) (k : Fin 10),
          (k.val = 2 * z.val → t.uplink.references[k] = buses[z].1 :: u.references[k].take 6143) ∧
          (k.val = 2 * z.val + 1 → t.uplink.references[k] = buses[z].2 :: u.references[k].take 6143)) ∧
         t.uplink.residuals = e :: u.residuals ∧ t.uplink.out = sat (through e g.uplink.current) ∧
         t.uplink.peakF = max u.peakF (size (sat (∑ z : Fin 5, (buses[z].1 + buses[z].2) / 2))) ∧
         t.uplink.peakN = max u.peakN (size w) ∧ t.uplink.peakR = max u.peakR (size e))) ∧
      (∀ a : Fin 4, t.prot.amps[a] = match ampSlot s.ring.slotMap a with
        | some i => s.prot.amps[a].read f.slots[i]
        | none => s.prot.amps[a]) ∧
      t.prot.records = s.prot.records ∧ t.prot.count = s.prot.count ∧ t.mix.routes = s.mix.routes ∧
      t.mix.zones = s.mix.zones

/-- The fourth bad or missing frame of LINKED takes the part to LOST with the short-loss effects alone (01 1.3, 02
2.3). -/
def Obligations.EntersLost : Prop :=
  (∀ (raw : Option RawFrame) (s : State), s.ring.link = .linked → 4 ≤ s.ring.badRun + 1 →
    exec (.enterLost raw) s = .next ((s.setRing { s.ring with
        transmitted := match raw with | some b => .bad b | none => .nothing
        link := .lost, goodRun := 0, badRun := s.ring.badRun + 1, lossTimer := .running }).setMsg
      { s.msg with assembly := .empty, sent := 0 })) ∧
  (∀ (raw : RawFrame) (s : State), s.ring.link = .linked → s.ring.frameSeen = true → 4 ≤ s.ring.badRun + 1 →
    exec (.badFrame raw) s = exec (.enterLost (some raw)) s ∧ exec .missingFrame s = exec (.enterLost none) s) ∧
  ∀ (raw : Option RawFrame) (s : State), s.ring.link ≠ .linked ∨ s.ring.badRun + 1 < 4 →
    exec (.enterLost raw) s = .next s

/-- The sixteenth good frame acquires the link or ends a loss; a new position in LINKED posts a LINK notice (01 1.2,
01 1.3, 02 2.3, 02 2.4). -/
def Obligations.LinkAcquiredAndRelink : Prop :=
  (∀ (f : Frame) (s : State), s.ring.link = .acquiring → s.ring.goodRun = 15 →
    let p : Option Node := if f.hop = 15 then none else some (f.hop + 1)
    exec (.linkAcquired f) s = .next (processFrame f ((s.setRing { s.ring with
        frameSeen := true, link := .linked, goodRun := 0, badRun := 0, lossTimer := .stopped, position := p }).setMsg
      { s.msg with sent := if p = s.ring.position then s.msg.sent else 0 })) ∧
    exec (.goodFrame f) s = exec (.linkAcquired f) s) ∧
  (∀ (f : Frame) (s : State), s.ring.link = .lost → s.ring.goodRun = 15 →
    let p : Option Node := if f.hop = 15 then none else some (f.hop + 1)
    let u := (s.setRing { s.ring with
        frameSeen := true, link := .linked, goodRun := 0, badRun := 0, lossTimer := .stopped, position := p }).setMsg
      { s.msg with sent := if p = s.ring.position then s.msg.sent else 0 }
    let n : NoticeDetail := .link false (s.ring.lossTimer == .reached) p s.ring.position
    let v := postNotices s.msg.deferred (postNotice n u)
    exec (.relink f) s = .next (processFrame f (v.setMsg { v.msg with deferred := [] })) ∧
    exec (.goodFrame f) s = exec (.relink f) s) ∧
  (∀ (f : Frame) (s : State), s.ring.link = .linked →
    let p : Option Node := if f.hop = 15 then none else some (f.hop + 1)
    let u := s.setRing { s.ring with frameSeen := true, badRun := 0 }
    (p = s.ring.position → exec (.goodFrame f) s = .next (processFrame f u)) ∧
    (p ≠ s.ring.position → exec (.goodFrame f) s = .next (processFrame f
      (postNotice (.link true false p s.ring.position) ((u.setRing { u.ring with position := p }).setMsg
        { s.msg with sent := 0 }))))) ∧
  (∀ (f : Frame) (s : State), s.ring.link ≠ .acquiring ∨ s.ring.goodRun + 1 < 16 →
    exec (.linkAcquired f) s = .next s) ∧
  ∀ (f : Frame) (s : State), s.ring.link ≠ .lost ∨ s.ring.goodRun + 1 < 16 → exec (.relink f) s = .next s

/-- At the 100 ms mark of a loss every point is silent, activations complete at once, the call is IDLE, the radio
settles anew (01 1.3, 02 2.4, 04 4.5, 05 5.6, 07 7.8, 07 7.10, 08 8.7, 09 9.6, 10 10.2, 10 10.5). -/
def Obligations.LongLoss : Prop :=
  (∀ s : State, s.ring.link = .lost → s.ring.lossTimer = .running →
    let moded (m : DiversityMode) : AntennaUnit :=
      { (({ s.ant with fade := none } : AntennaUnit).changeMode m) with pendingMode := none }
    let first (u : AntennaUnit) : Fin 4 := match u.mode, u.pair with
      | .paired, x :: _ => x
      | _, _ => u.current
    let banks : List NoticeDetail := (underWay s.chan).map fun c => .bank c .immediate 0
    let calls : List NoticeDetail := if s.call.state = .idle then [] else
      .call .lost :: if s.uplink.echo = .off then [] else [.echo .off]
    let antennas : List NoticeDetail := match s.ant.fade, s.ant.pendingMode with
      | some _, some m => [.antenna (first (moded m)) (moded m).antennas[first (moded m)].present
          (moded m).antennas[first (moded m)].lastAbsence]
      | _, _ => []
    (∃ front, underWay s.chan = front ++ s.chan.queue) ∧
    ∃ t, exec .longLoss s = .next t ∧ t.ring = { s.ring with lossTimer := .reached } ∧
      (∀ i, (t.point i).current = 0 ∧ (t.point i).ramp = none ∧ (t.point i).step = (s.point i).step ∧
        (t.point i).linear = (s.point i).linear) ∧
      t.gain.startPending = true ∧ t.gain.curve = s.gain.curve ∧ t.gain.ramps = s.gain.ramps ∧
      t.gain.routeContext = s.gain.routeContext ∧ t.gain.outContext = s.gain.outContext ∧
      t.chan.queue = [] ∧ (∀ u : Fin 4, t.chan.fades[u] = none) ∧
      (BankInv s → ∀ c : Fin 28,
        let x := s.chan.channels[c]
        let y := t.chan.channels[c]
        (c ∈ underWay s.chan ↔ x.spare = .queued ∨ x.spare = .fading) ∧
        (x.spare = .loaded ∨ x.spare = .open_ → y = x) ∧
        (x.spare = .queued ∨ x.spare = .fading → y.spare = .loaded ∧ y.record = x.record ∧
          y.live = ⟨x.spareBank.stages, Vector.replicate 8 ⟨0, 0, 0, 0⟩⟩ ∧
          y.spareBank = ⟨x.live.stages, Vector.replicate 8 ⟨0, 0, 0, 0⟩⟩)) ∧
      t.call = { s.call with state := .idle } ∧
      (s.call.state ≠ .idle → t.uplink.echo = .off ∧ t.uplink.converge = 0 ∧ t.uplink.diverge = 0) ∧
      (s.call.state = .idle → t.uplink.echo = s.uplink.echo) ∧
      t.radio = { s.radio with blocksSinceTune := 0, pilot := false, pilotRun := 0, separation := 0, highCut := 7 } ∧
      (s.ant.fade = none ∨ s.ant.pendingMode = none → t.ant = { s.ant with fade := none }) ∧
      (∀ m, s.ant.fade ≠ none → s.ant.pendingMode = some m → t.ant = moded m) ∧
      t.uplink.fading = false ∧ t.uplink.changePending = false ∧
      t.uplink.live = (if s.uplink.fading then 1 - s.uplink.live else s.uplink.live) ∧
      t.uplink.selections[t.uplink.live] = selectionOf s.uplink.beams s.call.placement ∧
      t.mix = s.mix ∧ t.prot = s.prot ∧
      t.msg = { s.msg with deferred := s.msg.deferred ++ banks ++ calls ++ antennas }) ∧
  ∀ s : State, s.ring.link ≠ .lost ∨ s.ring.lossTimer ≠ .running → exec .longLoss s = .next s

/-- Message assembly: what each command word of a processed frame does, and the sixty-fifth frame period without one
(02 2.1, 02 2.2). -/
def Obligations.MessageGapTimeout : Prop :=
  (
    (∀ (s : State) (h : Word) (b : List Word) (o : Bool) (g : Nat), s.ring.link = .linked →
      s.msg.assembly = .assembling h b o g →
      exec .messageGapTimeout s = .next (if g < 64 then s else s.setMsg { s.msg with
        assembly := .empty, broken := min 65535 (s.msg.broken + 1) })) ∧
    (∀ (s : State) (g : Nat), s.ring.link = .linked → s.msg.assembly = .skipping g →
      exec .messageGapTimeout s = .next (if g < 64 then s else s.setMsg { s.msg with assembly := .empty })) ∧
    ∀ s : State, s.ring.link ≠ .linked ∨ s.msg.assembly = .empty → exec .messageGapTimeout s = .next s) ∧
  (∀ (f : Frame) (s : State), s.ring.link = .linked →
    ∃ (u : State) (e : Bool),
      u.ring.link = .linked ∧ u.ring.position = (if f.hop = 15 then none else some (f.hop + 1)) ∧
      u.msg.assembly = s.msg.assembly ∧ u.msg.broken = s.msg.broken ∧ u.msg.checkFailed = s.msg.checkFailed ∧
      u.msg.dropped = s.msg.dropped ∧ u.msg.cursor = s.msg.cursor ∧ u.msg.op = s.msg.op ∧
      exec (.goodFrame f) s = .next (enterNotice u.msg.queue.isEmpty (settleReset
        (if s.running then endOfFrame f e (takeCommand f u) else takePath (takeCommand f u))))) ∧
  ∀ (f : Frame) (u : State),
    let w := f.cword
    let dest := field w 31 28
    let ours : Prop := dest = 0 ∨ ∃ p : Node, u.ring.position = some p ∧ p.toNat = dest
    let put (a : Assembly) : State := u.setMsg { u.msg with assembly := a }
    let broken := min 65535 (u.msg.broken + 1)
    (f.ctype = .idle → takeCommand f u = match u.msg.assembly with
      | .empty => u
      | .assembling h b o g => if g < 64 then put (.assembling h b o (g + 1)) else
          u.setMsg { u.msg with assembly := .empty, broken := broken }
      | .skipping g => if g < 64 then put (.skipping (g + 1)) else put .empty) ∧
    (f.ctype = .head →
      let n := match u.msg.assembly with | .assembling .. => broken | _ => u.msg.broken
      (ours → takeCommand f u = u.setMsg { u.msg with assembly := .assembling w [] false 0, broken := n }) ∧
      (¬ours → takeCommand f u = u.setMsg { u.msg with assembly := .skipping 0, broken := n })) ∧
    (f.ctype = .body → takeCommand f u = match u.msg.assembly with
      | .empty => u
      | .assembling h b o _ => if b.length < 15 then put (.assembling h (b ++ [w]) o 0) else put (.assembling h b true 0)
      | .skipping _ => put (.skipping 0)) ∧
    (f.ctype = .check →
      (u.msg.assembly = .empty → takeCommand f u = u) ∧
      (∀ g, u.msg.assembly = .skipping g → takeCommand f u = put .empty) ∧
      ∀ (h : Word) (b : List Word) (o : Bool) (g : Nat), u.msg.assembly = .assembling h b o g →
        let sound : Prop := o = false ∧ b.length = field h 17 14 ∧ (h :: b ++ [w]).sum = 0
        (¬sound → takeCommand f u =
          u.setMsg { u.msg with assembly := .empty, checkFailed := min 65535 (u.msg.checkFailed + 1) }) ∧
        ∀ (k : BitVec 6) (r : Request), k.toNat = field h 23 18 → r.dest.toNat = field h 31 28 →
          r.origin.toNat = field h 27 24 → r.tag.toNat = field h 7 0 → r.payload = b → sound → u.linked = true →
          r.dest = 0 ∨ u.ring.position = some r.dest →
          exec (.badKindRequest k r) (put .empty) = .next (settleReset (takePath (takeCommand f u))))

/-- A notice enters the empty queue; the head message leaves word by word and sums to zero; what notice and reply
words hold (02 2.3, 02 2.4, 01 1.4, 02 2.1, 02 2.2, 02 2.7). -/
def Obligations.SendingQueue : Prop :=
  (
    (∀ (s : State) (p : Node) (n : Notice) (rest : List Notice), s.ring.link = .linked → s.ring.position = some p →
      s.msg.queue = [] → s.msg.notices = n :: rest →
      exec .noticeEntersQueue s = .next (s.setMsg { s.msg with
        queue := [⟨noticeKind n.detail.kind, s.msg.noticeSeq, noticeFirst n :: noticeSecond n, false⟩]
        notices := rest
        noticeSeq := s.msg.noticeSeq + 1 })) ∧
    (∀ s : State, s.ring.link ≠ .linked ∨ s.ring.position = none ∨ s.msg.queue ≠ [] ∨ s.msg.notices = [] →
      exec .noticeEntersQueue s = .next s) ∧
    (∀ (s : State) (p : Node) (m : OutMessage) (rest : List OutMessage) (w : WordType × Word), s.ring.link = .linked →
      s.ring.position = some p → s.msg.queue = m :: rest → (messageWords m p)[s.msg.sent]? = some w →
      exec .messageWordSent s = .next ((s.setRing { s.ring with replyWritten := some ⟨w.1, p, w.2⟩ }).setMsg
        (if w.1 = .check then
          { s.msg with queue := rest, sent := 0, resetPhase := if m.resets then .due else s.msg.resetPhase }
         else { s.msg with sent := s.msg.sent + 1 }))) ∧
    ∀ s : State, s.ring.link ≠ .linked ∨ s.ring.position = none ∨ s.msg.queue = [] → exec .messageWordSent s = .next s) ∧
  (
    ∀ (m : OutMessage) (p : Node), m.body.length ≤ 15 →
      ∃ h k : Word, messageWords m p = (.head, h) :: m.body.map (fun w => (WordType.body, w)) ++ [(.check, k)] ∧
        field h 31 28 = 0 ∧ field h 27 24 = p.toNat ∧ field h 23 18 = m.kind.toNat ∧ field h 17 14 = m.body.length ∧
        field h 7 0 = m.tag.toNat ∧ ((messageWords m p).map Prod.snd).sum = 0) ∧
  (let at_ (n : Nat) (v : Nat) : Nat := v * 2 ^ n
   let where_ (p : Option Node) : Nat := match p with | none => 0 | some x => x.toNat
   let flag (b : Bool) : Nat := if b then 1 else 0
   let source (x : Source) : Nat := match x with
    | .radio => 0 | .mediaA => 1 | .mediaB => 2 | .mediaC => 3 | .prompt => 4 | .chime => 5 | .call => 6
   ∀ n : Notice, n.count ≤ 255 →
    let holds (code details : Nat) (second : List Word) : Prop := (noticeKind n.detail.kind).toNat = code ∧
      (noticeFirst n).toNat = at_ 24 n.count + details ∧ noticeSecond n = second
    match n.detail with
    | .state op => holds 0x21 (match op with | .config => 0 | .run => 1 | .stopping => 2 | .pattern => 3) []
    | .link moved long p q => holds 0x22 (at_ 20 (flag moved) + at_ 16 (flag long) + at_ 4 (where_ p) + where_ q) []
    | .bank c x i => i ≤ 7 →
      holds 0x23 (at_ 16 c.val + at_ 8 (match x with | .swapped => 0 | .unstable => 1 | .immediate => 2) + i) []
    | .claim y x held => ∃ w : Word, w.toNat = n.changed.toNat % 32 ∧
      holds 0x24 (at_ 16 (y.val + 3) + at_ 8 (source x) + if held then 2 else 0) [w]
    | .protect c e => ∃ w : Word, w.toNat = n.changed.toNat ∧ holds 0x25 (at_ 16 c.val + match e with
        | .tier1Active => 0 | .tier1Left => 1 | .tier2Active => 2 | .tier2Left => 3 | .latched => 4) [w]
    | .antenna a here long => long ≤ 65535 → holds 0x26 (at_ 20 (flag here) + at_ 16 a.val + long) []
    | .reception x y => ∀ w : Word, w.toNat = y →
      holds 0x27 (match x with | .good => 0 | .fair => 1 | .poor => 2) [w]
    | .call x => holds 0x28 (match x with | .ended => 0 | .stopped => 1 | .lost => 2) []
    | .echo x => holds 0x29 (match x with | .off => 0 | .converging => 1 | .converged => 2) []
    | .dropped x => x ≤ 65535 → holds 0x2A x []) ∧
  ∀ (code : ResultCode) (kind : BitVec 6) (detail : Nat), detail ≤ 65535 →
    let w := replyFirst code kind detail
    field w 31 28 = (match code with
      | .ok => 0 | .accepted => 1 | .badKind => 2 | .badArg => 3 | .state => 4 | .mode => 5 | .busy => 6 | .denied => 7
      | .taken => 8 | .noCursor => 9 | .overrun => 10 | .unstable => 11 | .mapping => 12) ∧
    field w 27 22 = kind.toNat ∧ field w 21 16 = 0 ∧ field w 15 0 = detail

/-- Checks 2 to 5 of a request: length, PATTERN, permission, operating state; the first that fails answers (02 2.2,
02 2.5). -/
def Obligations.RefusalOrder : Prop :=
  ∀ (k : RequestKind) (r : Request) (s : State),
    let needed : Option Nat := match k with
      | .patternEnter => some 5
      | .radioTune => some 2
      | .tableWrite => none
      | .tableOpen | .tableRead | .routeSet | .zoneSet | .zoneMute | .zoneLock | .zoneSource | .bankActivate
      | .protectClear | .radioMode | .callAlert | .callConnect | .callMove => some 1
      | .state | .start | .stop | .reset | .patternExit | .tableClose | .callHold | .callResume | .callEnd => some 0
    let longEnough : Prop := ∀ n, needed = some n → r.payload.length = n
    let inPattern : Prop := k = .state ∨ k = .tableRead ∨ k = .patternEnter ∨ k = .patternExit ∨ k = .reset
    let zone := field (r.payload.getD 0 0) 31 28
    let mayAsk : Prop := r.origin = 0 ∨ k = .state ∨
      ((k = .zoneSet ∨ k = .zoneMute ∨ k = .zoneSource) ∧
        ∃ z : Fin 5, 3 ≤ z.val ∧ z.val = zone ∧ s.mix.zones[z].panel = r.origin ∧ s.mix.zones[z].lock = false)
    let takenNow : Prop := match k with
      | .state | .tableRead | .reset => True
      | .start => s.msg.op = .config
      | .stop | .callAlert | .callConnect | .callHold | .callResume | .callMove | .callEnd => s.msg.op = .run
      | .patternEnter => s.msg.op ≠ .stopping
      | .patternExit => s.msg.op = .pattern
      | .tableOpen | .tableWrite | .tableClose | .routeSet | .zoneSet | .zoneMute | .zoneLock | .zoneSource
      | .bankActivate | .protectClear | .radioMode | .radioTune => s.msg.op = .config ∨ s.msg.op = .run
    (Passes k r s ↔ longEnough ∧ (s.msg.op = .pattern → inPattern) ∧ mayAsk ∧ takenNow) ∧
    (Ready r s →
      (¬longEnough → exec (requestInstr k r) s = .next (answered (requestCode k) r .badArg 65535 [] s)) ∧
      (longEnough → s.msg.op = .pattern → ¬inPattern →
        exec (requestInstr k r) s = .next (answered (requestCode k) r .mode 0 [] s)) ∧
      (longEnough → (s.msg.op = .pattern → inPattern) → ¬mayAsk →
        exec (requestInstr k r) s = .next (answered (requestCode k) r .denied 0 [] s)) ∧
      (longEnough → (s.msg.op = .pattern → inPattern) → mayAsk → ¬takenNow →
        exec (requestInstr k r) s = .next (answered (requestCode k) r .state 0 [] s)))

/-- A request that is not taken: the full queue drops it, a pending reset discards it, another node's is passed over
(02 2.1, 02 2.2, 02 2.3, 02 2.5). -/
def Obligations.RequestsNotTaken : Prop :=
  ∀ (k : RequestKind) (r : Request) (s : State), s.uplink.pathRaised = false →
    (s.linked = true → r.dest ≠ 0 → s.ring.position = some r.dest → s.msg.resetPhase = .none →
      4 ≤ s.msg.queue.length →
      let n := min 65535 (s.msg.dropped + 1)
      exec (requestInstr k r) s =
        .next (s.setMsg { s.msg with dropped := n, notices := postTo s.msg.notices (.dropped n) })) ∧
    (s.msg.resetPhase = .pending → exec (requestInstr k r) s = .next s) ∧
    (r.dest ≠ 0 → s.ring.position ≠ some r.dest → exec (requestInstr k r) s = .next s) ∧
    (s.linked = false → exec (requestInstr k r) s = .next s)

/-- A request of a code that is no request kind answers BAD_KIND; any other code is judged as its kind (log entry
30) (02 2.2, 02 2.7). -/
def Obligations.BadKindAnswered : Prop :=
  (∀ (code : BitVec 6) (r : Request) (s : State), Ready r s →
    code.toNat ∉ [1, 2, 3, 4, 5, 6, 8, 9, 10, 11, 16, 17, 18, 19, 20, 24, 25, 28, 29, 48, 49, 50, 51, 52, 53] →
    exec (.badKindRequest code r) s = .next (answered code r .badKind 0 [] s)) ∧
  ∀ (k : RequestKind) (r : Request) (s : State),
    exec (.badKindRequest (requestCode k) r) s = exec (requestInstr k r) s

/-- STATE answers OK with five words that hold the state's fields (02 2.5, 02 2.7). -/
def Obligations.StateReply : Prop :=
  ∀ (r : Request) (s : State), Ready r s → r.payload = [] → MessageInv s →
    (∀ c, s.msg.cursor = some c → c.index < 65536) →
    ∃ w1 w2 w3 w4 w5 : Word,
      exec (.state r) s = .next (answered 1 r .ok 0 [w1, w2, w3, w4, w5]
        { s with draws := if s.msg.cursor = none then s.draws + 1 else s.draws }) ∧
      field w1 1 0 = (match s.msg.op with | .config => 0 | .run => 1 | .stopping => 2 | .pattern => 3) ∧
      field w1 3 2 = (match s.msg.patternFrom with | .config => 0 | .run => 1 | .stopping => 2 | .pattern => 3) ∧
      field w1 7 4 = (match s.ring.position with | none => 0 | some p => p.toNat) ∧
      field w1 9 8 = (match s.ring.patternFormat with | .serial => 0 | .parallel => 1 | .staggered => 2) ∧
      bitAt w1 16 = s.msg.cursor.isSome ∧
      (∀ c, s.msg.cursor = some c → field w1 23 20 = tableNumber c.table ∧ bitAt w1 24 = c.activate ∧
        bitAt w1 25 = c.spare ∧ bitAt w1 26 = c.cont ∧ field w2 15 0 = c.index) ∧
      field w2 18 16 = s.msg.queue.length ∧
      (∀ kind : NoticeKind, bitAt w2 (20 + noticeIndex kind) = s.msg.notices.any fun n => n.detail.kind == kind) ∧
      field w3 31 16 = s.msg.broken ∧ field w3 15 0 = s.msg.checkFailed ∧
      field w4 15 0 = s.msg.dropped ∧ field w4 23 16 = s.msg.noticeSeq.toNat ∧
      field w5 2 0 = (match s.call.state with | .idle => 0 | .alerting => 1 | .active => 2 | .onHold => 3 | .closing => 4) ∧
      field w5 5 4 = s.call.placement.val ∧
      field w5 9 8 = (match s.uplink.echo with | .off => 0 | .converging => 1 | .converged => 2) ∧
      field w5 13 12 = (match s.uplink.talk with | .quiet => 0 | .farOnly => 1 | .nearOnly => 2 | .double => 3) ∧
      field w5 17 16 = (match s.radio.reception with | .good => 0 | .fair => 1 | .poor => 2) ∧
      bitAt w5 18 = s.radio.pilot ∧
      field w5 21 20 = (match s.ant.mode with | .fixed _ => 0 | .switched => 1 | .paired => 2) ∧
      field w5 23 22 = (match s.ant.mode with | .fixed a => a.val | _ => 0) ∧
      field w5 25 24 = s.ant.current.val ∧ bitAt w5 26 = s.ant.pendingMode.isSome

/-- Posting a notice: a kind that is not pending joins at the end, a pending kind is replaced in its place (02 2.4).
-/
def Obligations.NoticeMerging : Prop :=
  (∀ (set : List Notice) (d : NoticeDetail), (∀ n ∈ set, n.detail.kind ≠ d.kind) →
    postTo set d = set ++ [⟨d, 1, d.changed⟩]) ∧
  (∀ (front back : List Notice) (n : Notice) (d : NoticeDetail), n.detail.kind = d.kind →
    (∀ x ∈ front ++ back, x.detail.kind ≠ d.kind) →
    postTo (front ++ n :: back) d = front ++ ⟨d, min 255 (n.count + 1), n.changed ||| d.changed⟩ :: back) ∧
  (∀ (set : List Notice) (d : NoticeDetail), (set.map fun n => n.detail.kind).Nodup →
    ((postTo set d).map fun n => n.detail.kind).Nodup ∧ (postTo set d).length ≤ 10) ∧
  (∀ (c : Fin 28) (e : ProtectEvent) (i : Nat), (NoticeDetail.protect c e).changed.getLsbD i = decide (i = c.val)) ∧
  ∀ (z : Fin 2) (x : Source) (h : Bool) (i : Nat), (NoticeDetail.claim z x h).changed.getLsbD i = decide (i = 3 + z.val)

/-- When a slot map is valid, and which slot an invalid one names (01 1.5). -/
def Obligations.SlotMapValid : Prop :=
  ∀ m : Vector Role 96,
    let has (x : Role) : Prop := ∃ i : Fin 96, m[i] = x
    let half (x : Media) : Prop := ¬(has (.srcL x) ↔ has (.srcR x))
    let part (a : Fin 4) : Prop := (∃ n, has (.antI a n) ∨ has (.antQ a n)) ∧ ∃ n, ¬has (.antI a n) ∨ ¬has (.antQ a n)
    let offending (i : Fin 96) : Prop :=
      (m[i] ≠ .unused ∧ ∃ j : Fin 96, j.val < i.val ∧ m[j] = m[i]) ∨
      (∃ a, part a ∧ (∃ n, m[i] = .antI a n ∨ m[i] = .antQ a n) ∧
        ∀ j : Fin 96, j.val < i.val → ∀ n, m[j] ≠ .antI a n ∧ m[j] ≠ .antQ a n) ∨
      ∃ x, half x ∧ (m[i] = .srcL x ∨ m[i] = .srcR x) ∧
        ∀ j : Fin 96, j.val < i.val → m[j] ≠ .srcL x ∧ m[j] ≠ .srcR x
    (mapFault m = none ↔
      (∀ i j : Fin 96, m[i] = m[j] → m[i] ≠ .unused → i = j) ∧ (∀ a, ¬part a) ∧ ∀ x, ¬half x) ∧
    ∀ n, mapFault m = some n ↔ ∃ i : Fin 96, i.val = n ∧ offending i ∧ ∀ j : Fin 96, j.val < n → ¬offending j

/-- START: an invalid map answers MAPPING; a valid one takes the part to RUN with every point at zero (01 1.5, 02
2.5, 04 4.5, 05 5.2, 06 6.2, 07 7.3, 07 7.4, 07 7.6, 08 8.7, 10 10.1, 10 10.3, 10 10.5). -/
def Obligations.Start : Prop :=
  (∀ (r : Request) (s : State) (i : Nat), Ready r s → Passes .start r s → mapFault s.ring.slotMap = some i →
    exec (.start r) s = .next (answered 2 r .mapping i [] s)) ∧
  ∀ (r : Request) (s : State), Ready r s → Passes .start r s → mapFault s.ring.slotMap = none →
    ∃ t, exec (.start r) s = .next (answered 2 r .ok 0 [] t) ∧
      t.ring = s.ring ∧ t.mix = s.mix ∧ t.call = s.call ∧ t.prot.records = s.prot.records ∧
      t.prot.classes = s.prot.classes ∧ t.prot.count = s.prot.count ∧ t.pending = s.pending ∧ t.draws = s.draws ∧
      t.msg = { s.msg with
        op := .run
        notices := if s.radio.reception = .fair then s.msg.notices
          else postTo s.msg.notices (.reception .fair s.radio.frequency) } ∧
      t.gain = { s.gain.mapPoints (fun p => { p with current := 0, ramp := none }) with startPending := true } ∧
      t.chan.queue = s.chan.queue ∧ t.chan.fades = s.chan.fades ∧
      (∀ c : Fin 28, t.chan.channels[c].peak = 0 ∧ t.chan.channels[c].out = 0 ∧
        t.chan.channels[c].record = s.chan.channels[c].record ∧ t.chan.channels[c].spare = s.chan.channels[c].spare ∧
        t.chan.channels[c].live.stages = s.chan.channels[c].live.stages ∧
        t.chan.channels[c].spareBank = s.chan.channels[c].spareBank ∧
        ∀ i : Fin 8, t.chan.channels[c].live.history[i] = ⟨0, 0, 0, 0⟩) ∧
      (∀ a : Fin 4, t.prot.amps[a] = { s.prot.amps[a] with
        status := (ampSlot s.ring.slotMap a).isSome, overTempMark := false, clipMarks := 0 }) ∧
      (∀ a : Fin 4, t.ant.antennas[a] = { s.ant.antennas[a] with
        present := antennaMapped s.ring.slotMap a, absence := 0, score := 0 }) ∧
      t.ant.mode = s.ant.mode ∧ t.ant.record = s.ant.record ∧ t.ant.penalty = s.ant.penalty ∧ t.ant.fade = none ∧
      t.ant.powers = Vector.replicate 4 [] ∧ t.ant.corrSum = Vector.replicate 6 (0, 0) ∧
      t.ant.corrHeld = Vector.replicate 6 (0, 0) ∧
      (∀ a, s.ant.mode = .fixed a → antennaMapped s.ring.slotMap a = true → t.ant.current = a) ∧
      (s.ant.mode = .switched → t.ant.alert = none ∧
        (antennaMapped s.ring.slotMap s.ant.current = true → t.ant.current = s.ant.current)) ∧
      (s.ant.mode = .paired → t.ant.w1 = 128 ∧ t.ant.w2 = 128 ∧ t.ant.phase = 0 ∧
        t.ant.pair = ((List.finRange 4).filter fun a => antennaMapped s.ring.slotMap a).take 2) ∧
      t.radio.blocksSinceTune = 0 ∧ t.radio.pilot = false ∧ t.radio.pilotRun = 0 ∧ t.radio.separation = 0 ∧
      t.radio.highCut = 7 ∧ t.radio.softMute = .mute ∧ t.radio.reception = .fair ∧ t.radio.poorCount = 0 ∧
      t.radio.recoverCount = 0 ∧ t.radio.frequency = s.radio.frequency ∧ t.radio.identifier = s.radio.identifier ∧
      t.radio.blend = s.radio.blend ∧ t.radio.settle = s.ant.record.tuneSettle ∧ t.radio.lastSample = (0, 0) ∧
      t.radio.decoder = [] ∧ t.radio.delay = List.replicate 16 (0, 0) ∧ t.radio.cutLeft = [] ∧ t.radio.cutRight = [] ∧
      t.radio.multiplex = [] ∧
      (∀ m : Fin 6, t.uplink.mics[m] = List.replicate 32 0) ∧ t.uplink.filters = Vector.replicate 10 [] ∧
      t.uplink.references = Vector.replicate 10 [] ∧ t.uplink.residuals = [] ∧ t.uplink.peakF = 0 ∧ t.uplink.peakN = 0 ∧
      t.uplink.peakR = 0 ∧
      t.uplink.talk = .quiet ∧ t.uplink.nearQuiet = 0 ∧ t.uplink.farQuiet = 0 ∧ t.uplink.echo = .off ∧
      t.uplink.converge = 0 ∧ t.uplink.diverge = 0 ∧ t.uplink.out = 0 ∧ t.uplink.fading = false ∧
      t.uplink.changePending = false ∧ t.uplink.record = s.uplink.record ∧ t.uplink.beams = s.uplink.beams ∧
      t.uplink.selections[t.uplink.live] = selectionOf s.uplink.beams s.call.placement ∧
      t.uplink.selections[1 - t.uplink.live] = []

/-- STOP: the part is STOPPING, the call IDLE, every claim released (02 2.5, 03 3.5, 09 9.6, 10 10.5). -/
def Obligations.Stop : Prop :=
  ∀ (r : Request) (s : State), Ready r s → Passes .stop r s →
    ∃ t, exec (.stop r) s = .next (answered 3 r .accepted 0 [] t) ∧
      t.ring = s.ring ∧ t.chan = s.chan ∧ t.prot = s.prot ∧ t.ant = s.ant ∧ t.radio = s.radio ∧
      t.pending = s.pending ∧ t.draws = s.draws ∧
      t.msg = { s.msg with
        op := .stopping
        notices :=
          let calls : List NoticeDetail := if s.call.state = .idle then [] else
            (if s.uplink.echo = .off then [] else [.echo .off]) ++ [.call .stopped]
          let seat (z : Fin 2) : List NoticeDetail := match pendingOf s.mix z with
            | some c => [.claim z c.source false]
            | none => []
          (calls ++ seat 0 ++ seat 1).foldl postTo s.msg.notices } ∧
      t.call = { s.call with state := .idle } ∧
      t.mix.routes = s.mix.routes ∧
      t.mix.claims = (s.mix.claims.filter fun c => c.state != .pending).map (fun c => { c with state := .releasing }) ∧
      (∀ z : Fin 5, t.mix.zones[z] = if 3 ≤ z.val then { s.mix.zones[z] with seatMode := false } else s.mix.zones[z]) ∧
      (s.call.state = .idle → t.gain = s.gain ∧ t.uplink = s.uplink) ∧
      (s.call.state ≠ .idle →
        t.gain = { s.gain with
          feed := s.gain.feed.map (fun p => { p with current := 0, ramp := none })
          uplink := { s.gain.uplink with current := 0, ramp := none } } ∧
        t.uplink = { s.uplink with echo := .off, converge := 0, diverge := 0, out := 0 })

/-- RESET is answered first and takes effect when its reply has been sent; a broadcast one at once (02 2.5). -/
def Obligations.Reset : Prop :=
  let after (s : State) : State :=
    { State.reset with
      ring := { RingUnit.reset with
        link := s.ring.link
        goodRun := s.ring.goodRun
        badRun := s.ring.badRun
        lossTimer := s.ring.lossTimer
        frameSeen := s.ring.frameSeen
        position := s.ring.position
        transmitted := s.ring.transmitted
        replyWritten := s.ring.replyWritten }
      pending := s.pending
      draws := s.draws }
  (∀ (r : Request) (s : State), Ready r s → Passes .reset r s → r.dest ≠ 0 →
    exec (.reset r) s = .next (s.setMsg { s.msg with
      resetPhase := .pending
      queue := s.msg.queue ++ [⟨replyKind, r.tag, [replyFirst .ok 4 0], true⟩] })) ∧
  (∀ (r : Request) (s : State), Ready r s → Passes .reset r s → r.dest = 0 → exec (.reset r) s = .next (after s)) ∧
  (∀ s : State, s.msg.resetPhase = .due → exec .resetTakesEffect s = .next (after s)) ∧
  ∀ s : State, s.msg.resetPhase ≠ .due → exec .resetTakesEffect s = .next s

/-- PATTERN ENTER takes the format and words and remembers the state it came from; PATTERN EXIT goes back to it (01
1.7). -/
def Obligations.PatternEnterExit : Prop :=
  (∀ (r : Request) (s : State), Ready r s → Passes .patternEnter r s → field (argument r 0) 1 0 = 3 →
    exec (.patternEnter r) s = .next (answered 5 r .badArg 0 [] s)) ∧
  (∀ (r : Request) (s : State) (f : PatternFormat), Ready r s → Passes .patternEnter r s →
    field (argument r 0) 1 0 = (match f with | .serial => 0 | .parallel => 1 | .staggered => 2) →
    (∀ i, s.msg.op = .config → mapFault s.ring.slotMap = some i →
      exec (.patternEnter r) s = .next (answered 5 r .mapping i [] s)) ∧
    (s.msg.op ≠ .config ∨ mapFault s.ring.slotMap = none →
      exec (.patternEnter r) s = .next (answered 5 r .ok 0 []
        ((s.setRing { s.ring with
          pattern := #v[(argument r 1).setWidth 24, (argument r 2).setWidth 24, (argument r 3).setWidth 24,
            (argument r 4).setWidth 24]
          patternFormat := f }).setMsg
          { s.msg with op := .pattern, patternFrom := if s.msg.op = .pattern then s.msg.patternFrom else s.msg.op })))) ∧
  ∀ (r : Request) (s : State), Ready r s → Passes .patternExit r s →
    exec (.patternExit r) s = .next (answered 6 r .ok 0 [] (s.setMsg { s.msg with op := s.msg.patternFrom }))

/-- TABLE OPEN: BAD_ARG, STATE or BUSY with the cursor as it stood; otherwise the cursor replaces any other (02 2.6,
05 5.3). -/
def Obligations.TableOpen : Prop :=
  ∀ (r : Request) (s : State), Ready r s → Passes .tableOpen r s →
    let w := argument r 0
    let t := tableOf (field w 31 28)
    let i := field w 15 0
    let ch : Fin 28 := Fin.ofNat 28 (i / 8)
    let bad : Prop := tableEntries t ≤ i ∨ (bitAt w 26 = true ∧ t ≠ .coef) ∨ (bitAt w 26 = false ∧ t = .coef) ∨
      (bitAt w 25 = true ∧ bitAt w 26 = false)
    let locked : Prop := s.msg.op ≠ .config ∧ ¬(s.msg.op = .run ∧ t ∉ [Table.slotMap, .channel, .route, .zone])
    let busy : Prop := t = .coef ∧ (s.chan.channels[ch].spare = .queued ∨ s.chan.channels[ch].spare = .fading)
    (bad → exec (.tableOpen r) s = .next (answered 8 r .badArg 0 [] s)) ∧
    (¬bad → locked → exec (.tableOpen r) s = .next (answered 8 r .state 0 [] s)) ∧
    (¬bad → ¬locked → busy → exec (.tableOpen r) s = .next (answered 8 r .busy 0 [] s)) ∧
    (¬bad → ¬locked → ¬busy →
      let u := match s.msg.cursor with
        | some c => if c.table = Table.coef then setSpareState c.chan .loaded s else s
        | none => s
      let v := u.setMsg { u.msg with cursor := some ⟨t, i, ch, bitAt w 27, bitAt w 26, bitAt w 25⟩ }
      exec (.tableOpen r) s =
        .next (answered 8 r .ok 0 [] (if t = Table.coef then setSpareState ch .open_ v else v)))

/-- TABLE WRITE: refused without effect on any table, or entries written in order until a fault; BEAM in RUN may be
a beam change (02 2.6, 10 10.2). -/
def Obligations.TableWrite : Prop :=
  (
    let aborted (c : Cursor) (s : State) : State :=
      let t := s.setMsg { s.msg with cursor := none }
      if c.table = Table.coef then setSpareState c.chan .loaded t else t
    (∀ (r : Request) (s : State), Ready r s → Passes .tableWrite r s → s.msg.cursor = none →
      exec (.tableWrite r) s = .next (answered 9 r .noCursor 0 [] s)) ∧
    ∀ (r : Request) (s : State) (c : Cursor), Ready r s → Passes .tableWrite r s → s.msg.cursor = some c →
      (r.payload.length % entryWords c.table ≠ 0 →
        exec (.tableWrite r) s = .next (answered 9 r .badArg 65535 [] (aborted c s))) ∧
      (r.payload.length % entryWords c.table = 0 → tableWritable c.table s.msg.op = false →
        exec (.tableWrite r) s = .next (answered 9 r .state 0 [] (aborted c s)))) ∧
  (
    ∀ (r : Request) (s : State) (c : Cursor), Ready r s → Passes .tableWrite r s → s.msg.cursor = some c →
      tableWritable c.table s.msg.op = true → r.payload.length % entryWords c.table = 0 →
      (c.table ≠ .beam ∨ s.msg.op ≠ .run) →
      let w := entryWords c.table
      let all := r.payload.length / w
      let entry (i : Nat) : List Word := (r.payload.drop (w * i)).take w
      let last := if c.table = Table.coef then c.chan.val * 8 + 8 else tableEntries c.table
      ∃ (n : Nat) (u : State), n ≤ all ∧
        (List.range n).foldlM (fun t i => writeEntry c.table (c.index + i) (entry i) t) s = some u ∧
        (∀ i < n, c.index + i < last) ∧
        let v := u.setMsg { u.msg with cursor := some { c with index := c.index + n } }
        (n = all ∧ exec (.tableWrite r) s =
            .next (answered 9 r .ok n [] (if c.cont then v else closeCursor true v))) ∨
        (n < all ∧ last ≤ c.index + n ∧ exec (.tableWrite r) s =
            .next (answered 9 r .overrun n [] (closeCursor false v))) ∨
        (n < all ∧ c.index + n < last ∧ writeEntry c.table (c.index + n) (entry n) u = none ∧
          exec (.tableWrite r) s = .next (answered 9 r .badArg (c.index + n) [] (closeCursor false v)))) ∧
  (
    ∀ (r : Request) (s : State) (c : Cursor), Ready r s → Passes .tableWrite r s → s.msg.cursor = some c →
      c.table = .beam → s.msg.op = .run →
      let u := s.uplink
      let n := min r.payload.length (24 - c.index)
      let code : ResultCode := if n = r.payload.length then .ok else .overrun
      let used := u.selections[if u.fading then 1 - u.live else u.live]
      let touched : Prop := ∃ b ∈ used, ∃ i, i < n ∧ (c.index + i) / 6 = b.seat.val
      ∃ beams : Vector BeamEntry 24,
        (∀ (i : Fin 24) (k : Nat) (w : Word), i.val = c.index + k → k < n → r.payload[k]? = some w →
          beams[i].delay.val = field w 20 16 ∧ beams[i].weight = (w.setWidth 16 : BitVec 16).toInt) ∧
        (∀ i : Fin 24, i.val < c.index ∨ c.index + n ≤ i.val → beams[i] = u.beams[i]) ∧
        (let v := (s.setUplink { u with beams := beams }).setMsg { s.msg with
          cursor := if n = r.payload.length ∧ c.cont = true then some { c with index := c.index + n } else none }
         (¬touched → exec (.tableWrite r) s = .next (answered 9 r code n [] v)) ∧
         (touched → u.fading = true → exec (.tableWrite r) s =
          .next (answered 9 r code n [] (v.setUplink { v.uplink with changePending := true }))) ∧
         (touched → u.fading = false → exec (.tableWrite r) s =
          .next (answered 9 r code n [] (pathEffect (v.setUplink { v.uplink with
            selections := u.selections.set (1 - u.live) (selectionOf beams s.call.placement), fading := true }))))))

/-- What one table entry stores, clamped, which entries are structurally wrong, and that nothing else changes (01
1.5, 02 2.7, 03 3.2, 03 3.3, 04 4.3, 04 4.4, 05 5.1, 05 5.3, 06 6.1, 07 7.5, 09 9.3, 10 10.4). -/
def Obligations.EntryStored : Prop :=
  let hold (lo hi : Int) (c : Nat) : Step := if c = 512 then .mute
    else .steps (max lo (min hi (if c < 512 then (c : Int) else (c : Int) - 1024)))
  let level (lo hi : Int) (c : Nat) : Int := if c = 512 then lo
    else max lo (min hi (if c < 512 then (c : Int) else (c : Int) - 1024))
  let high (w : Word) : Nat := max 1 (field w 31 16)
  let low (w : Word) : Nat := max 1 (field w 15 0)
  let peak (w : Word) : Nat := min 8388607 (field w 23 0)
  ∀ (s : State) (w : Word),
    (∀ a : Fin 4, writeEntry .amp a.val [w] s = some (s.setProt { s.prot with
      amps := s.prot.amps.set a { s.prot.amps[a] with limit := field w 7 0 } })) ∧
    (∀ i : Fin 32, writeEntry .penalty i.val [w] s = some (s.setAnt { s.ant with
      penalty := s.ant.penalty.set i (field w 6 0) })) ∧
    (∀ i : Fin 256, writeEntry .curve i.val [w] s = some (s.setGain { s.gain with
      curve := s.gain.curve.set i (hold (-320) 16 (field w 9 0)) })) ∧
    (∀ i : Fin 40, writeEntry .duck i.val [w] s = some (s.setCall { s.call with
      ducks := s.call.ducks.set i (hold (-320) 0 (field w 9 0)) })) ∧
    (∀ i : Fin 20, writeEntry .placement i.val [w] s = some (s.setCall { s.call with
      placements := s.call.placements.set i (hold (-320) 32 (field w 9 0)) })) ∧
    (∀ i : Fin 32, writeEntry .blend i.val [w] s = some (s.setRadio { s.radio with
      blend := s.radio.blend.set i ⟨min 16 (field w 28 24), field w 18 16, hold (-320) 0 (field w 9 0)⟩ })) ∧
    (∀ i : Fin 24, ∃ d : Fin 32, d.val = field w 20 16 ∧
      writeEntry .beam i.val [w] s = some (s.setUplink { s.uplink with
        beams := s.uplink.beams.set i ⟨d, ((w.setWidth 16 : BitVec 16)).toInt⟩ })) ∧
    (∀ z : Fin 5, ∃ k : Fin 4, k.val = field w 31 30 ∧
      writeEntry .zone z.val [w] s = some (s.setMix { s.mix with
        zones := s.mix.zones.set z { s.mix.zones[z] with
          curve := k
          panel := BitVec.ofNat 4 (field w 29 26)
          cap := if 3 ≤ z.val then level (-320) 0 (field w 25 16) else s.mix.zones[z].cap } })) ∧
    (∀ (c : Fin 28) (i : Fin 8) (b0 b1 b2 a1 a2 : Word), ∃ y : Channel,
      writeEntry .coef (c.val * 8 + i.val) [b0, b1, b2, a1, a2] s = some (s.setChan { s.chan with
        channels := s.chan.channels.set c y }) ∧
      (let x := s.chan.channels[c]
       y.live = x.live ∧ y.liveB = x.liveB ∧ y.spare = x.spare ∧ y.record = x.record ∧ y.peak = x.peak ∧ y.out = x.out ∧
       y.spareBank = ⟨x.spareBank.stages.set i
        ⟨(b0.setWidth 24 : BitVec 24).toInt, (b1.setWidth 24 : BitVec 24).toInt, (b2.setWidth 24 : BitVec 24).toInt,
          (a1.setWidth 24 : BitVec 24).toInt, (a2.setWidth 24 : BitVec 24).toInt⟩, x.spareBank.history⟩)) ∧
    (∀ (k : Fin 4) (w1 w2 w3 w4 w5 w6 w7 : Word),
      let wrong : Prop := peak w < peak w1 ∨ peak w2 < peak w3
      (wrong → writeEntry .protect k.val [w, w1, w2, w3, w4, w5, w6, w7] s = none) ∧
      (¬wrong → writeEntry .protect k.val [w, w1, w2, w3, w4, w5, w6, w7] s = some (s.setProt { s.prot with
        records := Vector.ofFn fun c =>
          let r := s.prot.records[c]
          if s.chan.channels[c].record.cls = k then { r with
            restart1 := r.restart1 || (s.prot.classes[k].t1Time == 0 && field w4 31 16 != 0)
            restart2 := r.restart2 || (s.prot.classes[k].t2Time == 0 && field w4 15 0 != 0) } else r
        classes := s.prot.classes.set k {
          t1Level := peak w, t1Recover := peak w1, t2Level := peak w2, t2Recover := peak w3
          t1Time := field w4 31 16, t2Time := field w4 15 0, recoverTime := high w5, fastHold := low w5
          latchWindow := high w6, derateFactor := field w6 15 8, latchCount := field w6 3 0
          t1Reduce := level (-320) 0 (field w7 29 20), fastReduce := level (-320) 0 (field w7 19 10)
          derateBand := min 100 (field w7 6 0) } }))) ∧
    (∀ w1 w2 w3 : Word, writeEntry .ramp 0 [w, w1, w2, w3] s = some (s.setGain { s.gain with ramps := {
      route := high w, volume := low w, attack := high w1, release := low w1
      claim := high w2, call := low w2, stop := low w3 } })) ∧
    (∀ w1 w2 w3 : Word,
      let part (x : Word) (hi lo : Nat) : Nat := min 127 (field x hi lo)
      let t := s.setAnt { s.ant with record := {
        switchLevel := part w 31 24, hysteresis := part w 23 16, margin := part w 15 8, pairMargin := part w 7 0
        goodLevel := part w1 31 24, poorLevel := part w1 23 16, tuneSettle := field w1 15 0
        dwell := high w2, pairDwell := low w2, poorTime := high w3, recoverTime := low w3 } }
      writeEntry .radio 0 [w, w1, w2, w3] s =
        some (if s.msg.op = .run then t else t.setRadio { s.radio with settle := field w1 15 0 })) ∧
    (∀ w1 w2 w3 w4 w5 : Word, writeEntry .echo 0 [w, w1, w2, w3, w4, w5] s = some (s.setUplink { s.uplink with record := {
      farThreshold := peak w, nearThreshold := peak w1, nearRelax := high w2, farRelax := low w2
      convergeBlocks := high w3, divergeBlocks := low w3, convergeLevel := field w4 23 16, divergeLevel := field w4 15 8
      pathStep := field w4 7 0, attenuation := level (-320) 0 (field w5 9 0) } })) ∧
    (∀ i : Fin 32,
      let st := field w 31 30
      let src := field w 29 27
      let zone := field w 26 24
      let duck := field w 21 20
      let again : Prop := ∃ j : Fin 32, j ≠ i ∧ s.mix.routes[j].state ≠ .empty ∧
        sourceCode s.mix.routes[j].source = src ∧ s.mix.routes[j].zone.val = zone
      let zero (x : RouteRecord) : State := (s.setMix { s.mix with routes := s.mix.routes.set i x }).setGain
        { s.gain with route := s.gain.route.set i { s.gain.route[i] with current := 0, ramp := none } }
      (st = 0 → writeEntry .route i.val [w] s = some (zero ⟨.empty, .radio, 0, 0, .none⟩)) ∧
      (st = 3 ∨ (st ≠ 0 ∧ (6 ≤ src ∨ 5 ≤ zone ∨ duck = 3 ∨ again)) → writeEntry .route i.val [w] s = none) ∧
      (st = 1 ∨ st = 2 → src ≤ 5 → zone ≤ 4 → duck ≤ 2 → ¬again →
        ∃ x : RouteRecord, writeEntry .route i.val [w] s = some (zero x) ∧
          x.state = (if st = 1 then .enabled else .disabled) ∧ sourceCode x.source = src ∧ x.zone.val = zone ∧
          duckCode x.duck = duck ∧ x.trim = level (-320) 32 (field w 9 0))) ∧
    (∀ c : Fin 28,
      let zone := field w 22 20
      let side := field w 19 18
      let amp := field w 14 12
      let again : Prop := ∃ (d : Fin 28) (a : Fin 4), d ≠ c ∧ s.chan.channels[d].record.amp = some a ∧ a.val = amp ∧
        s.chan.channels[d].record.ampChannel.val = field w 26 24
      let wrong : Prop := zone = 5 ∨ zone = 6 ∨ side = 3 ∨ amp = 4 ∨ amp = 5 ∨ amp = 6 ∨
        (24 ≤ c.val ∧ (zone ≤ 2 ∨ amp ≠ 7)) ∨ again
      (wrong → writeEntry .channel c.val [w] s = none) ∧
      (¬wrong → ∃ x : ChannelRecord, writeEntry .channel c.val [w] s = some (s.setChan { s.chan with
          channels := s.chan.channels.set c { s.chan.channels[c] with record := x } }) ∧
        (x.zone = none ↔ zone = 7) ∧ (∀ z, x.zone = some z → z.val = zone) ∧ sideCode x.side = side ∧
        (x.amp = none ↔ amp = 7) ∧ (∀ a, x.amp = some a → a.val = amp) ∧ x.cls.val = field w 17 16 ∧
        x.ampChannel.val = field w 26 24 ∧ x.trim = level (-320) 32 (field w 9 0))) ∧
    ∀ i : Fin 96,
      let code := field w 31 24
      let x := field w 23 16
      let n := field w 15 8
      let names (r : Role) : Prop := match r with
        | .unused => code = 0
        | .antI a k => code = 1 ∧ x = a.val ∧ n = k.val
        | .antQ a k => code = 2 ∧ x = a.val ∧ n = k.val
        | .mic m => code = 3 ∧ x = m.val
        | .srcL m => code = 4 ∧ x = mediaCode m
        | .srcR m => code = 5 ∧ x = mediaCode m
        | .srcM m => code = 6 ∧ x = monoCode m
        | .out c => code = 7 ∧ x = c.val
        | .uplink => code = 8
        | .amp a => code = 9 ∧ x = a.val
      (∀ r, names r → writeEntry .slotMap i.val [w] s = some (s.setRing { s.ring with
        slotMap := s.ring.slotMap.set i r })) ∧
      ((∀ r, ¬names r) → writeEntry .slotMap i.val [w] s = none)

/-- TABLE CLOSE closes cleanly; TABLE READ returns whole entries as their tables hold them and disturbs nothing (02
2.6, 02 2.7, 03 3.2, 03 3.5, 05 5.3, 06 6.2). -/
def Obligations.TableCloseRead : Prop :=
  (∀ (r : Request) (s : State), Ready r s → Passes .tableClose r s →
    (s.msg.cursor = none → exec (.tableClose r) s = .next (answered 10 r .ok 0 [] s)) ∧
    ∀ c, s.msg.cursor = some c → (c.table ≠ .coef ∨ c.activate = false) →
      let t := s.setMsg { s.msg with cursor := none }
      exec (.tableClose r) s =
        .next (answered 10 r .ok 0 [] (if c.table = Table.coef then setSpareState c.chan .loaded t else t))) ∧
  (∀ (r : Request) (s : State), Ready r s → Passes .tableRead r s →
    let w := argument r 0
    let t := tableOf (field w 31 28)
    let i := field w 15 0
    (tableEntries t ≤ i ∨ (bitAt w 26 = true ∧ t ≠ .coef) →
      exec (.tableRead r) s = .next (answered 11 r .badArg 0 [] s)) ∧
    (i < tableEntries t → (bitAt w 26 = true → t = .coef) →
      let fit : Nat := match t with | .coef => 2 | .protect | .radio | .echo | .ramp => 1 | _ => 14
      ∃ n, n = min (min (field w 23 16) (tableEntries t - i)) fit ∧
        exec (.tableRead r) s = .next (answered 11 r .ok n
          ((List.range n).flatMap fun k => readEntry s t (bitAt w 26) (i + k)) s))) ∧
  (∀ (s : State) (b : Bool),
    (∀ i : Fin 96, readEntry s .slotMap b i.val = [wordOfRole s.ring.slotMap[i]]) ∧
    (∀ i : Fin 28, readEntry s .channel b i.val = [wordOfChannel s.chan.channels[i].record]) ∧
    (∀ i : Fin 32, readEntry s .route b i.val = [wordOfRoute s.mix.routes[i]]) ∧
    (∀ i : Fin 256, readEntry s .curve b i.val = [wordOf [stepCode s.gain.curve[i]]]) ∧
    (∀ i : Fin 40, readEntry s .duck b i.val = [wordOf [stepCode s.call.ducks[i]]]) ∧
    (∀ i : Fin 20, readEntry s .placement b i.val = [wordOf [stepCode s.call.placements[i]]]) ∧
    (∀ (c : Fin 28) (i : Fin 8),
      readEntry s .coef false (8 * c.val + i.val) = wordsOfStage s.chan.channels[c].live.stages[i] ∧
      readEntry s .coef true (8 * c.val + i.val) = wordsOfStage s.chan.channels[c].spareBank.stages[i]) ∧
    (∀ i : Fin 4, readEntry s .protect b i.val = wordsOfClass s.prot.classes[i]) ∧
    (∀ i : Fin 24, readEntry s .beam b i.val = [wordOfBeam s.uplink.beams[i]]) ∧
    (∀ i : Fin 32, readEntry s .penalty b i.val = [wordOf [s.ant.penalty[i]]]) ∧
    (∀ i : Fin 32, readEntry s .blend b i.val = [wordOfBlend s.radio.blend[i]]) ∧
    readEntry s .radio b 0 = wordsOfRadio s.ant.record ∧ readEntry s .echo b 0 = wordsOfEcho s.uplink.record ∧
    readEntry s .ramp b 0 = wordsOfRamps s.gain.ramps ∧
    (∀ a : Fin 4, s.prot.amps[a].limit ≤ 255 → s.prot.amps[a].temperature ≤ 255 → ∃ w, readEntry s .amp b a.val = [w] ∧
      field w 7 0 = s.prot.amps[a].limit ∧ field w 15 8 = s.prot.amps[a].temperature ∧
      bitAt w 16 = s.prot.amps[a].status ∧ bitAt w 17 = s.prot.amps[a].overTemp ∧ field w 31 18 = 0) ∧
    ∀ z : Fin 5, ∃ w, readEntry s .zone b z.val = [w] ∧
      (let x := s.mix.zones[z]
       let claims : List Claim := s.mix.claims.filter fun c => c.zone.val + 3 == z.val
       let shown : Option Claim := match claims.find? fun c => c.state != .releasing with
        | some c => some c
        | none => claims.head?
       field w 31 30 = x.curve.val ∧ field w 29 26 = x.panel.toNat ∧
       (-320 ≤ x.cap → x.cap ≤ 0 → (x.cap < 0 → field w 25 16 = (1024 + x.cap).toNat) ∧ (x.cap = 0 → field w 25 16 = 0)) ∧
       field w 15 10 = x.volume.val ∧ bitAt w 9 = x.mute ∧ bitAt w 8 = x.seatMode ∧ bitAt w 2 = x.lock ∧
       field w 1 0 = 0 ∧
       (shown = none → field w 7 5 = 7 ∧ field w 4 3 = 0) ∧
       ∀ c, shown = some c → field w 4 3 = (match c.state with | .pending => 1 | .held => 2 | .releasing => 3) ∧
        field w 7 5 = match c.source with
          | .radio => 0 | .mediaA => 1 | .mediaB => 2 | .mediaC => 3 | .prompt => 4 | .chime => 5 | .call => 6))

/-- ROUTE SET, ZONE SET, ZONE MUTE and ZONE LOCK store their fields and nothing else (03 3.3, 02 2.7, 03 3.2). -/
def Obligations.RouteAndZoneRequests : Prop :=
  (
    ∀ (r : Request) (s : State), Ready r s → Passes .routeSet r s →
      let w := argument r 0
      let st := field w 23 22
      let duck := field w 21 20
      let code := field w 9 0
      let trim : Int := if code = 512 then -320
        else max (-320) (min 32 (if code < 512 then (code : Int) else (code : Int) - 1024))
      (31 < field w 31 24 ∨ st = 0 ∨ st = 3 ∨ duck = 3 → exec (.routeSet r) s = .next (answered 16 r .badArg 0 [] s)) ∧
      ∀ i : Fin 32, i.val = field w 31 24 →
        (s.mix.routes[i].state = .empty → exec (.routeSet r) s = .next (answered 16 r .badArg 0 [] s)) ∧
        (s.mix.routes[i].state ≠ .empty → st = 1 ∨ st = 2 → duck ≤ 2 →
          exec (.routeSet r) s = .next (answered 16 r .ok 0 [] (s.setMix { s.mix with
            routes := s.mix.routes.set i { s.mix.routes[i] with
              state := if st = 1 then .enabled else .disabled
              duck := if duck = 0 then .none else if duck = 1 then .media else .prompt
              trim := trim } })))) ∧
  (
    ∀ (r : Request) (s : State), Ready r s →
      let w := argument r 0
      let zone := field w 31 28
      let put (z : Fin 5) (x : ZoneRecord) : State := s.setMix { s.mix with zones := s.mix.zones.set z x }
      (Passes .zoneSet r s →
        (4 < zone → exec (.zoneSet r) s = .next (answered 17 r .badArg 0 [] s)) ∧
        ∀ (z : Fin 5) (v : Fin 64), z.val = zone → v.val = min 63 (field w 7 0) →
          exec (.zoneSet r) s = .next (answered 17 r .ok 0 [] (put z { s.mix.zones[z] with volume := v }))) ∧
      (Passes .zoneMute r s →
        (4 < zone → exec (.zoneMute r) s = .next (answered 18 r .badArg 0 [] s)) ∧
        ∀ z : Fin 5, z.val = zone →
          exec (.zoneMute r) s = .next (answered 18 r .ok 0 [] (put z { s.mix.zones[z] with mute := w.getLsbD 0 }))) ∧
      (Passes .zoneLock r s →
        (4 < zone → exec (.zoneLock r) s = .next (answered 19 r .badArg 0 [] s)) ∧
        ∀ z : Fin 5, z.val = zone →
          exec (.zoneLock r) s = .next (answered 19 r .ok 0 [] (put z { s.mix.zones[z] with lock := w.getLsbD 0 }))))

/-- ZONE SOURCE: refusals, the cases that change no claim, a release, and a new claim (03 3.5). -/
def Obligations.ZoneSource : Prop :=
  ∀ (r : Request) (s : State), Ready r s → Passes .zoneSource r s →
    let w := argument r 0
    let src := field w 2 0
    let done (code : ResultCode) (detail : Nat) (t : State) : Prop :=
      exec (.zoneSource r) s = .next (answered 20 r code detail [] t)
    let mode (z : Fin 2) (on : Bool) (t : State) : State := t.setMix { t.mix with
      zones := t.mix.zones.set (seatZone z) { t.mix.zones[seatZone z] with seatMode := on } }
    let list (l : List Claim) (t : State) : State := t.setMix { t.mix with claims := l }
    let releasing (z : Fin 2) : List Claim :=
      s.mix.claims.map fun c => if c.zone = z ∧ c.state = .held then { c with state := .releasing } else c
    let without (z : Fin 2) (x : ClaimState) : List Claim :=
      s.mix.claims.filter fun c => !(c.zone == z && c.state == x)
    (field w 31 28 ≠ 3 ∧ field w 31 28 ≠ 4 ∨ 4 ≤ src ∧ src ≤ 6 → done .badArg 0 s) ∧
    ∀ z : Fin 2, field w 31 28 = z.val + 3 →
      (src = 7 → claimOf s.mix z = none → done .ok 0 (mode z false s)) ∧
      (∀ c, src = 7 → claimOf s.mix z = some c → c.state = .pending →
        done .ok 0 (mode z false (postNotice (.claim z c.source false) (list (without z .pending) s)))) ∧
      (∀ c, src = 7 → claimOf s.mix z = some c → c.state = .held →
        (s.msg.op = .run → done .accepted 0 (mode z false (list (releasing z) s))) ∧
        (s.msg.op = .config → ClaimInv s →
          done .ok 0 (mode z false (postNotice (.claim z c.source false)
            (silencePoint (.seat z) (list (without z .held) s)))))) ∧
      ∀ x : Source, sourceCode x = src → src ≤ 3 →
        (∀ c, claimOf s.mix (1 - z) = some c → c.source = x → done .taken (3 + (1 - z).val) s) ∧
        ((∀ c, claimOf s.mix (1 - z) = some c → c.source ≠ x) →
          (∀ c, claimOf s.mix z = some c → c.source = x → done .ok 0 s) ∧
          (claimOf s.mix z = none → s.msg.op = .run →
            done .accepted 0 (mode z true (list (s.mix.claims ++ [⟨z, x, .pending⟩]) s))) ∧
          (∀ c, claimOf s.mix z = some c → c.source ≠ x → c.state = .pending → s.msg.op = .run →
            done .accepted 0 (mode z true (list (without z .pending ++ [⟨z, x, .pending⟩])
              (postNotice (.claim z c.source false) s)))) ∧
          (∀ c, claimOf s.mix z = some c → c.source ≠ x → c.state = .held → s.msg.op = .run →
            done .accepted 0 (mode z true (list (releasing z ++ [⟨z, x, .pending⟩]) s))) ∧
          ((∀ c ∈ s.mix.claims, c.zone ≠ z) → s.msg.op = .config →
            done .ok 0 (postNotice (.claim z x true) (silencePoint (.seat z) (silenceShared x
              (mode z true (list (s.mix.claims ++ [⟨z, x, .held⟩]) s)))))) ∧
          (∀ c, claimOf s.mix z = some c → c.source ≠ x → c.state = .held → s.msg.op = .config → ClaimInv s →
            done .ok 0 (postNotice (.claim z x true) (postNotice (.claim z c.source false)
              (silencePoint (.seat z) (silenceShared x
                (mode z true (list (without z .held ++ [⟨z, x, .held⟩]) s))))))))

/-- CLAIM_HELD and CLAIM_NONE: when a claim becomes HELD or reaches NONE, and what follows (03 3.5). -/
def Obligations.ClaimEvents : Prop :=
  ∀ (s : State) (z : Fin 2), s.active = true → s.uplink.pathRaised = false →
    (∀ c, pendingOf s.mix z = some c →
      (∀ i : Fin 32, s.mix.routes[i].state ≠ .empty → s.mix.routes[i].source = c.source →
        s.mix.routes[i].zone.val ≤ 2 → s.gain.route[i].current = 0) →
      (∀ d ∈ s.mix.claims, d.zone = z → d.state ≠ .releasing) →
      exec (.claimHeld z) s = .next (postNotice (.claim z c.source true) (s.setMix { s.mix with
        claims := s.mix.claims.map fun d => if d.zone = z ∧ d.state = .pending then { d with state := .held } else d }))) ∧
    (pendingOf s.mix z = none ∨ (∃ d ∈ s.mix.claims, d.zone = z ∧ d.state = .releasing) ∨
      (∃ (c : Claim) (i : Fin 32), pendingOf s.mix z = some c ∧ s.mix.routes[i].state ≠ .empty ∧
        s.mix.routes[i].source = c.source ∧ s.mix.routes[i].zone.val ≤ 2 ∧ s.gain.route[i].current ≠ 0) →
      exec (.claimHeld z) s = .next s) ∧
    (∀ c, releasingOf s.mix z = some c → s.gain.seat[z].current = 0 →
      exec (.claimNone z) s = .next (postNotice (.claim z c.source false) (s.setMix { s.mix with
        claims := s.mix.claims.filter fun d => !(d.zone == z && d.state == .releasing) }))) ∧
    (releasingOf s.mix z = none ∨ s.gain.seat[z].current ≠ 0 → exec (.claimNone z) s = .next s)

/-- BANK ACTIVATE, and a clean close with ACTIVATE-ON-CLOSE: tested, then queued in RUN or swapped in CONFIG (05
5.4, 02 2.6). -/
def Obligations.BankActivate : Prop :=
  let queued (c : Fin 28) (s : State) : State := s.setChan { s.chan with
    channels := s.chan.channels.set c { s.chan.channels[c] with spare := .queued }
    queue := s.chan.queue ++ [c] }
  let fresh (b : Bank) : Bank := ⟨b.stages, Vector.replicate 8 ⟨0, 0, 0, 0⟩⟩
  let swapped (x y : Channel) : Prop := y.record = x.record ∧ y.peak = x.peak ∧ y.out = x.out ∧ y.liveB = !x.liveB ∧
    y.live = fresh x.spareBank ∧ y.spareBank = fresh x.live ∧ y.spare = .loaded
  let only (c : Fin 28) (s t : State) : Prop :=
    { t with chan := s.chan, msg := s.msg } = s ∧ t.chan.queue = s.chan.queue ∧ t.chan.fades = s.chan.fades ∧
      (∀ d : Fin 28, d ≠ c → t.chan.channels[d] = s.chan.channels[d]) ∧ swapped s.chan.channels[c] t.chan.channels[c]
  (∀ (r : Request) (s : State), Ready r s → Passes .bankActivate r s →
    (27 < field (argument r 0) 7 0 → exec (.bankActivate r) s = .next (answered 24 r .badArg 0 [] s)) ∧
    ∀ c : Fin 28, c.val = field (argument r 0) 7 0 →
      (s.chan.channels[c].spare ≠ .loaded → exec (.bankActivate r) s = .next (answered 24 r .busy 0 [] s)) ∧
      (s.chan.channels[c].spare = .loaded →
        (∀ i, failingStage s.chan.channels[c].spareBank = some i →
          exec (.bankActivate r) s = .next (answered 24 r .unstable i.val [] s)) ∧
        (failingStage s.chan.channels[c].spareBank = none →
          (s.msg.op = .run → exec (.bankActivate r) s = .next (answered 24 r .accepted 0 [] (queued c s))) ∧
          (s.msg.op = .config → ∃ t, exec (.bankActivate r) s = .next (answered 24 r .ok 0 [] t) ∧ t.msg = s.msg ∧
            only c s t)))) ∧
  ∀ (r : Request) (s : State) (k : Cursor), Ready r s → Passes .tableClose r s → s.msg.cursor = some k →
    k.table = .coef → k.activate = true →
    let c := k.chan
    let u := setSpareState c .loaded (s.setMsg { s.msg with cursor := none })
    (∀ i, failingStage s.chan.channels[c].spareBank = some i →
      exec (.tableClose r) s = .next (answered 10 r .ok 0 [] (postNotice (.bank c .unstable i.val) u))) ∧
    (failingStage s.chan.channels[c].spareBank = none →
      (s.msg.op = .run → exec (.tableClose r) s = .next (answered 10 r .ok 0 [] (queued c u))) ∧
      (s.msg.op = .config → ∃ t, exec (.tableClose r) s = .next (answered 10 r .ok 0 [] t) ∧
        t.msg = { s.msg with cursor := none, notices := postTo s.msg.notices (.bank c .immediate 0) } ∧ only c s t))

/-- Free units take the oldest queued channels; a fade blends the banks; its end makes the spare live and serves the
queue (05 5.2, 05 5.5, 10 10.5). -/
def Obligations.BankCrossfades : Prop :=
  let rested (b : Bank) : Bank := ⟨b.stages, Vector.replicate 8 ⟨0, 0, 0, 0⟩⟩
  (∀ s : State, s.active = true → s.uplink.pathRaised = false →
    let free (u : Fin 4) : Bool := s.chan.fades[u].isNone
    let below (u : Fin 4) : Nat := ((List.finRange 4).filter fun v => decide (v.val < u.val) && free v).length
    let all := ((List.finRange 4).filter free).length
    ∃ t, exec .activationQueueServed s = .next t ∧ { t with chan := s.chan } = s ∧
      t.chan.queue = s.chan.queue.drop all ∧
      (∀ u : Fin 4, free u = true →
        t.chan.fades[u] = (s.chan.queue[below u]?).map fun c => (⟨c, 0⟩ : BankFade)) ∧
      (∀ u : Fin 4, free u = false → t.chan.fades[u] = s.chan.fades[u]) ∧
      (∀ c : Fin 28, c ∉ s.chan.queue.take all → t.chan.channels[c] = s.chan.channels[c]) ∧
      ∀ c : Fin 28, c ∈ s.chan.queue.take all →
        t.chan.channels[c].spare = .fading ∧ t.chan.channels[c].live = s.chan.channels[c].live ∧
        t.chan.channels[c].spareBank = rested s.chan.channels[c].spareBank ∧
        t.chan.channels[c].record = s.chan.channels[c].record ∧ t.chan.channels[c].peak = s.chan.channels[c].peak ∧
        t.chan.channels[c].out = s.chan.channels[c].out) ∧
  (∀ s : State, s.active = true → s.chan.queue = [] ∨ (∀ u : Fin 4, s.chan.fades[u] ≠ none) →
    exec .activationQueueServed s = .next s) ∧
  (∀ (s : State) (u : Fin 4) (f : BankFade), s.active = true → s.uplink.pathRaised = false →
    s.chan.fades[u] = some f → 511 ≤ f.count →
    let c := f.channel
    ∃ t v, exec (.bankFadeEnd u) s = .next (pathEffect v) ∧
      exec .activationQueueServed (postNotice (.bank c .swapped 0) t) = .next v ∧ { t with chan := s.chan } = s ∧
      t.chan.queue = s.chan.queue ∧ t.chan.fades = s.chan.fades.set u none ∧
      (∀ d : Fin 28, d ≠ c → t.chan.channels[d] = s.chan.channels[d]) ∧
      t.chan.channels[c].live = s.chan.channels[c].spareBank ∧
      t.chan.channels[c].spareBank = rested s.chan.channels[c].live ∧
      t.chan.channels[c].spare = .loaded ∧ t.chan.channels[c].record = s.chan.channels[c].record ∧
      t.chan.channels[c].peak = s.chan.channels[c].peak ∧ t.chan.channels[c].out = s.chan.channels[c].out) ∧
  (∀ (s : State) (u : Fin 4), (∀ f, s.chan.fades[u] = some f → f.count < 511) → exec (.bankFadeEnd u) s = .next s) ∧
  ∀ (x : Channel) (f : BankFade) (gain : Nat) (buses : Vector (Int × Int) 5),
    let sat (v : Int) : Int := max (-8388608) (min 8388607 v)
    let y := channelStep x (some f) gain buses
    ∃ p q : Fin 9 → Int,
      p 0 = (match x.record.zone, x.record.side with
        | none, _ => 0
        | some z, .left => buses[z].1
        | some z, .right => buses[z].2
        | some z, .sum => (buses[z].1 + buses[z].2) / 2) ∧ q 0 = p 0 ∧
      (∀ i : Fin 8, stageStep x.live.stages[i] x.live.history[i] (p i.castSucc) = (y.live.history[i], p i.succ)) ∧
      (∀ i : Fin 8, stageStep x.spareBank.stages[i] x.spareBank.history[i] (q i.castSucc) =
        (y.spareBank.history[i], q i.succ)) ∧
      y.out = sat (((p 8 * (512 - (f.count : Int)) + q 8 * f.count + 256) / 512 * gain + 2 ^ 19) / 2 ^ 20) ∧
      y.live.stages = x.live.stages ∧ y.spareBank.stages = x.spareBank.stages ∧ y.spare = x.spare

/-- PROTECT CLEAR returns one channel's protection record, or all of them, to reset values (06 6.4, 10 10.5). -/
def Obligations.ProtectClear : Prop :=
  let fresh : ProtectRecord := ⟨⟨.clear, 0⟩, ⟨.clear, 0⟩, false, false, 0, [], .steps 0, false, false⟩
  ∀ (r : Request) (s : State), Ready r s → Passes .protectClear r s →
    let n := field (argument r 0) 7 0
    (28 ≤ n ∧ n ≤ 254 → exec (.protectClear r) s = .next (answered 25 r .badArg 0 [] s)) ∧
    (∀ c : Fin 28, c.val = n →
      let t := s.setProt { s.prot with records := s.prot.records.set c fresh }
      exec (.protectClear r) s = .next (answered 25 r .ok 0 []
        (if s.msg.op = .run ∧ s.prot.records[c].reduction ≠ .steps 0 then pathEffect t else t))) ∧
    (n = 255 →
      let t := s.setProt { s.prot with records := Vector.replicate 28 fresh }
      exec (.protectClear r) s = .next (answered 25 r .ok 0 []
        (if s.msg.op = .run ∧ ∃ c : Fin 28, s.prot.records[c].reduction ≠ .steps 0 then pathEffect t else t)))

/-- RADIO MODE: stored in CONFIG, pending during a crossfade, otherwise the change of the mode table (07 7.8). -/
def Obligations.RadioMode : Prop :=
  let better (u : AntennaUnit) (a b : Fin 4) : Prop :=
    u.antennas[b].score < u.antennas[a].score ∨ (u.antennas[a].score = u.antennas[b].score ∧ a.val < b.val)
  let there (u : AntennaUnit) (a : Fin 4) : Prop := u.antennas[a].present = true
  let chosen (u : AntennaUnit) (a b : Fin 4) : Prop :=
    (there u a → b = a) ∧ (¬there u a → there u u.current → b = u.current) ∧
    (¬there u a → ¬there u u.current → (∃ c, there u c) → there u b ∧ ∀ c, there u c → c = b ∨ better u b c) ∧
    ((∀ c, ¬there u c) → b = u.current)
  ∀ (r : Request) (s : State), Ready r s → Passes .radioMode r s →
    let u := s.ant
    let code := field (argument r 0) 1 0
    let toward (t : AntennaUnit) : Prop := exec (.radioMode r) s = .next (answered 28 r .ok 0 [] (s.setAnt t))
    (code = 3 → exec (.radioMode r) s = .next (answered 28 r .badArg 0 [] s)) ∧
    ∀ (m : DiversityMode), (match m with
        | .fixed a => code = 0 ∧ field (argument r 0) 5 4 = a.val | .switched => code = 1 | .paired => code = 2) →
      (s.msg.op = .config → toward { u with mode := m }) ∧
      (s.msg.op = .run → u.fade.isSome → exec (.radioMode r) s =
        .next (answered 28 r .accepted 0 [] (s.setAnt { u with pendingMode := some m }))) ∧
      (s.msg.op = .run → u.fade = none →
        (m = u.mode → toward u) ∧
        (∀ a, m = .fixed a → u.mode ≠ m → u.mode ≠ .paired → ∃ b, chosen u a b ∧
          toward { u with mode := m, current := b, fade := if b = u.current then none else some ⟨.antenna u.current, b, 0⟩ }) ∧
        (∀ a, m = .fixed a → u.mode = .paired → ∃ b,
          (there u a → b = a) ∧ (¬there u a → ∀ x l, u.pair = x :: l → b = x) ∧
          (¬there u a → u.pair = [] → chosen u a b) ∧
          toward { u with mode := m, current := b, fade := some ⟨.pair u.pair u.w1 u.w2 u.phase, b, 0⟩ }) ∧
        (m = .switched → (∃ a, u.mode = .fixed a) → toward { u with mode := m, alert := none }) ∧
        (m = .switched → u.mode = .paired →
          let b := match u.pair with | x :: _ => x | [] => u.current
          toward { u with mode := m, current := b, alert := none, fade := some ⟨.pair u.pair u.w1 u.w2 u.phase, b, 0⟩ }) ∧
        (m = .paired → u.mode ≠ .paired → ∃ t, toward t ∧
          { t with mode := u.mode, pair := u.pair, challenge := u.challenge, w1 := u.w1, w2 := u.w2, phase := u.phase } = u ∧
          t.mode = .paired ∧ t.challenge = Vector.replicate 4 0 ∧
          (∀ a ∈ t.pair, there u a ∧ ∀ b, there u b → b ∉ t.pair → better u a b) ∧
          t.pair.length = min 2 ((List.finRange 4).filter fun a => u.antennas[a].present).length ∧
          (∀ a b, t.pair = [a, b] → better u a b ∧ t.w1 = firstWeight u.antennas[a].score u.antennas[b].score ∧
            t.w2 = 256 - t.w1 ∧ t.phase = nearestDirection (correlationOf u a b))))

/-- RADIO TUNE: a frequency out of range, a repeat tune, a change of station (08 8.6, 07 7.9). -/
def Obligations.RadioTune : Prop :=
  ∀ (r : Request) (s : State), Ready r s → Passes .radioTune r s →
    let f := field (argument r 0) 15 0
    let id : Option (BitVec 16) := if (argument r 0).getLsbD 31 then some ((argument r 1).setWidth 16) else none
    let afresh (t : State) : State := t.setAnt { t.ant with alert := none, challenge := Vector.replicate 4 0 }
    (f < 8750 ∨ 10800 < f → exec (.radioTune r) s = .next (answered 29 r .badArg 0 [] s)) ∧
    (8750 ≤ f → f ≤ 10800 → s.radio.frequency = f → s.radio.identifier = id →
      exec (.radioTune r) s = .next (answered 29 r .ok 0 [] (afresh s))) ∧
    (8750 ≤ f → f ≤ 10800 → s.radio.frequency ≠ f ∨ s.radio.identifier ≠ id →
      let t := afresh (s.setRadio { s.radio with
        frequency := f, identifier := id, blocksSinceTune := 0, pilot := false, pilotRun := 0, separation := 0
        highCut := 7, reception := .fair, poorCount := 0, recoverCount := 0 })
      exec (.radioTune r) s = .next (answered 29 r .ok 0 []
        (if s.radio.reception = .fair then t else postNotice (.reception .fair f) t)))

/-- CALL ALERT, CALL CONNECT and CALL MOVE in every call state (09 9.5, 10 10.2, 10 10.5). -/
def Obligations.CallAlertConnectMove : Prop :=
  let place (p : Fin 4) (s : State) : State :=
    let t := s.setCall { s.call with placement := p }
    if p = s.call.placement then t
    else if s.uplink.fading then t.setUplink { s.uplink with changePending := true }
    else pathEffect (t.setUplink { s.uplink with
      selections := s.uplink.selections.set (1 - s.uplink.live) (selectionOf s.uplink.beams p), fading := true })
  ∀ (r : Request) (s : State), Ready r s →
    let p : Fin 4 := Fin.ofNat 4 (field (argument r 0) 1 0)
    let g := field (argument r 0) 9 0
    let gain : Int := if g = 512 then -320 else max (-320) (min 32 (if g < 512 then (g : Int) else (g : Int) - 1024))
    (Passes .callAlert r s → exec (.callAlert r) s = .next (match s.call.state with
      | .idle => answered 48 r .ok 0 [] (place p (s.setCall { s.call with state := .alerting }))
      | .closing => answered 48 r .busy 0 [] s
      | .alerting | .active | .onHold => answered 48 r .state 0 [] s)) ∧
    (Passes .callConnect r s → exec (.callConnect r) s = .next (match s.call.state with
      | .idle | .alerting =>
        let t := (s.setCall { s.call with state := .active, uplinkGain := gain }).setUplink
          { s.uplink with filters := Vector.replicate 10 [], echo := .converging, converge := 0, diverge := 0 }
        answered 49 r .ok 0 [] (if s.uplink.echo = .converging then t else postNotice (.echo .converging) t)
      | .closing => answered 49 r .busy 0 [] s
      | .active | .onHold => answered 49 r .state 0 [] s)) ∧
    (Passes .callMove r s → exec (.callMove r) s = .next (match s.call.state with
      | .alerting | .active | .onHold => answered 52 r .ok 0 [] (place p s)
      | .idle | .closing => answered 52 r .state 0 [] s))

/-- CALL HOLD, CALL RESUME and CALL END in every call state (09 9.5, 10 10.5). -/
def Obligations.CallHoldResumeEnd : Prop :=
  let echo (e : EchoState) (s : State) : State :=
    let t := s.setUplink { s.uplink with echo := e, converge := 0, diverge := 0 }
    if s.uplink.echo = e then t else postNotice (.echo e) t
  ∀ (r : Request) (s : State), Ready r s →
    (Passes .callHold r s → exec (.callHold r) s = .next (match s.call.state with
      | .active => answered 50 r .ok 0 [] (echo .off (s.setCall { s.call with state := .onHold }))
      | .idle | .alerting | .onHold | .closing => answered 50 r .state 0 [] s)) ∧
    (Passes .callResume r s → exec (.callResume r) s = .next (match s.call.state with
      | .onHold => answered 51 r .ok 0 [] (echo .converging (s.setCall { s.call with state := .active }))
      | .idle | .alerting | .active | .closing => answered 51 r .state 0 [] s)) ∧
    (Passes .callEnd r s → exec (.callEnd r) s = .next (match s.call.state with
      | .alerting | .active | .onHold =>
        answered 53 r .accepted 0 [] (echo .off (s.setCall { s.call with state := .closing, closingArmed := false }))
      | .closing => answered 53 r .accepted 0 [] s
      | .idle => answered 53 r .ok 0 [] s))

/-- CLOSING_ENDS: feeds and uplink point at zero and no ducking ramp end a closing with a CALL notice (09 9.5). -/
def Obligations.ClosingEnds : Prop :=
  ∀ s : State, s.uplink.pathRaised = false →
    let silent : Prop := (∀ z : Fin 5, s.gain.feed[z].current = 0) ∧ s.gain.uplink.current = 0 ∧
      ∀ (i : Fin 32) (x : Ramp), s.gain.route[i].ramp = some x → x.cause ≠ .ducking
    let due : Prop := s.active = true ∧ s.msg.op ≠ .stopping ∧ s.call.state = .closing ∧ s.call.closingArmed = true ∧ silent
    (due → exec .closingEnds s =
      .next (postNotice (.call .ended) (s.setCall { s.call with state := .idle }))) ∧
    (¬due → exec .closingEnds s = .next s)

/-- STOPPING_REACHES_CONFIG: every output point at zero brings CONFIG, silence, and an end to all that was under way
(02 2.5, 03 3.5, 04 4.5, 05 5.6, 07 7.8, 07 7.10, 10 10.2). -/
def Obligations.StoppingReachesConfig : Prop :=
  (∀ s : State, s.linked = true → s.msg.op = .stopping → s.uplink.pathRaised = false → BankInv s →
    (∀ c : Fin 28, s.gain.out[c].current = 0) →
    ∃ t, exec .stoppingReachesConfig s = .next t ∧
      t.ring = s.ring ∧ t.call = s.call ∧ t.radio = s.radio ∧ t.prot = s.prot ∧ t.mix.routes = s.mix.routes ∧
      t.mix.zones = s.mix.zones ∧ t.msg.op = .config ∧ t.msg.queue = s.msg.queue ∧ t.msg.cursor = s.msg.cursor ∧
      (∃ n ∈ t.msg.notices, n.detail = .state .config) ∧
      (∀ i, t.point i = { s.point i with current := 0, ramp := none }) ∧
      t.mix.claims = s.mix.claims.filter (fun c => c.state != .releasing) ∧
      t.chan.queue = [] ∧ t.chan.fades = Vector.replicate 4 none ∧
      (∀ c : Fin 28,
        let x := s.chan.channels[c]
        let y := t.chan.channels[c]
        (x.spare = .loaded ∨ x.spare = .open_ → y = x) ∧
        (x.spare = .queued ∨ x.spare = .fading → y.spare = .loaded ∧ y.record = x.record ∧
          y.live = ⟨x.spareBank.stages, Vector.replicate 8 ⟨0, 0, 0, 0⟩⟩ ∧
          y.spareBank = ⟨x.live.stages, Vector.replicate 8 ⟨0, 0, 0, 0⟩⟩)) ∧
      (s.ant.pendingMode = none → t.ant = { s.ant with fade := none }) ∧
      (s.ant.fade = none → t.ant = s.ant) ∧
      (∀ m, s.ant.fade ≠ none → s.ant.pendingMode = some m →
        let u := { (({ s.ant with fade := none } : AntennaUnit).changeMode m) with pendingMode := none }
        let a : Fin 4 := match u.mode, u.pair with
          | .paired, x :: _ => x
          | _, _ => u.current
        t.ant = u ∧ u.mode = m ∧
          ∃ n ∈ t.msg.notices, n.detail = .antenna a u.antennas[a].present u.antennas[a].lastAbsence) ∧
      t.uplink.fading = false ∧ t.uplink.changePending = false ∧
      t.uplink.live = (if s.uplink.fading then 1 - s.uplink.live else s.uplink.live) ∧
      t.uplink.selections[t.uplink.live] = selectionOf s.uplink.beams s.call.placement ∧
      t.uplink.echo = s.uplink.echo ∧ t.uplink.filters = s.uplink.filters) ∧
  ∀ s : State, s.msg.op ≠ .stopping ∨ s.linked = false ∨ (∃ c : Fin 28, s.gain.out[c].current ≠ 0) →
    exec .stoppingReachesConfig s = .next s

/-- A ramp runs by its step and lands on its target; GAIN_RAMP_END is its last frame (04 4.4). -/
def Obligations.Ramps : Prop :=
  (
    ∀ (p : GainPoint) (t : Step) (n : Nat) (cause : RampCause), 1 ≤ n →
      let goal := linearOf t
      let d : Int := ((goal : Int) - p.current).tdiv n
      let after (k : Nat) : GainPoint := GainPoint.advance^[k] (p.retarget t n cause)
      (goal ≠ p.linear → goal ≠ p.current →
        (∀ k, k < n → (after k).step = t ∧ (after k).linear = goal ∧
          ((after k).current : Int) = p.current + k * d ∧
          (after k).ramp = some ⟨p.current, d, n, n - k, cause⟩) ∧
        after n = ⟨t, goal, goal, none⟩ ∧
        ∀ k, min p.current goal ≤ (after k).current ∧ (after k).current ≤ max p.current goal) ∧
      (goal ≠ p.linear → goal = p.current → p.retarget t n cause = ⟨t, goal, p.current, none⟩) ∧
      (goal = p.linear → p.retarget t n cause = { p with step := t })) ∧
  (
    (∀ (i : GainId) (s : State) (x : Ramp), s.active = true → s.uplink.pathRaised = false →
      (s.point i).ramp = some x → x.left ≤ 1 →
      ∃ t, exec (.gainRampEnd i) s = .next t ∧ t.point i = { s.point i with current := (s.point i).linear, ramp := none } ∧
        (∀ j, j ≠ i → t.point j = s.point j) ∧
        { t with gain := s.gain } = s ∧ t.gain.curve = s.gain.curve ∧ t.gain.ramps = s.gain.ramps ∧
        t.gain.routeContext = s.gain.routeContext ∧ t.gain.outContext = s.gain.outContext ∧
        t.gain.startPending = s.gain.startPending) ∧
    ∀ (i : GainId) (s : State), (∀ x, (s.point i).ramp = some x → 1 < x.left) → exec (.gainRampEnd i) s = .next s)

/-- TIER_TRIP: the last superframe of an alert trips the tier, with reduction, history, latch and notices (06 6.2,
06 6.3, 06 6.4). -/
def Obligations.TierTrip : Prop :=
  ∀ (c : Fin 28) (s : State), s.active = true → s.uplink.pathRaised = false →
    let ch := s.chan.channels[c]
    let k := s.prot.classes[ch.record.cls]
    let r := s.prot.records[c]
    let hot : Prop := ∃ a, ch.record.amp = some a ∧ s.prot.amps[a].status = true ∧
      (s.prot.amps[a].limit : Int) - k.derateBand ≤ s.prot.amps[a].temperature
    let stands (level : Nat) : Prop := (¬hot → level ≤ ch.peak) ∧
      (hot → level - level * k.derateFactor / 256 ≤ ch.peak)
    let due1 : Prop := ch.record.zone ≠ none ∧ k.t1Time ≠ 0 ∧ r.restart1 = false ∧ r.tier1.state = .alert ∧ r.tier1.timer ≤ 1 ∧ stands k.t1Level
    let due2 : Prop := ch.record.zone ≠ none ∧ k.t2Time ≠ 0 ∧ r.restart2 = false ∧ r.tier2.state = .alert ∧ r.tier2.timer ≤ 1 ∧ stands k.t2Level
    let put (x : ProtectRecord) (notes : List NoticeDetail) : State :=
      let t := postNotices notes (s.setProt { s.prot with records := s.prot.records.set c x })
      if x.reduction = r.reduction then t else pathEffect t
    (due1 →
      let part : Int := k.t1Reduce + (if r.fastHold then k.fastReduce else 0)
      let red : Step := if r.tier2.state = .active ∨ r.tier2.state = .recovery ∨ r.latched then .mute else .steps part
      exec (.tierTrip c .one) s =
        .next (put { r with tier1 := ⟨.active, 0⟩, reduction := red } [.protect c .tier1Active])) ∧
    (due2 →
      let kept := r.trips.dropWhile fun t => decide (k.latchWindow ≤ (s.prot.count - t).toNat)
      let trips := (if 15 ≤ kept.length then kept.drop 1 else kept) ++ [s.prot.count]
      let latched : Bool := r.latched || (k.latchCount != 0 && decide (k.latchCount ≤ trips.length))
      exec (.tierTrip c .two) s =
        .next (put { r with tier2 := ⟨.active, 0⟩, trips := trips, latched := latched, reduction := .mute }
          (.protect c .tier2Active :: if latched && !r.latched then [.protect c .latched] else []))) ∧
    (¬due1 → exec (.tierTrip c .one) s = .next s) ∧ (¬due2 → exec (.tierTrip c .two) s = .next s)

/-- TIER_RECOVERED and FAST_HOLD_EXPIRY: a tier reaches CLEAR, the fast hold ends, the reduction follows (06 6.2, 06
6.3, 06 6.4). -/
def Obligations.TierRecoveredFastExpiry : Prop :=
  ∀ (c : Fin 28) (s : State), s.active = true → s.uplink.pathRaised = false → s.chan.channels[c].record.zone ≠ none →
    let ch := s.chan.channels[c]
    let k := s.prot.classes[ch.record.cls]
    let r := s.prot.records[c]
    let hot : Prop := ∃ a, ch.record.amp = some a ∧ s.prot.amps[a].status = true ∧
      (s.prot.amps[a].limit : Int) - k.derateBand ≤ s.prot.amps[a].temperature
    let falls (level : Nat) : Prop := (¬hot → ch.peak < level) ∧
      (hot → ch.peak < level - level * k.derateFactor / 256)
    let holds (x : Tier) : Bool := x.state == .active || x.state == .recovery
    let red (x : ProtectRecord) : Step := if holds x.tier2 || x.latched then .mute
      else .steps ((if holds x.tier1 then k.t1Reduce else 0) + (if x.fastHold then k.fastReduce else 0))
    let put (x : ProtectRecord) (notes : List NoticeDetail) : State :=
      let t := postNotices notes (s.setProt { s.prot with records := s.prot.records.set c { x with reduction := red x } })
      if red x = r.reduction then t else pathEffect t
    ((k.t1Time = 0 ∧ holds r.tier1 = true) ∨
        (k.t1Time ≠ 0 ∧ r.restart1 = false ∧ r.tier1.state = .recovery ∧ r.tier1.timer ≤ 1 ∧ falls k.t1Recover) →
      exec (.tierRecovered c .one) s = .next (put { r with tier1 := ⟨.clear, 0⟩ } [.protect c .tier1Left])) ∧
    (k.t1Time ≠ 0 → r.restart1 = true → holds r.tier1 = true →
      (falls k.t1Level → exec (.tierRecovered c .one) s = .next (put { r with tier1 := ⟨.clear, 0⟩ } [.protect c .tier1Left])) ∧
      (¬falls k.t1Level → exec (.tierRecovered c .one) s =
        .next (put { r with tier1 := ⟨.alert, k.t1Time⟩ } [.protect c .tier1Left]))) ∧
    ((k.t2Time = 0 ∧ holds r.tier2 = true) ∨
        (k.t2Time ≠ 0 ∧ r.restart2 = false ∧ r.tier2.state = .recovery ∧ r.tier2.timer ≤ 1 ∧ falls k.t2Recover) →
      exec (.tierRecovered c .two) s = .next (put { r with tier2 := ⟨.clear, 0⟩ } [.protect c .tier2Left])) ∧
    (k.t2Time ≠ 0 → r.restart2 = true → holds r.tier2 = true →
      (falls k.t2Level → exec (.tierRecovered c .two) s = .next (put { r with tier2 := ⟨.clear, 0⟩ } [.protect c .tier2Left])) ∧
      (¬falls k.t2Level → exec (.tierRecovered c .two) s =
        .next (put { r with tier2 := ⟨.alert, k.t2Time⟩ } [.protect c .tier2Left]))) ∧
    (r.fastHold = true → r.fastTimer ≤ 1 →
      (∀ a, ch.record.amp = some a → s.prot.amps[a].status = true →
        s.prot.amps[a].overTempMark = false ∧ s.prot.amps[a].clipMarks.getLsbD ch.record.ampChannel.val = false) →
      exec (.fastHoldExpiry c) s = .next (put { r with fastHold := false, fastTimer := 0 } [])) ∧
    (r.fastHold = false ∨ 1 < r.fastTimer → exec (.fastHoldExpiry c) s = .next s)

/-- DWELL_EXPIRY tests the switch in SWITCHED mode; PAIR_REPLACEMENT changes the weaker member in PAIRED mode, on
scores as they stand (07 7.6, 07 7.7). -/
def Obligations.AntennaEvents : Prop :=
  (
    ∀ s : State, s.active = true → s.uplink.pathRaised = false →
      let u := s.ant
      let c := u.current
      let rival (b : Fin 4) : Prop := u.antennas[b].present = true ∧ b ≠ c ∧
        u.antennas[c].score + u.record.margin ≤ u.antennas[b].score
      (∀ n, u.mode = .switched → u.antennas[c].present = true → u.alert = some n → n ≤ 1 →
        u.antennas[c].score < u.record.switchLevel + u.record.hysteresis →
        (∀ b, rival b → (∀ d, rival d → u.antennas[d].score < u.antennas[b].score ∨
            (u.antennas[d].score = u.antennas[b].score ∧ b.val ≤ d.val)) →
          exec .dwellExpiry s =
            .next (s.setAnt { u with current := b, alert := none, fade := some ⟨.antenna c, b, 0⟩ })) ∧
        ((∀ b, ¬rival b) → exec .dwellExpiry s = .next (s.setAnt { u with alert := some u.record.dwell }))) ∧
      (u.mode ≠ .switched ∨ u.alert = none ∨ (∃ n, u.alert = some n ∧ 1 < n) → exec .dwellExpiry s = .next s)) ∧
  (
    ∀ s : State, s.active = true → s.uplink.pathRaised = false →
      let u := s.ant
      let first (a b : Fin 4) : Prop := u.antennas[b].score < u.antennas[a].score ∨
        (u.antennas[a].score = u.antennas[b].score ∧ a.val < b.val)
      let leads (x w : Fin 4) : Prop := u.antennas[x].present = true ∧
        u.antennas[w].score + u.record.pairMargin ≤ u.antennas[x].score
      let ripe (x w : Fin 4) : Prop := leads x w ∧ u.record.pairDwell ≤ min 65535 (u.challenge[x] + 1)
      (∀ a w x, u.mode = .paired → u.pair = [a, w] → first a w → u.antennas[a].present = true →
        u.antennas[w].present = true → x ≠ a → x ≠ w → 1 ≤ u.record.pairDwell → ripe x w →
        (∀ y, y ≠ a → y ≠ w → y ≠ x → ripe y w → first x y) →
        ∃ t, exec .pairReplacement s = .next (s.setAnt t) ∧
          { t with pair := u.pair, challenge := u.challenge, w1 := u.w1, w2 := u.w2, phase := u.phase } = u ∧
          (∃ m n, t.pair = [m, n] ∧ ((m = a ∧ n = x) ∨ (m = x ∧ n = a)) ∧ first m n ∧
            t.w1 = firstWeight u.antennas[m].score u.antennas[n].score ∧ t.w2 = 256 - t.w1 ∧
            t.phase = nearestDirection (correlationOf u m n)) ∧
          t.challenge[x] = 0 ∧ t.challenge[w] = 0 ∧ t.challenge[a] = 0 ∧
          ∀ y, y ≠ a → y ≠ w → y ≠ x →
            (leads y w → t.challenge[y] = min 65535 (u.challenge[y] + 1)) ∧ (¬leads y w → t.challenge[y] = 0)) ∧
      (u.mode ≠ .paired → exec .pairReplacement s = .next s) ∧
      ∀ a w, u.mode = .paired → u.pair = [a, w] → first a w → u.antennas[a].present = true →
        u.antennas[w].present = true → 1 ≤ u.record.pairDwell → (∀ x, x ≠ a → x ≠ w → ¬ripe x w) →
        exec .pairReplacement s = .next s)

/-- The combined sample in each mode and in a switch crossfade; weights and phase direction; SWITCH_CROSSFADE_END
and a pending mode (07 7.4, 07 7.6, 07 7.7, 07 7.8). -/
def Obligations.SwitchCrossfadeEnd : Prop :=
  (
    ∀ s : State, s.active = true → s.uplink.pathRaised = false →
      (∀ f, s.ant.fade = some f → 63 ≤ f.count →
        (s.ant.pendingMode = none → exec .switchCrossfadeEnd s = .next (s.setAnt { s.ant with fade := none })) ∧
        ∀ m, s.ant.pendingMode = some m →
          let u := { (({ s.ant with fade := none } : AntennaUnit).changeMode m) with pendingMode := none }
          let a : Fin 4 := match u.mode, u.pair with
            | .paired, x :: _ => x
            | _, _ => u.current
          u.mode = m ∧ exec .switchCrossfadeEnd s =
            .next (postNotice (.antenna a u.antennas[a].present u.antennas[a].lastAbsence) (s.setAnt u))) ∧
      ((∀ f, s.ant.fade = some f → f.count < 63) → exec .switchCrossfadeEnd s = .next s)) ∧
  (∀ (u : AntennaUnit) (z : Fin 4 → Complex24),
    let sat (v : Int) : Int := max (-8388608) (min 8388607 v)
    let pair (l : List (Fin 4)) (w1 w2 : Nat) (k : Fin 64) : Complex24 := match l with
      | [] => (0, 0)
      | [a] => z a
      | a :: b :: _ =>
        let r := rotate k (z b)
        (sat ((w1 * (z a).1 + w2 * r.1) / 256), sat ((w1 * (z a).2 + w2 * r.2) / 256))
    (u.fade = none → u.mode ≠ .paired → combinedSample u z = z u.current) ∧
    (u.fade = none → u.mode = .paired → combinedSample u z = pair u.pair u.w1 u.w2 u.phase) ∧
    ∀ f, u.fade = some f →
      let o := match f.outgoing with
        | .antenna a => z a
        | .pair l w1 w2 k => pair l w1 w2 k
      let i := z f.incoming
      let n : Int := f.count
      combinedSample u z = ((o.1 * (64 - n) + i.1 * n + 32) / 64, (o.2 * (64 - n) + i.2 * n + 32) / 64)) ∧
  (∀ x y : Int, rotate 0 (x, y) = (x, y) ∧ rotate 16 (x, y) = (-y, x) ∧ rotate 32 (x, y) = (-x, -y) ∧
    rotate 48 (x, y) = (y, -x)) ∧
  (∀ q1 q2 : Nat, (q1 + q2 = 0 → firstWeight q1 q2 = 128) ∧
    (q1 + q2 ≠ 0 → (firstWeight q1 q2 : Int) = ⌊256 * (q1 : ℚ) / (q1 + q2) + 1 / 2⌋)) ∧
  (∀ (u : AntennaUnit) (k : Fin 6) (a b : Fin 4), corrPairs[k] = (a, b) →
    correlationOf u a b = u.corrHeld[k] ∧ correlationOf u b a = (u.corrHeld[k].1, -u.corrHeld[k].2)) ∧
  nearestDirection (0, 0) = 0 ∧
  ∀ (z : Complex24) (j : Fin 64),
    let reach (k : Fin 64) : ℝ :=
      z.1 * Real.cos (2 * Real.pi * k.val / 64) + z.2 * Real.sin (2 * Real.pi * k.val / 64)
    reach j ≤ reach (nearestDirection z)

/-- PILOT_CHANGE, TUNE_SETTLE_END, RECEPTION_POOR and RECEPTION_RECOVERED (07 7.5, 08 8.2, 08 8.3, 08 8.4, 08 8.5,
08 8.6). -/
def Obligations.RadioEvents : Prop :=
  (
    let move (v goal : Nat) : Nat := if v < goal then v + 1 else if goal < v then v - 1 else v
    ∀ s : State, s.active = true → s.uplink.pathRaised = false →
      (3 ≤ s.radio.pilotRun →
        exec .pilotChange s = .next (s.setRadio { s.radio with pilot := !s.radio.pilot, pilotRun := 0 })) ∧
      (s.radio.pilotRun < 3 → exec .pilotChange s = .next s) ∧
      (s.radio.settle ≤ s.radio.blocksSinceTune ∨ min 65535 (s.radio.blocksSinceTune + 1) < s.ant.record.tuneSettle →
        exec .tuneSettleEnd s = .next s) ∧
      ∀ q : Nat, q = blendQuality (handOver s.ant) → s.ant.record.poorLevel ≤ q → s.radio.reception ≠ .poor →
        1 ≤ s.ant.record.poorTime → s.radio.settle ≤ 65535 → s.radio.blocksSinceTune < s.radio.settle →
        s.ant.record.tuneSettle ≤ s.radio.blocksSinceTune + 1 →
        ∀ e : Fin 32, e.val = q / 4 →
        let b := s.radio.blend[e]
        let next : Reception := if s.ant.record.goodLevel ≤ q then .good else .fair
        let t := s.setRadio { s.radio with
          blocksSinceTune := s.radio.blocksSinceTune + 1
          settle := s.ant.record.tuneSettle
          separation := move s.radio.separation (if s.radio.pilot then b.separation else 0)
          highCut := move s.radio.highCut b.highCut
          softMute := b.softMute
          reception := next
          poorCount := 0 }
        exec .tuneSettleEnd s =
          .next (if next = s.radio.reception then t else postNotice (.reception next s.radio.frequency) t)) ∧
  (
    ∀ s : State, s.active = true → s.uplink.pathRaised = false →
      let q := match anyPresent s.ant, s.ant.mode, s.ant.pair with
        | false, _, _ => 0
        | true, .paired, a :: b :: _ => min 127 (s.ant.antennas[a].score + s.ant.antennas[b].score / 4)
        | true, .paired, [a] => s.ant.antennas[a].score
        | true, .paired, [] => 0
        | true, _, _ => s.ant.antennas[s.ant.current].score
      let k := s.ant.record
      let toward (x : Reception) : State := postNotice (.reception x s.radio.frequency)
        (s.setRadio { s.radio with reception := x, poorCount := 0, recoverCount := 0 })
      (s.ant.record.tuneSettle ≤ s.radio.blocksSinceTune → s.radio.reception ≠ .poor → q < k.poorLevel →
        k.poorTime ≤ min 65535 (s.radio.poorCount + 1) → exec .receptionPoor s = .next (toward .poor)) ∧
      (s.ant.record.tuneSettle ≤ s.radio.blocksSinceTune → s.radio.reception = .poor → k.poorLevel + k.hysteresis ≤ q →
        k.recoverTime ≤ min 65535 (s.radio.recoverCount + 1) → exec .receptionRecovered s = .next (toward .fair)) ∧
      (s.radio.blocksSinceTune < s.ant.record.tuneSettle ∨ s.radio.reception = .poor ∨
        (1 ≤ k.poorTime ∧ k.poorLevel ≤ q) → exec .receptionPoor s = .next s) ∧
      (s.radio.blocksSinceTune < s.ant.record.tuneSettle ∨ s.radio.reception ≠ .poor ∨
        (1 ≤ k.recoverTime ∧ q < k.poorLevel + k.hysteresis) → exec .receptionRecovered s = .next s))

/-- Beam selections and their sums; BEAM_CROSSFADE_END: the incoming point is live, a pending change resolved (10
10.1, 10 10.2, 10 10.5). -/
def Obligations.BeamCrossfadeEnd : Prop :=
  (
    ∀ s : State, s.active = true → s.uplink.pathRaised = false →
      let u := s.uplink
      let live : Fin 2 := 1 - u.live
      let want := selectionOf u.beams s.call.placement
      let landed := u.selections.set u.live []
      let ended : Prop := u.fading = true ∧ s.gain.beam[live].ramp = none ∧ s.gain.beam[live].current = 1048576 ∧
        s.gain.beam[u.live].ramp = none ∧ s.gain.beam[u.live].current = 0
      (ended → u.changePending = false ∨ want = u.selections[live] →
        exec .beamCrossfadeEnd s = .next (s.setUplink { u with
          selections := landed, live := live, fading := false, changePending := false })) ∧
      (ended → u.changePending = true → want ≠ u.selections[live] →
        exec .beamCrossfadeEnd s = .next (pathEffect (s.setUplink { u with
          selections := landed.set u.live want, live := live, fading := true, changePending := false }))) ∧
      (¬ended → exec .beamCrossfadeEnd s = .next s)) ∧
  (∀ (beams : Vector BeamEntry 24) (p : Fin 4),
    (selectionOf beams p).map (fun b => b.seat) = (match p with
      | 0 => [0, 1]
      | 1 => [0, 1, 2, 3]
      | 2 => [2]
      | 3 => [3]) ∧
    ∀ b ∈ selectionOf beams p, ∀ (m : Fin 6) (i : Fin 24), i.val = b.seat.val * 6 + m.val → b.taps[m] = beams[i]) ∧
  ∀ (mics : Vector (List Int) 6) (sel : List SeatBeam),
    let sat (v : Int) : Int := max (-8388608) (min 8388607 v)
    selectionSum mics sel = sat ((sel.map fun b =>
      sat ((∑ m : Fin 6, b.taps[m].weight * mics[m].getD b.taps[m].delay.val 0) / 32768)).sum)

/-- The relax counts change the talk state; the converge and diverge counts change the echo state (10 10.4, 10
10.5). -/
def Obligations.TalkAndEchoEvents : Prop :=
  (
    ∀ s : State, s.active = true → s.uplink.pathRaised = false →
      let u := s.uplink
      let near := min 65535 (u.nearQuiet + 1)
      let far := min 65535 (u.farQuiet + 1)
      (u.talk = .nearOnly ∨ u.talk = .double → u.record.farThreshold ≤ u.peakF → u.peakR < u.record.nearThreshold →
        u.record.nearRelax ≤ near →
        exec .nearRelaxExpiry s = .next (s.setUplink { u with talk := .farOnly, nearQuiet := near, farQuiet := 0 })) ∧
      (u.talk = .farOnly → u.peakF < u.record.farThreshold → u.peakR < u.record.nearThreshold → u.record.farRelax ≤ far →
        exec .farRelaxExpiry s = .next (s.setUplink { u with talk := .quiet, nearQuiet := near, farQuiet := far })) ∧
      (u.talk = .quiet ∨ u.talk = .farOnly ∨ near < u.record.nearRelax → exec .nearRelaxExpiry s = .next s) ∧
      (u.talk ≠ .farOnly ∨ far < u.record.farRelax → exec .farRelaxExpiry s = .next s)) ∧
  (
    let code (v : Nat) : Int := if v = 0 then 0 else if v = 1 then 0
      else 2 * (v.log2 : Int) + (if v.testBit (v.log2 - 1) then 1 else 0)
    ∀ s : State, s.active = true → s.uplink.pathRaised = false →
      let u := s.uplink
      let erle := code u.peakN - code u.peakR
      let up := min 65535 (u.converge + 1)
      let down := min 65535 (u.diverge + 1)
      (u.talk = .farOnly → u.echo = .converging → (u.record.convergeLevel : Int) ≤ erle → u.record.convergeBlocks ≤ up →
        exec .echoConverged s = .next (postNotice (.echo .converged) (s.setUplink { u with
          echo := .converged, converge := up, diverge := 0
          filters := if s.call.state = .active then
            (Config.echoUpdate (u.filters.map spanned) (u.references.map spanned) u.residuals).map (fun x => x.take 6144)
            else u.filters }))) ∧
      (u.talk = .farOnly → u.echo = .converged → erle < u.record.divergeLevel → u.record.divergeBlocks ≤ down →
        exec .echoDiverged s = .next (postNotice (.echo .converging) (s.setUplink { u with
          echo := .converging, converge := 0, diverge := down, filters := Vector.replicate 10 [] }))) ∧
      (u.talk ≠ .farOnly ∨ u.echo ≠ .converging ∨
        (1 ≤ u.record.convergeBlocks ∧ (erle < u.record.convergeLevel ∨ up < u.record.convergeBlocks)) →
        exec .echoConverged s = .next s) ∧
      (u.talk ≠ .farOnly ∨ u.echo ≠ .converged ∨
        (1 ≤ u.record.divergeBlocks ∧ ((u.record.divergeLevel : Int) ≤ erle ∨ down < u.record.divergeBlocks)) →
        exec .echoDiverged s = .next s))

/-- The linear gain of every step target (R70). -/
def Obligations.LinearGain : Prop :=
  let M : List Nat := [1048576, 1095000, 1143480, 1194106, 1246974, 1302182, 1359835, 1420040, 1482910, 1548564,
    1617125, 1688722, 1763488, 1841564, 1923097, 2008240]
  linearOf .mute = 0 ∧
  (∀ (q : Int) (k : Nat), k < 16 → -320 ≤ 16 * q + k → 16 * q + k ≤ 32 →
    (0 ≤ q → linearOf (.steps (16 * q + k)) = M.getD k 0 * 2 ^ q.toNat) ∧
    (q < 0 → ∀ s : Nat, (s : Int) = -q →
      linearOf (.steps (16 * q + k)) = (M.getD k 0 + 2 ^ (s - 1)) / 2 ^ s)) ∧
  linearOf (.steps 32) = 4194304 ∧ linearOf (.steps (-320)) = 1 ∧ linearOf (.steps (-319)) = 1 ∧
  ∀ g : Int, -320 ≤ g → g ≤ 32 → 1 ≤ linearOf (.steps g) ∧ linearOf (.steps g) ≤ 4194304

/-- In every frame the units run, each gain point takes the target its components give, with its ramp length and
cause (03 3.3, 03 3.4, 04 4.1, 04 4.3, 04 4.4, 04 4.5, 08 8.4, 09 9.2, 09 9.3, 09 9.4, 10 10.2). -/
def Obligations.PointTargets : Prop :=
  let limit (n : Int) : Step := if n < -320 then .mute else .steps (min 32 n)
  let plus (a b : Step) : Step := match a, b with | .steps x, .steps y => .steps (x + y) | _, _ => .mute
  let held (a : Step) : Step := match a with | .steps x => limit x | .mute => .mute
  ∀ s : State,
    let g := gainStep s
    (∀ i : Fin 32, g.route[i].linear = linearOf g.route[i].step) ∧
    (∀ c : Fin 28, g.out[c].linear = linearOf g.out[c].step) ∧ g.uplink.linear = linearOf g.uplink.step ∧
    (∀ i : Fin 32,
      let x := s.mix.routes[i]
      let off : Prop := x.state ≠ .enabled ∨ (x.zone.val ≤ 2 ∧ ∃ c ∈ s.mix.claims, c.source = x.source)
      let duck : Step := match s.call.state, x.duck with
        | .idle, _ | .closing, _ | _, .none => .steps 0
        | _, .media => s.call.ducks[(s.call.placement.val * 5 + x.zone.val) * 2]
        | _, .prompt => s.call.ducks[(s.call.placement.val * 5 + x.zone.val) * 2 + 1]
      (off → g.route[i].step = .mute) ∧ (¬off → g.route[i].step = held (plus (.steps x.trim) duck))) ∧
    (∀ z : Fin 2, g.seat[z].step =
      if s.mix.claims.any (fun c => c.zone == z && c.state == .held) then .steps 0 else .mute) ∧
    (∀ z : Fin 5, g.feed[z].step = match s.call.state with
      | .idle | .onHold | .closing => .mute
      | .alerting | .active =>
        if (s.call.placement = 2 ∧ z ≠ 3) ∨ (s.call.placement = 3 ∧ z ≠ 4) then .mute
        else held s.call.placements[s.call.placement.val * 5 + z.val]) ∧
    (∀ c : Fin 28, g.out[c].step = match s.chan.channels[c].record.zone with
      | none => .mute
      | some z =>
        let zone := s.mix.zones[z]
        let curve : Step := match s.gain.curve[zone.curve.val * 64 + zone.volume.val] with
          | .mute => .mute
          | .steps v => .steps (if c.val < 24 ∧ 3 ≤ z.val then min v zone.cap else v)
        if zone.mute ∨ s.msg.op = .stopping then .mute
        else held (plus (plus curve (.steps s.chan.channels[c].record.trim)) s.prot.records[c].reduction)) ∧
    g.uplink.step = (if s.msg.op = .stopping ∨ s.call.state ≠ .active then .mute
      else limit (s.call.uplinkGain + if s.uplink.echo = .converging then s.uplink.record.attenuation else 0)) ∧
    g.radio.step = (if s.radio.blocksSinceTune < s.radio.settle ∨ s.radio.noAntenna then .mute
      else held s.radio.softMute) ∧
    (∀ b : Fin 2, g.beam[b].step = if (b = s.uplink.live ∧ s.uplink.fading = false) ∨
      (b ≠ s.uplink.live ∧ s.uplink.fading = true) then .steps 0 else .mute) ∧
    (let r := s.gain.ramps
     let started (t : Step) (n : Nat) : GainPoint :=
      ⟨t, linearOf t, 0, if linearOf t = 0 then none else some ⟨0, (linearOf t : Int).tdiv n, n, n, .start⟩⟩
     let runs (p q : GainPoint) (first n : Nat) (cause : RampCause) : Prop :=
      q = (if s.gain.startPending then started q.step first else p.retarget q.step n cause).advance
     g.startPending = false ∧
     (∀ i : Fin 32,
      let old := s.gain.routeContext[i]
      let new := g.routeContext[i]
      let x := s.mix.routes[i]
      let moved : Prop := (old.ducked ≠ new.ducked ∨ old.placement ≠ new.placement) ∧ old.duck ≠ new.duck
      (new.suspended = true ↔ x.zone.val ≤ 2 ∧ ∃ c ∈ s.mix.claims, c.source = x.source) ∧
      (new.ducked = true ↔ s.call.state ≠ .idle ∧ s.call.state ≠ .closing) ∧ new.placement = s.call.placement ∧
      new.duck = (match s.call.state, x.duck with
        | .idle, _ | .closing, _ | _, .none => .steps 0
        | _, .media => s.call.ducks[(s.call.placement.val * 5 + x.zone.val) * 2]
        | _, .prompt => s.call.ducks[(s.call.placement.val * 5 + x.zone.val) * 2 + 1]) ∧
      (old.suspended ≠ new.suspended → runs s.gain.route[i] g.route[i] r.route r.claim .suspension) ∧
      (old.suspended = new.suspended → moved → runs s.gain.route[i] g.route[i] r.route r.route .ducking) ∧
      (old.suspended = new.suspended → ¬moved → runs s.gain.route[i] g.route[i] r.route r.route .route)) ∧
     (∀ z : Fin 2, runs s.gain.seat[z] g.seat[z] r.claim r.claim .claim) ∧
     (∀ z : Fin 5, runs s.gain.feed[z] g.feed[z] r.call r.call .call) ∧
     runs s.gain.uplink g.uplink r.call r.call .call ∧
     (let falls : Prop := match s.gain.radio.step, g.radio.step with
        | .steps _, .mute => True
        | .steps a, .steps b => b < a
        | .mute, _ => False
      (falls → runs s.gain.radio g.radio r.release r.attack .radio) ∧
      (¬falls → runs s.gain.radio g.radio r.release r.release .radio)) ∧
     (∀ b : Fin 2, runs s.gain.beam[b] g.beam[b] 480 480 .beam) ∧
     ∀ c : Fin 28,
      let k := outputCause r s.gain.outContext[c] g.outContext[c]
      runs s.gain.out[c] g.out[c] r.volume k.1 k.2 ∧ g.outContext[c] = outputContext s c) ∧
    ∀ (r : RampRecord) (a b : OutputContext),
      let alone (x : OutputContext) : Prop := x.target ≠ a.target
      (b.stopping = true → a.stopping = false → outputCause r a b = (r.stop, .stop)) ∧
      (b.stopping = false ∨ a.stopping = true →
        (a.curve = b.curve → a.muted = b.muted → a.reduction = b.reduction → outputCause r a b = (r.volume, .volume)) ∧
        (a.reduction = b.reduction → a.curve = b.curve ∨ a.muted = b.muted → outputCause r a b = (r.volume, .volume)) ∧
        (a.curve = b.curve → a.muted = b.muted → b.reduction.below a.reduction = true →
          outputCause r a b = (r.attack, .protection)) ∧
        (a.curve = b.curve → a.muted = b.muted → a.reduction.below b.reduction = true →
          outputCause r a b = (r.release, .protection)) ∧
        ∀ x y m n : Int, a.muted = b.muted → a.curve = .steps x → a.reduction = .steps y → b.curve = .steps (x + m) →
          b.reduction = .steps (y + n) → alone { a with curve := b.curve } → alone { a with reduction := b.reduction } →
          (m < n → n < 0 → outputCause r a b = (r.volume, .volume)) ∧
          (n < m → m < 0 → outputCause r a b = (r.attack, .protection)) ∧
          (m < 0 → m = n → (outputCause r a b).1 = min r.volume r.attack) ∧
          (0 < m → 0 < n → (outputCause r a b).1 = max r.volume r.release) ∧
          (m < 0 → 0 < n → outputCause r a b = (r.attack, .protection)) ∧
          (0 < m → n < 0 → outputCause r a b = (r.attack, .protection)))

/-- A biquad stage, the eight stages of a bank, and the channel they filter (R91). -/
def Obligations.StageArithmetic : Prop :=
  let sat (v : Int) : Int := max (-8388608) (min 8388607 v)
  (∀ (c : Stage) (h : StageHistory) (x : Int),
    let y := (stageStep c h x).2
    let acc := c.b0 * x + c.b1 * h.x1 + c.b2 * h.x2 - c.a1 * h.y1 - c.a2 * h.y2
    y = sat ((acc + 2 ^ 21) / 2 ^ 22) ∧ (stageStep c h x).1 = ⟨x, h.x1, y, h.y1⟩) ∧
  (∀ (h : StageHistory) (x : Int), -8388608 ≤ x → x ≤ 8388607 → (stageStep ⟨2 ^ 22, 0, 0, 0, 0⟩ h x).2 = x) ∧
  ∀ (c : Channel) (gain : Nat) (buses : Vector (Int × Int) 5),
    ∃ y : Fin 9 → Int,
      y 0 = (match c.record.zone, c.record.side with
        | none, _ => 0
        | some z, .left => buses[z].1
        | some z, .right => buses[z].2
        | some z, .sum => (buses[z].1 + buses[z].2) / 2) ∧
      (∀ i : Fin 8, stageStep c.live.stages[i] c.live.history[i] (y i.castSucc) =
        ((channelStep c none gain buses).live.history[i], y i.succ)) ∧
      (channelStep c none gain buses).out = sat ((y 8 * gain + 2 ^ 19) / 2 ^ 20) ∧
      (channelStep c none gain buses).live.stages = c.live.stages ∧
      (channelStep c none gain buses).spareBank = c.spareBank

/-- The stability test, its failing stage, and BANK ACTIVATE's refusal of a bank that fails (R99). -/
def Obligations.StabilityTest : Prop :=
  let sound (x : Stage) : Prop := -4194304 < x.a2 ∧ x.a2 < 4194304 ∧ x.a1 < 4194304 + x.a2 ∧ -x.a1 < 4194304 + x.a2
  (∀ b : Bank, (failingStage b = none ↔ ∀ i : Fin 8, sound b.stages[i]) ∧
    ∀ i, failingStage b = some i ↔ ¬sound b.stages[i] ∧ ∀ j : Fin 8, j.val < i.val → sound b.stages[j]) ∧
  (∀ (r : Request) (s : State) (c : Fin 28) (i : Fin 8), Ready r s → Passes .bankActivate r s →
    field (argument r 0) 7 0 = c.val → s.chan.channels[c].spare = .loaded →
    ¬sound s.chan.channels[c].spareBank.stages[i] →
    (∀ j : Fin 8, j.val < i.val → sound s.chan.channels[c].spareBank.stages[j]) →
    exec (.bankActivate r) s = .next (answered 24 r .unstable i.val [] s)) ∧
  ∀ b0 b1 b2 : Int, sound ⟨b0, b1, b2, 0, 0⟩ ∧ ¬sound ⟨b0, b1, b2, 0, 4194304⟩ ∧
    ¬sound ⟨b0, b1, b2, -4500000, 200000⟩ ∧ sound ⟨b0, b1, b2, 0, -4194303⟩

/-- How long a tier takes: T + 1 superframes to trip, R superframes below recovery to return to CLEAR (06 6.3). -/
def Obligations.TierTimes : Prop :=
  ∀ k : TierSetting,
    let after (ps : List Nat) (x : Tier) : Tier := ps.foldl (fun t p => t.evaluate k p) x
    (k.time ≠ 0 → ∀ ps : List Nat, (∀ p ∈ ps, k.level ≤ p) → ∀ n,
      (1 ≤ ps.length → ps.length ≤ k.time → after ps ⟨.clear, n⟩ = ⟨.alert, k.time + 1 - ps.length⟩) ∧
      (ps.length = k.time + 1 → after ps ⟨.clear, n⟩ = ⟨.active, 0⟩)) ∧
    (k.time ≠ 0 → 1 ≤ k.recoverTime → ∀ ps : List Nat, (∀ p ∈ ps, p < k.recover) → ∀ n,
      (1 ≤ ps.length → ps.length ≤ k.recoverTime →
        after ps ⟨.active, n⟩ = ⟨.recovery, k.recoverTime + 1 - ps.length⟩) ∧
      (ps.length = k.recoverTime + 1 → after ps ⟨.active, n⟩ = ⟨.clear, 0⟩)) ∧
    (k.time ≠ 0 → ∀ p n, p < k.level → (⟨.alert, n⟩ : Tier).evaluate k p = ⟨.clear, 0⟩) ∧
    (k.time ≠ 0 → ∀ p n, k.recover ≤ p → (⟨.recovery, n⟩ : Tier).evaluate k p = ⟨.active, 0⟩) ∧
    (k.time = 0 → ∀ p x, Tier.evaluate x k p = ⟨.clear, 0⟩)

/-- The frame of index 63: protection, presence, score, selection, radio, talk and echo evaluations; the next block
begins (06 6.2, 06 6.3, 06 6.4, 07 7.3, 07 7.4, 07 7.6, 07 7.7, 08 8.2, 08 8.3, 08 8.4, 08 8.5, 10 10.5). -/
def Obligations.BlockEnd : Prop :=
  ∀ (f : Frame) (s : State), s.ring.link = .linked →
    s.msg.op = .run ∨ (s.msg.op = .pattern ∧ s.msg.patternFrom = .run) ∨
      (s.msg.op = .stopping ∧ ∃ c : Fin 28, (gainStep s).out[c].current ≠ 0) →
    f.ctype = .idle → f.index = 63 → s.msg.resetPhase = .none → (∀ m ∈ s.msg.queue, m.resets = false) →
    let size (v : Int) : Nat := min 8388607 v.natAbs
    let jump : Prop := ∃ c : Fin 28, match s.gain.out[c].step, (gainStep s).out[c].step with
      | .mute, .mute => False
      | .steps a, .steps b => s.uplink.record.pathStep < (a - b).natAbs
      | _, _ => True
    let fadeEnds : Prop := ∃ (n : Fin 4) (x : BankFade), s.chan.fades[n] = some x ∧ 511 ≤ x.count
    ∃ t t0 w, exec (.goodFrame f) s = .next t ∧ exec (.goodFrame { f with index := 0 }) s = .next t0 ∧
      w.gain = t0.gain ∧ w.chan = t0.chan ∧ w.prot = t0.prot ∧ w.ant = t0.ant ∧ w.radio = t0.radio ∧
      { w.uplink with
        echo := t0.uplink.echo, converge := t0.uplink.converge, pathRaised := t0.uplink.pathRaised } = t0.uplink ∧
      w.call.state = s.call.state ∧
      w.ring.slotMap = s.ring.slotMap ∧ w.prot.records = s.prot.records ∧ w.prot.classes = s.prot.classes ∧
      w.prot.count = s.prot.count ∧ w.ant.antennas = s.ant.antennas ∧ w.ant.penalty = s.ant.penalty ∧
      w.ant.record = s.ant.record ∧ (s.ant.pendingMode = none → w.ant.mode = s.ant.mode) ∧
      (∀ c : Fin 28, w.chan.channels[c].record = s.chan.channels[c].record ∧
        w.chan.channels[c].peak = max s.chan.channels[c].peak (size t.chan.channels[c].out)) ∧
      (∀ a : Fin 4, w.prot.amps[a] = (match ampSlot s.ring.slotMap a with
        | some i => s.prot.amps[a].read f.slots[i]
        | none => s.prot.amps[a]) ∧
        w.ant.powers[a] = ([3, 2, 1, 0].map fun n => power (antennaSample s.ring.slotMap f a n)) ++ s.ant.powers[a]) ∧
      { w.radio with
        decoder := s.radio.decoder, delay := s.radio.delay, cutLeft := s.radio.cutLeft, cutRight := s.radio.cutRight
        lastSample := s.radio.lastSample, multiplex := s.radio.multiplex } = s.radio ∧
      w.uplink.talk = s.uplink.talk ∧ w.uplink.nearQuiet = s.uplink.nearQuiet ∧ w.uplink.farQuiet = s.uplink.farQuiet ∧
      w.uplink.record = s.uplink.record ∧ s.uplink.peakF ≤ w.uplink.peakF ∧ s.uplink.peakR ≤ w.uplink.peakR ∧
      w.draws = s.draws ∧ ProtectEvaluated w t ∧ AntennasEvaluated w t ∧ SelectionEvaluated w t ∧
      RadioEvaluated w t ∧ TalkEvaluated w t ∧
      (jump → w.uplink.echo = (pathEffect s).uplink.echo ∧ w.uplink.converge = (pathEffect s).uplink.converge) ∧
      (¬jump → w.uplink.echo = s.uplink.echo ∧ w.uplink.converge = s.uplink.converge ∧
        (s.uplink.pathRaised = true ∨ fadeEnds → w.uplink.pathRaised = true) ∧
        (s.uplink.pathRaised = false → ¬fadeEnds → s.uplink.fading = false ∨ s.uplink.changePending = false →
          w.uplink.pathRaised = false)) ∧
      (let raised : Prop := ¬jump ∧
        (w.uplink.pathRaised = true ∨ ∃ c : Fin 28, t.prot.records[c].reduction ≠ s.prot.records[c].reduction)
       (¬raised → EchoEvaluated w t) ∧
       (raised → EchoEvaluated (pathEffect w) t ∨ ∃ v, EchoEvaluated w v ∧ v.uplink.talk = t.uplink.talk ∧
        t.uplink.echo = (pathEffect v).uplink.echo ∧ t.uplink.converge = (pathEffect v).uplink.converge ∧
        t.uplink.diverge = v.uplink.diverge ∧ t.uplink.filters = v.uplink.filters)) ∧
      (∀ c : Fin 28, t.chan.channels[c].peak = 0) ∧
      t.uplink.peakF = 0 ∧ t.uplink.peakN = 0 ∧ t.uplink.peakR = 0 ∧ t.uplink.residuals = [] ∧
      t.msg.op = s.msg.op ∧ t.mix.routes = s.mix.routes ∧ t.mix.zones = s.mix.zones ∧
      t.call.placement = s.call.placement

/-- What a zone's bus is the sum of, in shared zones and in private ones of either mode (03 3.4). -/
def Obligations.ZoneBuses : Prop :=
  let sat (v : Int) : Int := max (-8388608) (min 8388607 v)
  let amp (x : Int) (c : Nat) : Int := (x * c + 2 ^ 19) / 2 ^ 20
  ∀ (s : State) (src : Source → Int × Int) (z : Fin 5),
    let routes (side : Int × Int → Int) (y : Fin 5) : Int := ∑ i : Fin 32,
      if s.mix.routes[i].state = .enabled ∧ s.mix.routes[i].zone = y then
        amp (side (src s.mix.routes[i].source)) s.gain.route[i].current
      else 0
    let call (side : Int × Int → Int) : Int := amp (side (src .call)) s.gain.feed[z].current
    (z.val ≤ 2 → zoneBus s src z =
      (sat (routes Prod.fst z + call Prod.fst), sat (routes Prod.snd z + call Prod.snd))) ∧
    ∀ a : Fin 2, z.val = a.val + 3 →
      let shared (side : Int × Int → Int) : Int := if s.mix.zones[z].seatMode then 0 else routes side 1
      let own (side : Int × Int → Int) (x : Option Source) : Int := match x with
        | some y => amp (side (src y)) s.gain.seat[a].current
        | none => 0
      let bus (x : Option Source) : Int × Int :=
        (sat (shared Prod.fst + routes Prod.fst z + call Prod.fst + own Prod.fst x),
         sat (shared Prod.snd + routes Prod.snd z + call Prod.snd + own Prod.snd x))
      (∀ c, releasingOf s.mix a = some c → zoneBus s src z = bus (some c.source)) ∧
      (releasingOf s.mix a = none → s.mix.zones[z].seatMode = false → zoneBus s src z = bus none) ∧
      (releasingOf s.mix a = none → s.mix.zones[z].seatMode = true → (∀ c ∈ s.mix.claims, c.zone = a → c.state ≠ .held) →
        zoneBus s src z = bus none) ∧
      ∀ c, releasingOf s.mix a = none → s.mix.zones[z].seatMode = true →
        (s.mix.claims.find? fun d => d.zone == a && d.state == .held) = some c → zoneBus s src z = bus (some c.source)

/-- Every step keeps every gain point in range, its ramp where its frames have taken it, and silence while nothing
runs (04 4.1, 04 4.4, 04 4.5). -/
def Obligations.GainInvKept : Prop :=
  ∀ s t : State, GainInv s → step s = .next t → GainInv t

/-- Every step keeps the message unit's bounds: queue, sending, assembly, counters, one notice of each kind (02 2.1,
02 2.3, 02 2.4). -/
def Obligations.MessageInvKept : Prop :=
  ∀ s t : State, MessageInv s → step s = .next t → MessageInv t

/-- Every step keeps the claim list: one claim in each place, no source held twice, no HELD beside a RELEASING (03
3.5). -/
def Obligations.ClaimInvKept : Prop :=
  ∀ s t : State, ClaimInv s → step s = .next t → ClaimInv t

/-- Every step keeps every live bank stable, and queue, crossfade units, cursor and spare states in agreement (05
5.3, 05 5.4, 05 5.5, 02 2.6). -/
def Obligations.BankInvKept : Prop :=
  ∀ s t : State, BankInv s → step s = .next t → BankInv t

/-- The reset state meets the four invariants (02 2.3, 03 3.5, 04 4.1, 05 5.3). -/
def Obligations.InvariantsAtReset : Prop :=
  GainInv State.reset ∧ MessageInv State.reset ∧ ClaimInv State.reset ∧ BankInv State.reset

/-- Every kind of table entry, its fields in range, survives being put into its words and read from them (02 2.6, 02
2.7). -/
def Obligations.EntriesReadBack : Prop :=
  let step (lo hi : Int) (x : Step) : Prop := match x with | .mute => True | .steps n => lo ≤ n ∧ n ≤ hi
  let word (n : Nat) : Prop := 1 ≤ n ∧ n ≤ 65535
  (∀ x : Role, roleOfWord (wordOfRole x) = some x) ∧
  (∀ x : ChannelRecord, -320 ≤ x.trim → x.trim ≤ 32 → channelOfWord (wordOfChannel x) = some x) ∧
  (∀ x : RouteRecord, x.state ≠ .empty → x.source ≠ .call → -320 ≤ x.trim → x.trim ≤ 32 →
    routeOfWord (wordOfRoute x) = some x) ∧
  routeOfWord (wordOfRoute ⟨.empty, .radio, 0, 0, .none⟩) = some ⟨.empty, .radio, 0, 0, .none⟩ ∧
  (∀ x : Step, step (-511) 511 x → stepOf (field (wordOf [stepCode x]) 9 0) = x) ∧
  (∀ x : Stage, (∀ v ∈ [x.b0, x.b1, x.b2, x.a1, x.a2], -8388608 ≤ v ∧ v ≤ 8388607) → stageOfWords (wordsOfStage x) = x) ∧
  (∀ x : ProtectClass, x.t1Level ≤ 8388607 → x.t2Level ≤ 8388607 → x.t1Recover ≤ x.t1Level → x.t2Recover ≤ x.t2Level →
    x.t1Time ≤ 65535 → x.t2Time ≤ 65535 → word x.recoverTime → word x.fastHold → word x.latchWindow →
    x.derateFactor ≤ 255 → x.latchCount ≤ 15 → x.derateBand ≤ 100 → -320 ≤ x.t1Reduce → x.t1Reduce ≤ 0 →
    -320 ≤ x.fastReduce → x.fastReduce ≤ 0 → classOfWords (wordsOfClass x) = some x) ∧
  (∀ x : BeamEntry, -32768 ≤ x.weight → x.weight ≤ 32767 → beamOfWord (wordOfBeam x) = x) ∧
  (∀ x : BlendEntry, x.separation ≤ 16 → x.highCut ≤ 7 → step (-320) 0 x.softMute → blendOfWord (wordOfBlend x) = x) ∧
  (∀ x : RadioRecord, x.switchLevel ≤ 127 → x.hysteresis ≤ 127 → x.margin ≤ 127 → x.pairMargin ≤ 127 →
    x.goodLevel ≤ 127 → x.poorLevel ≤ 127 → x.tuneSettle ≤ 65535 → word x.dwell → word x.pairDwell → word x.poorTime →
    word x.recoverTime → radioOfWords (wordsOfRadio x) = x) ∧
  (∀ x : EchoRecord, x.farThreshold ≤ 8388607 → x.nearThreshold ≤ 8388607 → word x.nearRelax → word x.farRelax →
    word x.convergeBlocks → word x.divergeBlocks → x.convergeLevel ≤ 255 → x.divergeLevel ≤ 255 → x.pathStep ≤ 255 →
    -320 ≤ x.attenuation → x.attenuation ≤ 0 → echoOfWords (wordsOfEcho x) = x) ∧
  (∀ x : RampRecord, word x.route → word x.volume → word x.attack → word x.release → word x.claim → word x.call →
    word x.stop → rampsOfWords (wordsOfRamps x) = x) ∧
  (∀ x : Amplifier, x.limit ≤ 255 → x.temperature ≤ 255 → field (wordOfAmp x) 7 0 = x.limit) ∧
  (∀ n : Nat, n ≤ 127 → field (wordOf [n]) 6 0 = n) ∧
  ∀ (m : MixUnit) (z : Fin 5) (x : ZoneRecord),
    (3 ≤ z.val → -320 ≤ m.zones[z].cap → m.zones[z].cap ≤ 0 → zoneWritten z (wordOfZone m z) x =
      { x with curve := m.zones[z].curve, panel := m.zones[z].panel, cap := m.zones[z].cap }) ∧
    (z.val < 3 → zoneWritten z (wordOfZone m z) x =
      { x with curve := m.zones[z].curve, panel := m.zones[z].panel })
end

