-- ==== Sys2Proof/Laws/State.lean ====
section
/-! SUPPORT. What replacing one unit of the state does: one lemma per field per update, and what it leaves of the
questions asked of a state (running, linked, active). -/

namespace Sys2Proof.Machine

/-! ## setRing -/

@[simp] theorem State.setRing_ring (s : State) (x : RingUnit) : (s.setRing x).ring = x := rfl
@[simp] theorem State.setRing_msg (s : State) (x : RingUnit) : (s.setRing x).msg = s.msg := rfl
@[simp] theorem State.setRing_mix (s : State) (x : RingUnit) : (s.setRing x).mix = s.mix := rfl
@[simp] theorem State.setRing_gain (s : State) (x : RingUnit) : (s.setRing x).gain = s.gain := rfl
@[simp] theorem State.setRing_chan (s : State) (x : RingUnit) : (s.setRing x).chan = s.chan := rfl
@[simp] theorem State.setRing_prot (s : State) (x : RingUnit) : (s.setRing x).prot = s.prot := rfl
@[simp] theorem State.setRing_ant (s : State) (x : RingUnit) : (s.setRing x).ant = s.ant := rfl
@[simp] theorem State.setRing_radio (s : State) (x : RingUnit) : (s.setRing x).radio = s.radio := rfl
@[simp] theorem State.setRing_call (s : State) (x : RingUnit) : (s.setRing x).call = s.call := rfl
@[simp] theorem State.setRing_uplink (s : State) (x : RingUnit) : (s.setRing x).uplink = s.uplink := rfl
@[simp] theorem State.setRing_pending (s : State) (x : RingUnit) : (s.setRing x).pending = s.pending := rfl
@[simp] theorem State.setRing_draws (s : State) (x : RingUnit) : (s.setRing x).draws = s.draws := rfl
@[simp] theorem State.setRing_running (s : State) (x : RingUnit) : (s.setRing x).running = s.running := rfl
@[simp] theorem State.setRing_same (s : State) : s.setRing s.ring = s := rfl
@[simp] theorem State.setRing_twice (s : State) (x y : RingUnit) : (s.setRing x).setRing y = s.setRing y := rfl

/-! ## setMsg -/

@[simp] theorem State.setMsg_ring (s : State) (x : MessageUnit) : (s.setMsg x).ring = s.ring := rfl
@[simp] theorem State.setMsg_msg (s : State) (x : MessageUnit) : (s.setMsg x).msg = x := rfl
@[simp] theorem State.setMsg_mix (s : State) (x : MessageUnit) : (s.setMsg x).mix = s.mix := rfl
@[simp] theorem State.setMsg_gain (s : State) (x : MessageUnit) : (s.setMsg x).gain = s.gain := rfl
@[simp] theorem State.setMsg_chan (s : State) (x : MessageUnit) : (s.setMsg x).chan = s.chan := rfl
@[simp] theorem State.setMsg_prot (s : State) (x : MessageUnit) : (s.setMsg x).prot = s.prot := rfl
@[simp] theorem State.setMsg_ant (s : State) (x : MessageUnit) : (s.setMsg x).ant = s.ant := rfl
@[simp] theorem State.setMsg_radio (s : State) (x : MessageUnit) : (s.setMsg x).radio = s.radio := rfl
@[simp] theorem State.setMsg_call (s : State) (x : MessageUnit) : (s.setMsg x).call = s.call := rfl
@[simp] theorem State.setMsg_uplink (s : State) (x : MessageUnit) : (s.setMsg x).uplink = s.uplink := rfl
@[simp] theorem State.setMsg_pending (s : State) (x : MessageUnit) : (s.setMsg x).pending = s.pending := rfl
@[simp] theorem State.setMsg_draws (s : State) (x : MessageUnit) : (s.setMsg x).draws = s.draws := rfl
@[simp] theorem State.setMsg_linked (s : State) (x : MessageUnit) : (s.setMsg x).linked = s.linked := rfl
@[simp] theorem State.setMsg_same (s : State) : s.setMsg s.msg = s := rfl
@[simp] theorem State.setMsg_twice (s : State) (x y : MessageUnit) : (s.setMsg x).setMsg y = s.setMsg y := rfl

/-! ## setMix -/

@[simp] theorem State.setMix_ring (s : State) (x : MixUnit) : (s.setMix x).ring = s.ring := rfl
@[simp] theorem State.setMix_msg (s : State) (x : MixUnit) : (s.setMix x).msg = s.msg := rfl
@[simp] theorem State.setMix_mix (s : State) (x : MixUnit) : (s.setMix x).mix = x := rfl
@[simp] theorem State.setMix_gain (s : State) (x : MixUnit) : (s.setMix x).gain = s.gain := rfl
@[simp] theorem State.setMix_chan (s : State) (x : MixUnit) : (s.setMix x).chan = s.chan := rfl
@[simp] theorem State.setMix_prot (s : State) (x : MixUnit) : (s.setMix x).prot = s.prot := rfl
@[simp] theorem State.setMix_ant (s : State) (x : MixUnit) : (s.setMix x).ant = s.ant := rfl
@[simp] theorem State.setMix_radio (s : State) (x : MixUnit) : (s.setMix x).radio = s.radio := rfl
@[simp] theorem State.setMix_call (s : State) (x : MixUnit) : (s.setMix x).call = s.call := rfl
@[simp] theorem State.setMix_uplink (s : State) (x : MixUnit) : (s.setMix x).uplink = s.uplink := rfl
@[simp] theorem State.setMix_pending (s : State) (x : MixUnit) : (s.setMix x).pending = s.pending := rfl
@[simp] theorem State.setMix_draws (s : State) (x : MixUnit) : (s.setMix x).draws = s.draws := rfl
@[simp] theorem State.setMix_running (s : State) (x : MixUnit) : (s.setMix x).running = s.running := rfl
@[simp] theorem State.setMix_linked (s : State) (x : MixUnit) : (s.setMix x).linked = s.linked := rfl
@[simp] theorem State.setMix_active (s : State) (x : MixUnit) : (s.setMix x).active = s.active := rfl
@[simp] theorem State.setMix_same (s : State) : s.setMix s.mix = s := rfl
@[simp] theorem State.setMix_twice (s : State) (x y : MixUnit) : (s.setMix x).setMix y = s.setMix y := rfl

/-! ## setGain -/

@[simp] theorem State.setGain_ring (s : State) (x : GainUnit) : (s.setGain x).ring = s.ring := rfl
@[simp] theorem State.setGain_msg (s : State) (x : GainUnit) : (s.setGain x).msg = s.msg := rfl
@[simp] theorem State.setGain_mix (s : State) (x : GainUnit) : (s.setGain x).mix = s.mix := rfl
@[simp] theorem State.setGain_gain (s : State) (x : GainUnit) : (s.setGain x).gain = x := rfl
@[simp] theorem State.setGain_chan (s : State) (x : GainUnit) : (s.setGain x).chan = s.chan := rfl
@[simp] theorem State.setGain_prot (s : State) (x : GainUnit) : (s.setGain x).prot = s.prot := rfl
@[simp] theorem State.setGain_ant (s : State) (x : GainUnit) : (s.setGain x).ant = s.ant := rfl
@[simp] theorem State.setGain_radio (s : State) (x : GainUnit) : (s.setGain x).radio = s.radio := rfl
@[simp] theorem State.setGain_call (s : State) (x : GainUnit) : (s.setGain x).call = s.call := rfl
@[simp] theorem State.setGain_uplink (s : State) (x : GainUnit) : (s.setGain x).uplink = s.uplink := rfl
@[simp] theorem State.setGain_pending (s : State) (x : GainUnit) : (s.setGain x).pending = s.pending := rfl
@[simp] theorem State.setGain_draws (s : State) (x : GainUnit) : (s.setGain x).draws = s.draws := rfl
@[simp] theorem State.setGain_running (s : State) (x : GainUnit) : (s.setGain x).running = s.running := rfl
@[simp] theorem State.setGain_linked (s : State) (x : GainUnit) : (s.setGain x).linked = s.linked := rfl
@[simp] theorem State.setGain_active (s : State) (x : GainUnit) : (s.setGain x).active = s.active := rfl
@[simp] theorem State.setGain_same (s : State) : s.setGain s.gain = s := rfl
@[simp] theorem State.setGain_twice (s : State) (x y : GainUnit) : (s.setGain x).setGain y = s.setGain y := rfl

/-! ## setChan -/

@[simp] theorem State.setChan_ring (s : State) (x : ChannelUnit) : (s.setChan x).ring = s.ring := rfl
@[simp] theorem State.setChan_msg (s : State) (x : ChannelUnit) : (s.setChan x).msg = s.msg := rfl
@[simp] theorem State.setChan_mix (s : State) (x : ChannelUnit) : (s.setChan x).mix = s.mix := rfl
@[simp] theorem State.setChan_gain (s : State) (x : ChannelUnit) : (s.setChan x).gain = s.gain := rfl
@[simp] theorem State.setChan_chan (s : State) (x : ChannelUnit) : (s.setChan x).chan = x := rfl
@[simp] theorem State.setChan_prot (s : State) (x : ChannelUnit) : (s.setChan x).prot = s.prot := rfl
@[simp] theorem State.setChan_ant (s : State) (x : ChannelUnit) : (s.setChan x).ant = s.ant := rfl
@[simp] theorem State.setChan_radio (s : State) (x : ChannelUnit) : (s.setChan x).radio = s.radio := rfl
@[simp] theorem State.setChan_call (s : State) (x : ChannelUnit) : (s.setChan x).call = s.call := rfl
@[simp] theorem State.setChan_uplink (s : State) (x : ChannelUnit) : (s.setChan x).uplink = s.uplink := rfl
@[simp] theorem State.setChan_pending (s : State) (x : ChannelUnit) : (s.setChan x).pending = s.pending := rfl
@[simp] theorem State.setChan_draws (s : State) (x : ChannelUnit) : (s.setChan x).draws = s.draws := rfl
@[simp] theorem State.setChan_running (s : State) (x : ChannelUnit) : (s.setChan x).running = s.running := rfl
@[simp] theorem State.setChan_linked (s : State) (x : ChannelUnit) : (s.setChan x).linked = s.linked := rfl
@[simp] theorem State.setChan_active (s : State) (x : ChannelUnit) : (s.setChan x).active = s.active := rfl
@[simp] theorem State.setChan_same (s : State) : s.setChan s.chan = s := rfl
@[simp] theorem State.setChan_twice (s : State) (x y : ChannelUnit) : (s.setChan x).setChan y = s.setChan y := rfl

/-! ## setProt -/

@[simp] theorem State.setProt_ring (s : State) (x : ProtectUnit) : (s.setProt x).ring = s.ring := rfl
@[simp] theorem State.setProt_msg (s : State) (x : ProtectUnit) : (s.setProt x).msg = s.msg := rfl
@[simp] theorem State.setProt_mix (s : State) (x : ProtectUnit) : (s.setProt x).mix = s.mix := rfl
@[simp] theorem State.setProt_gain (s : State) (x : ProtectUnit) : (s.setProt x).gain = s.gain := rfl
@[simp] theorem State.setProt_chan (s : State) (x : ProtectUnit) : (s.setProt x).chan = s.chan := rfl
@[simp] theorem State.setProt_prot (s : State) (x : ProtectUnit) : (s.setProt x).prot = x := rfl
@[simp] theorem State.setProt_ant (s : State) (x : ProtectUnit) : (s.setProt x).ant = s.ant := rfl
@[simp] theorem State.setProt_radio (s : State) (x : ProtectUnit) : (s.setProt x).radio = s.radio := rfl
@[simp] theorem State.setProt_call (s : State) (x : ProtectUnit) : (s.setProt x).call = s.call := rfl
@[simp] theorem State.setProt_uplink (s : State) (x : ProtectUnit) : (s.setProt x).uplink = s.uplink := rfl
@[simp] theorem State.setProt_pending (s : State) (x : ProtectUnit) : (s.setProt x).pending = s.pending := rfl
@[simp] theorem State.setProt_draws (s : State) (x : ProtectUnit) : (s.setProt x).draws = s.draws := rfl
@[simp] theorem State.setProt_running (s : State) (x : ProtectUnit) : (s.setProt x).running = s.running := rfl
@[simp] theorem State.setProt_linked (s : State) (x : ProtectUnit) : (s.setProt x).linked = s.linked := rfl
@[simp] theorem State.setProt_active (s : State) (x : ProtectUnit) : (s.setProt x).active = s.active := rfl
@[simp] theorem State.setProt_same (s : State) : s.setProt s.prot = s := rfl
@[simp] theorem State.setProt_twice (s : State) (x y : ProtectUnit) : (s.setProt x).setProt y = s.setProt y := rfl

/-! ## setAnt -/

@[simp] theorem State.setAnt_ring (s : State) (x : AntennaUnit) : (s.setAnt x).ring = s.ring := rfl
@[simp] theorem State.setAnt_msg (s : State) (x : AntennaUnit) : (s.setAnt x).msg = s.msg := rfl
@[simp] theorem State.setAnt_mix (s : State) (x : AntennaUnit) : (s.setAnt x).mix = s.mix := rfl
@[simp] theorem State.setAnt_gain (s : State) (x : AntennaUnit) : (s.setAnt x).gain = s.gain := rfl
@[simp] theorem State.setAnt_chan (s : State) (x : AntennaUnit) : (s.setAnt x).chan = s.chan := rfl
@[simp] theorem State.setAnt_prot (s : State) (x : AntennaUnit) : (s.setAnt x).prot = s.prot := rfl
@[simp] theorem State.setAnt_ant (s : State) (x : AntennaUnit) : (s.setAnt x).ant = x := rfl
@[simp] theorem State.setAnt_radio (s : State) (x : AntennaUnit) : (s.setAnt x).radio = s.radio := rfl
@[simp] theorem State.setAnt_call (s : State) (x : AntennaUnit) : (s.setAnt x).call = s.call := rfl
@[simp] theorem State.setAnt_uplink (s : State) (x : AntennaUnit) : (s.setAnt x).uplink = s.uplink := rfl
@[simp] theorem State.setAnt_pending (s : State) (x : AntennaUnit) : (s.setAnt x).pending = s.pending := rfl
@[simp] theorem State.setAnt_draws (s : State) (x : AntennaUnit) : (s.setAnt x).draws = s.draws := rfl
@[simp] theorem State.setAnt_running (s : State) (x : AntennaUnit) : (s.setAnt x).running = s.running := rfl
@[simp] theorem State.setAnt_linked (s : State) (x : AntennaUnit) : (s.setAnt x).linked = s.linked := rfl
@[simp] theorem State.setAnt_active (s : State) (x : AntennaUnit) : (s.setAnt x).active = s.active := rfl
@[simp] theorem State.setAnt_same (s : State) : s.setAnt s.ant = s := rfl
@[simp] theorem State.setAnt_twice (s : State) (x y : AntennaUnit) : (s.setAnt x).setAnt y = s.setAnt y := rfl

/-! ## setRadio -/

@[simp] theorem State.setRadio_ring (s : State) (x : RadioUnit) : (s.setRadio x).ring = s.ring := rfl
@[simp] theorem State.setRadio_msg (s : State) (x : RadioUnit) : (s.setRadio x).msg = s.msg := rfl
@[simp] theorem State.setRadio_mix (s : State) (x : RadioUnit) : (s.setRadio x).mix = s.mix := rfl
@[simp] theorem State.setRadio_gain (s : State) (x : RadioUnit) : (s.setRadio x).gain = s.gain := rfl
@[simp] theorem State.setRadio_chan (s : State) (x : RadioUnit) : (s.setRadio x).chan = s.chan := rfl
@[simp] theorem State.setRadio_prot (s : State) (x : RadioUnit) : (s.setRadio x).prot = s.prot := rfl
@[simp] theorem State.setRadio_ant (s : State) (x : RadioUnit) : (s.setRadio x).ant = s.ant := rfl
@[simp] theorem State.setRadio_radio (s : State) (x : RadioUnit) : (s.setRadio x).radio = x := rfl
@[simp] theorem State.setRadio_call (s : State) (x : RadioUnit) : (s.setRadio x).call = s.call := rfl
@[simp] theorem State.setRadio_uplink (s : State) (x : RadioUnit) : (s.setRadio x).uplink = s.uplink := rfl
@[simp] theorem State.setRadio_pending (s : State) (x : RadioUnit) : (s.setRadio x).pending = s.pending := rfl
@[simp] theorem State.setRadio_draws (s : State) (x : RadioUnit) : (s.setRadio x).draws = s.draws := rfl
@[simp] theorem State.setRadio_running (s : State) (x : RadioUnit) : (s.setRadio x).running = s.running := rfl
@[simp] theorem State.setRadio_linked (s : State) (x : RadioUnit) : (s.setRadio x).linked = s.linked := rfl
@[simp] theorem State.setRadio_active (s : State) (x : RadioUnit) : (s.setRadio x).active = s.active := rfl
@[simp] theorem State.setRadio_same (s : State) : s.setRadio s.radio = s := rfl
@[simp] theorem State.setRadio_twice (s : State) (x y : RadioUnit) : (s.setRadio x).setRadio y = s.setRadio y := rfl

/-! ## setCall -/

@[simp] theorem State.setCall_ring (s : State) (x : CallUnit) : (s.setCall x).ring = s.ring := rfl
@[simp] theorem State.setCall_msg (s : State) (x : CallUnit) : (s.setCall x).msg = s.msg := rfl
@[simp] theorem State.setCall_mix (s : State) (x : CallUnit) : (s.setCall x).mix = s.mix := rfl
@[simp] theorem State.setCall_gain (s : State) (x : CallUnit) : (s.setCall x).gain = s.gain := rfl
@[simp] theorem State.setCall_chan (s : State) (x : CallUnit) : (s.setCall x).chan = s.chan := rfl
@[simp] theorem State.setCall_prot (s : State) (x : CallUnit) : (s.setCall x).prot = s.prot := rfl
@[simp] theorem State.setCall_ant (s : State) (x : CallUnit) : (s.setCall x).ant = s.ant := rfl
@[simp] theorem State.setCall_radio (s : State) (x : CallUnit) : (s.setCall x).radio = s.radio := rfl
@[simp] theorem State.setCall_call (s : State) (x : CallUnit) : (s.setCall x).call = x := rfl
@[simp] theorem State.setCall_uplink (s : State) (x : CallUnit) : (s.setCall x).uplink = s.uplink := rfl
@[simp] theorem State.setCall_pending (s : State) (x : CallUnit) : (s.setCall x).pending = s.pending := rfl
@[simp] theorem State.setCall_draws (s : State) (x : CallUnit) : (s.setCall x).draws = s.draws := rfl
@[simp] theorem State.setCall_running (s : State) (x : CallUnit) : (s.setCall x).running = s.running := rfl
@[simp] theorem State.setCall_linked (s : State) (x : CallUnit) : (s.setCall x).linked = s.linked := rfl
@[simp] theorem State.setCall_active (s : State) (x : CallUnit) : (s.setCall x).active = s.active := rfl
@[simp] theorem State.setCall_same (s : State) : s.setCall s.call = s := rfl
@[simp] theorem State.setCall_twice (s : State) (x y : CallUnit) : (s.setCall x).setCall y = s.setCall y := rfl

/-! ## setUplink -/

@[simp] theorem State.setUplink_ring (s : State) (x : UplinkUnit) : (s.setUplink x).ring = s.ring := rfl
@[simp] theorem State.setUplink_msg (s : State) (x : UplinkUnit) : (s.setUplink x).msg = s.msg := rfl
@[simp] theorem State.setUplink_mix (s : State) (x : UplinkUnit) : (s.setUplink x).mix = s.mix := rfl
@[simp] theorem State.setUplink_gain (s : State) (x : UplinkUnit) : (s.setUplink x).gain = s.gain := rfl
@[simp] theorem State.setUplink_chan (s : State) (x : UplinkUnit) : (s.setUplink x).chan = s.chan := rfl
@[simp] theorem State.setUplink_prot (s : State) (x : UplinkUnit) : (s.setUplink x).prot = s.prot := rfl
@[simp] theorem State.setUplink_ant (s : State) (x : UplinkUnit) : (s.setUplink x).ant = s.ant := rfl
@[simp] theorem State.setUplink_radio (s : State) (x : UplinkUnit) : (s.setUplink x).radio = s.radio := rfl
@[simp] theorem State.setUplink_call (s : State) (x : UplinkUnit) : (s.setUplink x).call = s.call := rfl
@[simp] theorem State.setUplink_uplink (s : State) (x : UplinkUnit) : (s.setUplink x).uplink = x := rfl
@[simp] theorem State.setUplink_pending (s : State) (x : UplinkUnit) : (s.setUplink x).pending = s.pending := rfl
@[simp] theorem State.setUplink_draws (s : State) (x : UplinkUnit) : (s.setUplink x).draws = s.draws := rfl
@[simp] theorem State.setUplink_running (s : State) (x : UplinkUnit) : (s.setUplink x).running = s.running := rfl
@[simp] theorem State.setUplink_linked (s : State) (x : UplinkUnit) : (s.setUplink x).linked = s.linked := rfl
@[simp] theorem State.setUplink_active (s : State) (x : UplinkUnit) : (s.setUplink x).active = s.active := rfl
@[simp] theorem State.setUplink_same (s : State) : s.setUplink s.uplink = s := rfl
@[simp] theorem State.setUplink_twice (s : State) (x y : UplinkUnit) : (s.setUplink x).setUplink y = s.setUplink y := rfl

/-! ## setPending -/

@[simp] theorem State.setPending_ring (s : State) (x : List Instr) : (s.setPending x).ring = s.ring := rfl
@[simp] theorem State.setPending_msg (s : State) (x : List Instr) : (s.setPending x).msg = s.msg := rfl
@[simp] theorem State.setPending_mix (s : State) (x : List Instr) : (s.setPending x).mix = s.mix := rfl
@[simp] theorem State.setPending_gain (s : State) (x : List Instr) : (s.setPending x).gain = s.gain := rfl
@[simp] theorem State.setPending_chan (s : State) (x : List Instr) : (s.setPending x).chan = s.chan := rfl
@[simp] theorem State.setPending_prot (s : State) (x : List Instr) : (s.setPending x).prot = s.prot := rfl
@[simp] theorem State.setPending_ant (s : State) (x : List Instr) : (s.setPending x).ant = s.ant := rfl
@[simp] theorem State.setPending_radio (s : State) (x : List Instr) : (s.setPending x).radio = s.radio := rfl
@[simp] theorem State.setPending_call (s : State) (x : List Instr) : (s.setPending x).call = s.call := rfl
@[simp] theorem State.setPending_uplink (s : State) (x : List Instr) : (s.setPending x).uplink = s.uplink := rfl
@[simp] theorem State.setPending_pending (s : State) (x : List Instr) : (s.setPending x).pending = x := rfl
@[simp] theorem State.setPending_draws (s : State) (x : List Instr) : (s.setPending x).draws = s.draws := rfl
@[simp] theorem State.setPending_running (s : State) (x : List Instr) : (s.setPending x).running = s.running := rfl
@[simp] theorem State.setPending_linked (s : State) (x : List Instr) : (s.setPending x).linked = s.linked := rfl
@[simp] theorem State.setPending_active (s : State) (x : List Instr) : (s.setPending x).active = s.active := rfl
@[simp] theorem State.setPending_same (s : State) : s.setPending s.pending = s := rfl
@[simp] theorem State.setPending_twice (s : State) (x y : List Instr) : (s.setPending x).setPending y = s.setPending y := rfl

/-! ## drawn -/

@[simp] theorem State.drawn_ring (s : State) : s.drawn.ring = s.ring := rfl
@[simp] theorem State.drawn_msg (s : State) : s.drawn.msg = s.msg := rfl
@[simp] theorem State.drawn_mix (s : State) : s.drawn.mix = s.mix := rfl
@[simp] theorem State.drawn_gain (s : State) : s.drawn.gain = s.gain := rfl
@[simp] theorem State.drawn_chan (s : State) : s.drawn.chan = s.chan := rfl
@[simp] theorem State.drawn_prot (s : State) : s.drawn.prot = s.prot := rfl
@[simp] theorem State.drawn_ant (s : State) : s.drawn.ant = s.ant := rfl
@[simp] theorem State.drawn_radio (s : State) : s.drawn.radio = s.radio := rfl
@[simp] theorem State.drawn_call (s : State) : s.drawn.call = s.call := rfl
@[simp] theorem State.drawn_uplink (s : State) : s.drawn.uplink = s.uplink := rfl
@[simp] theorem State.drawn_pending (s : State) : s.drawn.pending = s.pending := rfl
@[simp] theorem State.drawn_draws (s : State) : s.drawn.draws = s.draws + 1 := rfl
@[simp] theorem State.drawn_running (s : State) : s.drawn.running = s.running := rfl
@[simp] theorem State.drawn_linked (s : State) : s.drawn.linked = s.linked := rfl
@[simp] theorem State.drawn_active (s : State) : s.drawn.active = s.active := rfl

end Sys2Proof.Machine
end

