-- ==== Sys2Proof/Laws/Ops.lean ====
section
/-! SUPPORT. Frames of the operations every unit shares: the units of the state that each operation leaves alone. -/

namespace Sys2Proof.Machine

/-- postNotice changes at most msg. -/
@[simp] theorem postNotice_frame (d : NoticeDetail) (s : State) :
    (postNotice d s).ring = s.ring ∧ (postNotice d s).mix = s.mix ∧ (postNotice d s).gain = s.gain ∧
    (postNotice d s).chan = s.chan ∧ (postNotice d s).prot = s.prot ∧ (postNotice d s).ant = s.ant ∧
    (postNotice d s).radio = s.radio ∧ (postNotice d s).call = s.call ∧ (postNotice d s).uplink = s.uplink ∧
    (postNotice d s).pending = s.pending ∧ (postNotice d s).draws = s.draws :=
  by simp [postNotice]

/-- deferNotice changes at most msg. -/
@[simp] theorem deferNotice_frame (d : NoticeDetail) (s : State) :
    (deferNotice d s).ring = s.ring ∧ (deferNotice d s).mix = s.mix ∧ (deferNotice d s).gain = s.gain ∧
    (deferNotice d s).chan = s.chan ∧ (deferNotice d s).prot = s.prot ∧ (deferNotice d s).ant = s.ant ∧
    (deferNotice d s).radio = s.radio ∧ (deferNotice d s).call = s.call ∧ (deferNotice d s).uplink = s.uplink ∧
    (deferNotice d s).pending = s.pending ∧ (deferNotice d s).draws = s.draws :=
  by simp [deferNotice]

/-- enqueue changes at most msg. -/
@[simp] theorem enqueue_frame (m : OutMessage) (s : State) :
    (enqueue m s).ring = s.ring ∧ (enqueue m s).mix = s.mix ∧ (enqueue m s).gain = s.gain ∧
    (enqueue m s).chan = s.chan ∧ (enqueue m s).prot = s.prot ∧ (enqueue m s).ant = s.ant ∧
    (enqueue m s).radio = s.radio ∧ (enqueue m s).call = s.call ∧ (enqueue m s).uplink = s.uplink ∧
    (enqueue m s).pending = s.pending ∧ (enqueue m s).draws = s.draws :=
  by simp [enqueue]

/-- silencePoint changes at most gain. -/
@[simp] theorem silencePoint_frame (i : GainId) (s : State) :
    (silencePoint i s).ring = s.ring ∧ (silencePoint i s).msg = s.msg ∧ (silencePoint i s).mix = s.mix ∧
    (silencePoint i s).chan = s.chan ∧ (silencePoint i s).prot = s.prot ∧ (silencePoint i s).ant = s.ant ∧
    (silencePoint i s).radio = s.radio ∧ (silencePoint i s).call = s.call ∧
    (silencePoint i s).uplink = s.uplink ∧ (silencePoint i s).pending = s.pending ∧
    (silencePoint i s).draws = s.draws :=
  by simp [silencePoint]

/-- silenceAll changes at most gain. -/
@[simp] theorem silenceAll_frame (s : State) :
    (silenceAll s).ring = s.ring ∧ (silenceAll s).msg = s.msg ∧ (silenceAll s).mix = s.mix ∧
    (silenceAll s).chan = s.chan ∧ (silenceAll s).prot = s.prot ∧ (silenceAll s).ant = s.ant ∧
    (silenceAll s).radio = s.radio ∧ (silenceAll s).call = s.call ∧ (silenceAll s).uplink = s.uplink ∧
    (silenceAll s).pending = s.pending ∧ (silenceAll s).draws = s.draws :=
  by simp [silenceAll]

/-- setEcho changes at most msg and uplink. -/
@[simp] theorem setEcho_frame (e : EchoState) (s : State) :
    (setEcho e s).ring = s.ring ∧ (setEcho e s).mix = s.mix ∧ (setEcho e s).gain = s.gain ∧
    (setEcho e s).chan = s.chan ∧ (setEcho e s).prot = s.prot ∧ (setEcho e s).ant = s.ant ∧
    (setEcho e s).radio = s.radio ∧ (setEcho e s).call = s.call ∧ (setEcho e s).pending = s.pending ∧
    (setEcho e s).draws = s.draws :=
  by unfold setEcho
     try dsimp only
     (repeat' split) <;> simp

/-- callEcho changes at most msg and uplink. -/
@[simp] theorem callEcho_frame (e : EchoState) (s : State) :
    (callEcho e s).ring = s.ring ∧ (callEcho e s).mix = s.mix ∧ (callEcho e s).gain = s.gain ∧
    (callEcho e s).chan = s.chan ∧ (callEcho e s).prot = s.prot ∧ (callEcho e s).ant = s.ant ∧
    (callEcho e s).radio = s.radio ∧ (callEcho e s).call = s.call ∧ (callEcho e s).pending = s.pending ∧
    (callEcho e s).draws = s.draws :=
  by simp [callEcho]

/-- raisePath changes at most uplink. -/
@[simp] theorem raisePath_frame (s : State) :
    (raisePath s).ring = s.ring ∧ (raisePath s).msg = s.msg ∧ (raisePath s).mix = s.mix ∧
    (raisePath s).gain = s.gain ∧ (raisePath s).chan = s.chan ∧ (raisePath s).prot = s.prot ∧
    (raisePath s).ant = s.ant ∧ (raisePath s).radio = s.radio ∧ (raisePath s).call = s.call ∧
    (raisePath s).pending = s.pending ∧ (raisePath s).draws = s.draws :=
  by simp [raisePath]

/-- clearPath changes at most uplink. -/
@[simp] theorem clearPath_frame (s : State) :
    (clearPath s).ring = s.ring ∧ (clearPath s).msg = s.msg ∧ (clearPath s).mix = s.mix ∧
    (clearPath s).gain = s.gain ∧ (clearPath s).chan = s.chan ∧ (clearPath s).prot = s.prot ∧
    (clearPath s).ant = s.ant ∧ (clearPath s).radio = s.radio ∧ (clearPath s).call = s.call ∧
    (clearPath s).pending = s.pending ∧ (clearPath s).draws = s.draws :=
  by simp [clearPath]

/-- takePath changes at most msg and uplink. -/
@[simp] theorem takePath_frame (s : State) :
    (takePath s).ring = s.ring ∧ (takePath s).mix = s.mix ∧ (takePath s).gain = s.gain ∧
    (takePath s).chan = s.chan ∧ (takePath s).prot = s.prot ∧ (takePath s).ant = s.ant ∧
    (takePath s).radio = s.radio ∧ (takePath s).call = s.call ∧ (takePath s).pending = s.pending ∧
    (takePath s).draws = s.draws :=
  by unfold takePath
     try dsimp only
     (repeat' split) <;> simp


end Sys2Proof.Machine
end

