-- ==== Sys2Proof/Laws/Gain.lean ====
section
/-! SUPPORT. Frames of the gain unit: the units of the state that each operation leaves alone. -/

namespace Sys2Proof.Machine

/-- gainFrame changes at most gain, msg and uplink. -/
@[simp] theorem gainFrame_frame (s : State) :
    (gainFrame s).ring = s.ring ∧ (gainFrame s).mix = s.mix ∧ (gainFrame s).chan = s.chan ∧
    (gainFrame s).prot = s.prot ∧ (gainFrame s).ant = s.ant ∧ (gainFrame s).radio = s.radio ∧
    (gainFrame s).call = s.call ∧ (gainFrame s).pending = s.pending ∧ (gainFrame s).draws = s.draws :=
  by unfold gainFrame
     try dsimp only
     (repeat' split) <;> simp

/-- gainRecord changes at most gain. -/
@[simp] theorem gainRecord_frame (s : State) :
    (gainRecord s).ring = s.ring ∧ (gainRecord s).msg = s.msg ∧ (gainRecord s).mix = s.mix ∧
    (gainRecord s).chan = s.chan ∧ (gainRecord s).prot = s.prot ∧ (gainRecord s).ant = s.ant ∧
    (gainRecord s).radio = s.radio ∧ (gainRecord s).call = s.call ∧ (gainRecord s).uplink = s.uplink ∧
    (gainRecord s).pending = s.pending ∧ (gainRecord s).draws = s.draws :=
  by simp [gainRecord]


end Sys2Proof.Machine
end

