-- ==== Sys2Proof/Laws/Mix.lean ====
section
/-! SUPPORT. Frames of the mix unit: the units of the state that each operation leaves alone. -/

namespace Sys2Proof.Machine

/-- setSeatMode changes at most mix. -/
@[simp] theorem setSeatMode_frame (z : Fin 2) (b : Bool) (s : State) :
    (setSeatMode z b s).ring = s.ring ∧ (setSeatMode z b s).msg = s.msg ∧ (setSeatMode z b s).gain = s.gain ∧
    (setSeatMode z b s).chan = s.chan ∧ (setSeatMode z b s).prot = s.prot ∧ (setSeatMode z b s).ant = s.ant ∧
    (setSeatMode z b s).radio = s.radio ∧ (setSeatMode z b s).call = s.call ∧
    (setSeatMode z b s).uplink = s.uplink ∧ (setSeatMode z b s).pending = s.pending ∧
    (setSeatMode z b s).draws = s.draws :=
  by simp [setSeatMode]

/-- endPending changes at most mix and msg. -/
@[simp] theorem endPending_frame (z : Fin 2) (c : Claim) (s : State) :
    (endPending z c s).ring = s.ring ∧ (endPending z c s).gain = s.gain ∧ (endPending z c s).chan = s.chan ∧
    (endPending z c s).prot = s.prot ∧ (endPending z c s).ant = s.ant ∧ (endPending z c s).radio = s.radio ∧
    (endPending z c s).call = s.call ∧ (endPending z c s).uplink = s.uplink ∧
    (endPending z c s).pending = s.pending ∧ (endPending z c s).draws = s.draws :=
  by simp [endPending]

/-- releaseHeld changes at most mix. -/
@[simp] theorem releaseHeld_frame (z : Fin 2) (s : State) :
    (releaseHeld z s).ring = s.ring ∧ (releaseHeld z s).msg = s.msg ∧ (releaseHeld z s).gain = s.gain ∧
    (releaseHeld z s).chan = s.chan ∧ (releaseHeld z s).prot = s.prot ∧ (releaseHeld z s).ant = s.ant ∧
    (releaseHeld z s).radio = s.radio ∧ (releaseHeld z s).call = s.call ∧ (releaseHeld z s).uplink = s.uplink ∧
    (releaseHeld z s).pending = s.pending ∧ (releaseHeld z s).draws = s.draws :=
  by simp [releaseHeld]

/-- claimReachesNone changes at most mix and msg. -/
@[simp] theorem claimReachesNone_frame (z : Fin 2) (s : State) :
    (claimReachesNone z s).ring = s.ring ∧ (claimReachesNone z s).gain = s.gain ∧
    (claimReachesNone z s).chan = s.chan ∧ (claimReachesNone z s).prot = s.prot ∧
    (claimReachesNone z s).ant = s.ant ∧ (claimReachesNone z s).radio = s.radio ∧
    (claimReachesNone z s).call = s.call ∧ (claimReachesNone z s).uplink = s.uplink ∧
    (claimReachesNone z s).pending = s.pending ∧ (claimReachesNone z s).draws = s.draws :=
  by unfold claimReachesNone
     try dsimp only
     (repeat' split) <;> simp

/-- claimBecomesHeld changes at most mix and msg. -/
@[simp] theorem claimBecomesHeld_frame (z : Fin 2) (s : State) :
    (claimBecomesHeld z s).ring = s.ring ∧ (claimBecomesHeld z s).gain = s.gain ∧
    (claimBecomesHeld z s).chan = s.chan ∧ (claimBecomesHeld z s).prot = s.prot ∧
    (claimBecomesHeld z s).ant = s.ant ∧ (claimBecomesHeld z s).radio = s.radio ∧
    (claimBecomesHeld z s).call = s.call ∧ (claimBecomesHeld z s).uplink = s.uplink ∧
    (claimBecomesHeld z s).pending = s.pending ∧ (claimBecomesHeld z s).draws = s.draws :=
  by unfold claimBecomesHeld
     try dsimp only
     (repeat' split) <;> simp

/-- settleClaims changes at most mix and msg. -/
@[simp] theorem settleClaims_frame (s : State) :
    (settleClaims s).ring = s.ring ∧ (settleClaims s).gain = s.gain ∧ (settleClaims s).chan = s.chan ∧
    (settleClaims s).prot = s.prot ∧ (settleClaims s).ant = s.ant ∧ (settleClaims s).radio = s.radio ∧
    (settleClaims s).call = s.call ∧ (settleClaims s).uplink = s.uplink ∧
    (settleClaims s).pending = s.pending ∧ (settleClaims s).draws = s.draws :=
  by unfold settleClaims; dsimp only; split_ifs <;> simp

/-- newClaim changes at most mix and msg. -/
@[simp] theorem newClaim_frame (z : Fin 2) (x : Source) (s : State) :
    (newClaim z x s).ring = s.ring ∧ (newClaim z x s).gain = s.gain ∧ (newClaim z x s).chan = s.chan ∧
    (newClaim z x s).prot = s.prot ∧ (newClaim z x s).ant = s.ant ∧ (newClaim z x s).radio = s.radio ∧
    (newClaim z x s).call = s.call ∧ (newClaim z x s).uplink = s.uplink ∧
    (newClaim z x s).pending = s.pending ∧ (newClaim z x s).draws = s.draws :=
  by unfold newClaim
     try dsimp only
     (repeat' split) <;> simp

/-- silenceShared changes at most gain. -/
@[simp] theorem silenceShared_frame (x : Source) (s : State) :
    (silenceShared x s).ring = s.ring ∧ (silenceShared x s).msg = s.msg ∧ (silenceShared x s).mix = s.mix ∧
    (silenceShared x s).chan = s.chan ∧ (silenceShared x s).prot = s.prot ∧ (silenceShared x s).ant = s.ant ∧
    (silenceShared x s).radio = s.radio ∧ (silenceShared x s).call = s.call ∧
    (silenceShared x s).uplink = s.uplink ∧ (silenceShared x s).pending = s.pending ∧
    (silenceShared x s).draws = s.draws :=
  by simp [silenceShared]

/-- releaseAtOnce changes at most mix, msg and gain. -/
@[simp] theorem releaseAtOnce_frame (z : Fin 2) (s : State) :
    (releaseAtOnce z s).ring = s.ring ∧ (releaseAtOnce z s).chan = s.chan ∧ (releaseAtOnce z s).prot = s.prot ∧
    (releaseAtOnce z s).ant = s.ant ∧ (releaseAtOnce z s).radio = s.radio ∧ (releaseAtOnce z s).call = s.call ∧
    (releaseAtOnce z s).uplink = s.uplink ∧ (releaseAtOnce z s).pending = s.pending ∧
    (releaseAtOnce z s).draws = s.draws :=
  by simp [releaseAtOnce]

/-- claimAtOnce changes at most mix, msg and gain. -/
@[simp] theorem claimAtOnce_frame (z : Fin 2) (x : Source) (s : State) :
    (claimAtOnce z x s).ring = s.ring ∧ (claimAtOnce z x s).chan = s.chan ∧ (claimAtOnce z x s).prot = s.prot ∧
    (claimAtOnce z x s).ant = s.ant ∧ (claimAtOnce z x s).radio = s.radio ∧ (claimAtOnce z x s).call = s.call ∧
    (claimAtOnce z x s).uplink = s.uplink ∧ (claimAtOnce z x s).pending = s.pending ∧
    (claimAtOnce z x s).draws = s.draws :=
  by simp [claimAtOnce]

/-- releaseAll changes at most mix and msg. -/
@[simp] theorem releaseAll_frame (s : State) :
    (releaseAll s).ring = s.ring ∧ (releaseAll s).gain = s.gain ∧ (releaseAll s).chan = s.chan ∧
    (releaseAll s).prot = s.prot ∧ (releaseAll s).ant = s.ant ∧ (releaseAll s).radio = s.radio ∧
    (releaseAll s).call = s.call ∧ (releaseAll s).uplink = s.uplink ∧ (releaseAll s).pending = s.pending ∧
    (releaseAll s).draws = s.draws :=
  by unfold releaseAll; try dsimp only
     (repeat' split) <;> simp

/-- dropReleasing changes at most mix and msg. -/
@[simp] theorem dropReleasing_frame (s : State) :
    (dropReleasing s).ring = s.ring ∧ (dropReleasing s).gain = s.gain ∧ (dropReleasing s).chan = s.chan ∧
    (dropReleasing s).prot = s.prot ∧ (dropReleasing s).ant = s.ant ∧ (dropReleasing s).radio = s.radio ∧
    (dropReleasing s).call = s.call ∧ (dropReleasing s).uplink = s.uplink ∧
    (dropReleasing s).pending = s.pending ∧ (dropReleasing s).draws = s.draws :=
  by simp [dropReleasing]


end Sys2Proof.Machine
end

