-- ==== Sys2Proof/Laws/Channel.lean ====
section
/-! SUPPORT. Frames of the channel unit: the units of the state that each operation leaves alone. -/

namespace Sys2Proof.Machine

/-- channelFrame changes at most chan. -/
@[simp] theorem channelFrame_frame (b : Vector (Int × Int) 5) (s : State) :
    (channelFrame b s).ring = s.ring ∧ (channelFrame b s).msg = s.msg ∧ (channelFrame b s).mix = s.mix ∧
    (channelFrame b s).gain = s.gain ∧ (channelFrame b s).prot = s.prot ∧ (channelFrame b s).ant = s.ant ∧
    (channelFrame b s).radio = s.radio ∧ (channelFrame b s).call = s.call ∧
    (channelFrame b s).uplink = s.uplink ∧ (channelFrame b s).pending = s.pending ∧
    (channelFrame b s).draws = s.draws :=
  by simp [channelFrame]

/-- clearPeaks changes at most chan. -/
@[simp] theorem clearPeaks_frame (s : State) :
    (clearPeaks s).ring = s.ring ∧ (clearPeaks s).msg = s.msg ∧ (clearPeaks s).mix = s.mix ∧
    (clearPeaks s).gain = s.gain ∧ (clearPeaks s).prot = s.prot ∧ (clearPeaks s).ant = s.ant ∧
    (clearPeaks s).radio = s.radio ∧ (clearPeaks s).call = s.call ∧ (clearPeaks s).uplink = s.uplink ∧
    (clearPeaks s).pending = s.pending ∧ (clearPeaks s).draws = s.draws :=
  by simp [clearPeaks]

/-- setChannel changes at most chan. -/
@[simp] theorem setChannel_frame (c : Fin 28) (x : Channel) (s : State) :
    (setChannel c x s).ring = s.ring ∧ (setChannel c x s).msg = s.msg ∧ (setChannel c x s).mix = s.mix ∧
    (setChannel c x s).gain = s.gain ∧ (setChannel c x s).prot = s.prot ∧ (setChannel c x s).ant = s.ant ∧
    (setChannel c x s).radio = s.radio ∧ (setChannel c x s).call = s.call ∧
    (setChannel c x s).uplink = s.uplink ∧ (setChannel c x s).pending = s.pending ∧
    (setChannel c x s).draws = s.draws :=
  by simp [setChannel]

/-- setSpareState changes at most chan. -/
@[simp] theorem setSpareState_frame (c : Fin 28) (x : SpareState) (s : State) :
    (setSpareState c x s).ring = s.ring ∧ (setSpareState c x s).msg = s.msg ∧
    (setSpareState c x s).mix = s.mix ∧ (setSpareState c x s).gain = s.gain ∧
    (setSpareState c x s).prot = s.prot ∧ (setSpareState c x s).ant = s.ant ∧
    (setSpareState c x s).radio = s.radio ∧ (setSpareState c x s).call = s.call ∧
    (setSpareState c x s).uplink = s.uplink ∧ (setSpareState c x s).pending = s.pending ∧
    (setSpareState c x s).draws = s.draws :=
  by simp [setSpareState]

/-- swapChannel changes at most chan. -/
@[simp] theorem swapChannel_frame (c : Fin 28) (s : State) :
    (swapChannel c s).ring = s.ring ∧ (swapChannel c s).msg = s.msg ∧ (swapChannel c s).mix = s.mix ∧
    (swapChannel c s).gain = s.gain ∧ (swapChannel c s).prot = s.prot ∧ (swapChannel c s).ant = s.ant ∧
    (swapChannel c s).radio = s.radio ∧ (swapChannel c s).call = s.call ∧ (swapChannel c s).uplink = s.uplink ∧
    (swapChannel c s).pending = s.pending ∧ (swapChannel c s).draws = s.draws :=
  by simp [swapChannel]

/-- queueActivation changes at most chan. -/
@[simp] theorem queueActivation_frame (c : Fin 28) (s : State) :
    (queueActivation c s).ring = s.ring ∧ (queueActivation c s).msg = s.msg ∧
    (queueActivation c s).mix = s.mix ∧ (queueActivation c s).gain = s.gain ∧
    (queueActivation c s).prot = s.prot ∧ (queueActivation c s).ant = s.ant ∧
    (queueActivation c s).radio = s.radio ∧ (queueActivation c s).call = s.call ∧
    (queueActivation c s).uplink = s.uplink ∧ (queueActivation c s).pending = s.pending ∧
    (queueActivation c s).draws = s.draws :=
  by simp [queueActivation]

/-- activateOnClose changes at most chan and msg. -/
@[simp] theorem activateOnClose_frame (c : Fin 28) (s : State) :
    (activateOnClose c s).ring = s.ring ∧ (activateOnClose c s).mix = s.mix ∧
    (activateOnClose c s).gain = s.gain ∧ (activateOnClose c s).prot = s.prot ∧
    (activateOnClose c s).ant = s.ant ∧ (activateOnClose c s).radio = s.radio ∧
    (activateOnClose c s).call = s.call ∧ (activateOnClose c s).uplink = s.uplink ∧
    (activateOnClose c s).pending = s.pending ∧ (activateOnClose c s).draws = s.draws :=
  by unfold activateOnClose; (repeat' split) <;> simp

/-- serveUnit changes at most chan. -/
@[simp] theorem serveUnit_frame (u : Fin 4) (s : State) :
    (serveUnit u s).ring = s.ring ∧ (serveUnit u s).msg = s.msg ∧ (serveUnit u s).mix = s.mix ∧
    (serveUnit u s).gain = s.gain ∧ (serveUnit u s).prot = s.prot ∧ (serveUnit u s).ant = s.ant ∧
    (serveUnit u s).radio = s.radio ∧ (serveUnit u s).call = s.call ∧ (serveUnit u s).uplink = s.uplink ∧
    (serveUnit u s).pending = s.pending ∧ (serveUnit u s).draws = s.draws :=
  by unfold serveUnit; split <;> simp [setChannel]

/-- serveQueue changes at most chan. -/
@[simp] theorem serveQueue_frame (s : State) :
    (serveQueue s).ring = s.ring ∧ (serveQueue s).msg = s.msg ∧ (serveQueue s).mix = s.mix ∧
    (serveQueue s).gain = s.gain ∧ (serveQueue s).prot = s.prot ∧ (serveQueue s).ant = s.ant ∧
    (serveQueue s).radio = s.radio ∧ (serveQueue s).call = s.call ∧ (serveQueue s).uplink = s.uplink ∧
    (serveQueue s).pending = s.pending ∧ (serveQueue s).draws = s.draws :=
  by simp [serveQueue]

/-- endFade changes at most chan, msg and uplink. -/
@[simp] theorem endFade_frame (u : Fin 4) (s : State) :
    (endFade u s).ring = s.ring ∧ (endFade u s).mix = s.mix ∧ (endFade u s).gain = s.gain ∧
    (endFade u s).prot = s.prot ∧ (endFade u s).ant = s.ant ∧ (endFade u s).radio = s.radio ∧
    (endFade u s).call = s.call ∧ (endFade u s).pending = s.pending ∧ (endFade u s).draws = s.draws :=
  by unfold endFade
     try dsimp only
     (repeat' split) <;> simp

/-- endFades changes at most chan, msg and uplink. -/
@[simp] theorem endFades_frame (s : State) :
    (endFades s).ring = s.ring ∧ (endFades s).mix = s.mix ∧ (endFades s).gain = s.gain ∧
    (endFades s).prot = s.prot ∧ (endFades s).ant = s.ant ∧ (endFades s).radio = s.radio ∧
    (endFades s).call = s.call ∧ (endFades s).pending = s.pending ∧ (endFades s).draws = s.draws :=
  by
  have key (l : List (Fin 4)) (t : State) :
      (l.foldl (fun t u => if fadeOver t u then endFade u t else t) t).ring = t.ring ∧ (l.foldl (fun t u => if fadeOver t u then endFade u t else t) t).mix = t.mix ∧ (l.foldl (fun t u => if fadeOver t u then endFade u t else t) t).gain = t.gain ∧ (l.foldl (fun t u => if fadeOver t u then endFade u t else t) t).prot = t.prot ∧ (l.foldl (fun t u => if fadeOver t u then endFade u t else t) t).ant = t.ant ∧ (l.foldl (fun t u => if fadeOver t u then endFade u t else t) t).radio = t.radio ∧ (l.foldl (fun t u => if fadeOver t u then endFade u t else t) t).call = t.call ∧ (l.foldl (fun t u => if fadeOver t u then endFade u t else t) t).pending = t.pending ∧ (l.foldl (fun t u => if fadeOver t u then endFade u t else t) t).draws = t.draws := by
    induction l generalizing t with
    | nil => simp
    | cons a l ih => simp only [List.foldl_cons, ih]; split <;> simp
  exact key _ s

/-- startChannels changes at most chan. -/
@[simp] theorem startChannels_frame (s : State) :
    (startChannels s).ring = s.ring ∧ (startChannels s).msg = s.msg ∧ (startChannels s).mix = s.mix ∧
    (startChannels s).gain = s.gain ∧ (startChannels s).prot = s.prot ∧ (startChannels s).ant = s.ant ∧
    (startChannels s).radio = s.radio ∧ (startChannels s).call = s.call ∧ (startChannels s).uplink = s.uplink ∧
    (startChannels s).pending = s.pending ∧ (startChannels s).draws = s.draws :=
  by simp [startChannels]

/-- completeActivations changes at most msg and chan, whether its notices are posted or deferred. -/
theorem completeActivations_keeps (post : NoticeDetail → State → State) (f : State → α)
    (hp : ∀ d s, f (post d s) = f s) (hc : ∀ s x, f (s.setChan x) = f s) (s : State) :
    f (completeActivations post s) = f s := by
  have key (l : List (Fin 28)) (t : State) :
      f (l.foldl (fun t c => post (.bank c .immediate 0) (swapChannel c t)) t) = f t := by
    induction l generalizing t with
    | nil => rfl
    | cons a l ih => simp only [List.foldl_cons, ih, hp]; exact hc _ _
  simp only [completeActivations, hc, key]

/-- completeActivations with its notices posted changes at most msg and chan. -/
@[simp] theorem completeActivations_frame (s : State) :
    (completeActivations postNotice s).ring = s.ring ∧ (completeActivations postNotice s).mix = s.mix ∧
    (completeActivations postNotice s).gain = s.gain ∧ (completeActivations postNotice s).prot = s.prot ∧
    (completeActivations postNotice s).ant = s.ant ∧ (completeActivations postNotice s).radio = s.radio ∧
    (completeActivations postNotice s).call = s.call ∧ (completeActivations postNotice s).uplink = s.uplink ∧
    (completeActivations postNotice s).pending = s.pending ∧
    (completeActivations postNotice s).draws = s.draws :=
  ⟨completeActivations_keeps postNotice (·.ring) (fun _ _ => by simp) (fun _ _ => rfl) s,
   completeActivations_keeps postNotice (·.mix) (fun _ _ => by simp) (fun _ _ => rfl) s,
   completeActivations_keeps postNotice (·.gain) (fun _ _ => by simp) (fun _ _ => rfl) s,
   completeActivations_keeps postNotice (·.prot) (fun _ _ => by simp) (fun _ _ => rfl) s,
   completeActivations_keeps postNotice (·.ant) (fun _ _ => by simp) (fun _ _ => rfl) s,
   completeActivations_keeps postNotice (·.radio) (fun _ _ => by simp) (fun _ _ => rfl) s,
   completeActivations_keeps postNotice (·.call) (fun _ _ => by simp) (fun _ _ => rfl) s,
   completeActivations_keeps postNotice (·.uplink) (fun _ _ => by simp) (fun _ _ => rfl) s,
   completeActivations_keeps postNotice (·.pending) (fun _ _ => by simp) (fun _ _ => rfl) s,
   completeActivations_keeps postNotice (·.draws) (fun _ _ => by simp) (fun _ _ => rfl) s⟩

/-- completeActivations with its notices deferred changes at most msg and chan. -/
@[simp] theorem completeActivations_deferred_frame (s : State) :
    (completeActivations deferNotice s).ring = s.ring ∧ (completeActivations deferNotice s).mix = s.mix ∧
    (completeActivations deferNotice s).gain = s.gain ∧ (completeActivations deferNotice s).prot = s.prot ∧
    (completeActivations deferNotice s).ant = s.ant ∧ (completeActivations deferNotice s).radio = s.radio ∧
    (completeActivations deferNotice s).call = s.call ∧
    (completeActivations deferNotice s).uplink = s.uplink ∧
    (completeActivations deferNotice s).pending = s.pending ∧
    (completeActivations deferNotice s).draws = s.draws :=
  ⟨completeActivations_keeps deferNotice (·.ring) (fun _ _ => by simp) (fun _ _ => rfl) s,
   completeActivations_keeps deferNotice (·.mix) (fun _ _ => by simp) (fun _ _ => rfl) s,
   completeActivations_keeps deferNotice (·.gain) (fun _ _ => by simp) (fun _ _ => rfl) s,
   completeActivations_keeps deferNotice (·.prot) (fun _ _ => by simp) (fun _ _ => rfl) s,
   completeActivations_keeps deferNotice (·.ant) (fun _ _ => by simp) (fun _ _ => rfl) s,
   completeActivations_keeps deferNotice (·.radio) (fun _ _ => by simp) (fun _ _ => rfl) s,
   completeActivations_keeps deferNotice (·.call) (fun _ _ => by simp) (fun _ _ => rfl) s,
   completeActivations_keeps deferNotice (·.uplink) (fun _ _ => by simp) (fun _ _ => rfl) s,
   completeActivations_keeps deferNotice (·.pending) (fun _ _ => by simp) (fun _ _ => rfl) s,
   completeActivations_keeps deferNotice (·.draws) (fun _ _ => by simp) (fun _ _ => rfl) s⟩

end Sys2Proof.Machine
end

