-- ==== Sys2Proof/Laws/Protect.lean ====
section
/-! SUPPORT. Frames of the protection unit: the units of the state that each operation leaves alone. -/

namespace Sys2Proof.Machine

/-- ampFrame changes at most prot. -/
@[simp] theorem ampFrame_frame (f : Frame) (s : State) :
    (ampFrame f s).ring = s.ring ∧ (ampFrame f s).msg = s.msg ∧ (ampFrame f s).mix = s.mix ∧
    (ampFrame f s).gain = s.gain ∧ (ampFrame f s).chan = s.chan ∧ (ampFrame f s).ant = s.ant ∧
    (ampFrame f s).radio = s.radio ∧ (ampFrame f s).call = s.call ∧ (ampFrame f s).uplink = s.uplink ∧
    (ampFrame f s).pending = s.pending ∧ (ampFrame f s).draws = s.draws :=
  by simp [ampFrame]

/-- startAmps changes at most prot. -/
@[simp] theorem startAmps_frame (s : State) :
    (startAmps s).ring = s.ring ∧ (startAmps s).msg = s.msg ∧ (startAmps s).mix = s.mix ∧
    (startAmps s).gain = s.gain ∧ (startAmps s).chan = s.chan ∧ (startAmps s).ant = s.ant ∧
    (startAmps s).radio = s.radio ∧ (startAmps s).call = s.call ∧ (startAmps s).uplink = s.uplink ∧
    (startAmps s).pending = s.pending ∧ (startAmps s).draws = s.draws :=
  by simp [startAmps]

/-- setProtection changes at most prot and uplink. -/
@[simp] theorem setProtection_frame (c : Fin 28) (r : ProtectRecord) (s : State) :
    (setProtection c r s).ring = s.ring ∧ (setProtection c r s).msg = s.msg ∧
    (setProtection c r s).mix = s.mix ∧ (setProtection c r s).gain = s.gain ∧
    (setProtection c r s).chan = s.chan ∧ (setProtection c r s).ant = s.ant ∧
    (setProtection c r s).radio = s.radio ∧ (setProtection c r s).call = s.call ∧
    (setProtection c r s).pending = s.pending ∧ (setProtection c r s).draws = s.draws :=
  by unfold setProtection
     try dsimp only
     (repeat' split) <;> simp

/-- postNotices changes at most msg. -/
@[simp] theorem postNotices_frame (ds : List NoticeDetail) (s : State) :
    (postNotices ds s).ring = s.ring ∧ (postNotices ds s).mix = s.mix ∧ (postNotices ds s).gain = s.gain ∧
    (postNotices ds s).chan = s.chan ∧ (postNotices ds s).prot = s.prot ∧ (postNotices ds s).ant = s.ant ∧
    (postNotices ds s).radio = s.radio ∧ (postNotices ds s).call = s.call ∧
    (postNotices ds s).uplink = s.uplink ∧ (postNotices ds s).pending = s.pending ∧
    (postNotices ds s).draws = s.draws :=
  by
  have key (l : List NoticeDetail) (t : State) :
      (l.foldl (fun t d => postNotice d t) t).ring = t.ring ∧ (l.foldl (fun t d => postNotice d t) t).mix = t.mix ∧ (l.foldl (fun t d => postNotice d t) t).gain = t.gain ∧ (l.foldl (fun t d => postNotice d t) t).chan = t.chan ∧ (l.foldl (fun t d => postNotice d t) t).prot = t.prot ∧ (l.foldl (fun t d => postNotice d t) t).ant = t.ant ∧ (l.foldl (fun t d => postNotice d t) t).radio = t.radio ∧ (l.foldl (fun t d => postNotice d t) t).call = t.call ∧ (l.foldl (fun t d => postNotice d t) t).uplink = t.uplink ∧ (l.foldl (fun t d => postNotice d t) t).pending = t.pending ∧ (l.foldl (fun t d => postNotice d t) t).draws = t.draws := by
    induction l generalizing t with
    | nil => simp
    | cons a l ih => simp only [List.foldl_cons, ih]; simp
  exact key ds s

/-- moveProtection changes at most prot, msg and uplink. -/
@[simp] theorem moveProtection_frame (c : Fin 28) (a b : Tier) (f : Bool × Nat) (s : State) :
    (moveProtection c a b f s).ring = s.ring ∧ (moveProtection c a b f s).mix = s.mix ∧
    (moveProtection c a b f s).gain = s.gain ∧ (moveProtection c a b f s).chan = s.chan ∧
    (moveProtection c a b f s).ant = s.ant ∧ (moveProtection c a b f s).radio = s.radio ∧
    (moveProtection c a b f s).call = s.call ∧ (moveProtection c a b f s).pending = s.pending ∧
    (moveProtection c a b f s).draws = s.draws :=
  by simp [moveProtection]

/-- clearRestarts changes at most prot. -/
@[simp] theorem clearRestarts_frame (c : Fin 28) (s : State) :
    (clearRestarts c s).ring = s.ring ∧ (clearRestarts c s).msg = s.msg ∧ (clearRestarts c s).mix = s.mix ∧
    (clearRestarts c s).gain = s.gain ∧ (clearRestarts c s).chan = s.chan ∧ (clearRestarts c s).ant = s.ant ∧
    (clearRestarts c s).radio = s.radio ∧ (clearRestarts c s).call = s.call ∧
    (clearRestarts c s).uplink = s.uplink ∧ (clearRestarts c s).pending = s.pending ∧
    (clearRestarts c s).draws = s.draws :=
  by simp [clearRestarts]

/-- setClass changes at most prot. -/
@[simp] theorem setClass_frame (k : Fin 4) (x : ProtectClass) (s : State) :
    (setClass k x s).ring = s.ring ∧ (setClass k x s).msg = s.msg ∧ (setClass k x s).mix = s.mix ∧
    (setClass k x s).gain = s.gain ∧ (setClass k x s).chan = s.chan ∧ (setClass k x s).ant = s.ant ∧
    (setClass k x s).radio = s.radio ∧ (setClass k x s).call = s.call ∧ (setClass k x s).uplink = s.uplink ∧
    (setClass k x s).pending = s.pending ∧ (setClass k x s).draws = s.draws :=
  by simp [setClass]

/-- evaluateChannel changes at most prot, msg and uplink. -/
@[simp] theorem evaluateChannel_frame (s : State) (c : Fin 28) :
    (evaluateChannel s c).ring = s.ring ∧ (evaluateChannel s c).mix = s.mix ∧
    (evaluateChannel s c).gain = s.gain ∧ (evaluateChannel s c).chan = s.chan ∧
    (evaluateChannel s c).ant = s.ant ∧ (evaluateChannel s c).radio = s.radio ∧
    (evaluateChannel s c).call = s.call ∧ (evaluateChannel s c).pending = s.pending ∧
    (evaluateChannel s c).draws = s.draws :=
  by unfold evaluateChannel
     try dsimp only
     (repeat' split) <;> simp

/-- protectEvaluate changes at most prot, msg, uplink and chan. -/
@[simp] theorem protectEvaluate_frame (s : State) :
    (protectEvaluate s).ring = s.ring ∧ (protectEvaluate s).mix = s.mix ∧ (protectEvaluate s).gain = s.gain ∧
    (protectEvaluate s).ant = s.ant ∧ (protectEvaluate s).radio = s.radio ∧ (protectEvaluate s).call = s.call ∧
    (protectEvaluate s).pending = s.pending ∧ (protectEvaluate s).draws = s.draws :=
  by
  have key (l : List (Fin 28)) (t : State) :
      (l.foldl evaluateChannel t).ring = t.ring ∧ (l.foldl evaluateChannel t).mix = t.mix ∧ (l.foldl evaluateChannel t).gain = t.gain ∧ (l.foldl evaluateChannel t).chan = t.chan ∧ (l.foldl evaluateChannel t).ant = t.ant ∧ (l.foldl evaluateChannel t).radio = t.radio ∧ (l.foldl evaluateChannel t).call = t.call ∧ (l.foldl evaluateChannel t).pending = t.pending ∧ (l.foldl evaluateChannel t).draws = t.draws := by
    induction l generalizing t with
    | nil => simp
    | cons a l ih => simp only [List.foldl_cons, ih]; simp
  simp [protectEvaluate, key]

/-- clearProtection changes at most prot and uplink. -/
@[simp] theorem clearProtection_frame (c : Fin 28) (s : State) :
    (clearProtection c s).ring = s.ring ∧ (clearProtection c s).msg = s.msg ∧
    (clearProtection c s).mix = s.mix ∧ (clearProtection c s).gain = s.gain ∧
    (clearProtection c s).chan = s.chan ∧ (clearProtection c s).ant = s.ant ∧
    (clearProtection c s).radio = s.radio ∧ (clearProtection c s).call = s.call ∧
    (clearProtection c s).pending = s.pending ∧ (clearProtection c s).draws = s.draws :=
  by unfold clearProtection
     try dsimp only
     (repeat' split) <;> simp


end Sys2Proof.Machine
end

