-- ==== Sys2Proof/Laws/Antenna.lean ====
section
/-! SUPPORT. Frames of the antenna unit: the units of the state that each operation leaves alone. -/

namespace Sys2Proof.Machine

/-- antennaFrame changes at most ant. -/
@[simp] theorem antennaFrame_frame (f : Frame) (s : State) :
    (antennaFrame f s).ring = s.ring ∧ (antennaFrame f s).msg = s.msg ∧ (antennaFrame f s).mix = s.mix ∧
    (antennaFrame f s).gain = s.gain ∧ (antennaFrame f s).chan = s.chan ∧ (antennaFrame f s).prot = s.prot ∧
    (antennaFrame f s).radio = s.radio ∧ (antennaFrame f s).call = s.call ∧
    (antennaFrame f s).uplink = s.uplink ∧ (antennaFrame f s).pending = s.pending ∧
    (antennaFrame f s).draws = s.draws :=
  by simp [antennaFrame]

/-- applyPendingMode changes at most ant and msg. -/
@[simp] theorem applyPendingMode_frame (s : State) :
    (applyPendingMode postNotice s).ring = s.ring ∧ (applyPendingMode postNotice s).mix = s.mix ∧
    (applyPendingMode postNotice s).gain = s.gain ∧ (applyPendingMode postNotice s).chan = s.chan ∧
    (applyPendingMode postNotice s).prot = s.prot ∧ (applyPendingMode postNotice s).radio = s.radio ∧
    (applyPendingMode postNotice s).call = s.call ∧ (applyPendingMode postNotice s).uplink = s.uplink ∧
    (applyPendingMode postNotice s).pending = s.pending ∧ (applyPendingMode postNotice s).draws = s.draws :=
  by unfold applyPendingMode
     try dsimp only
     (repeat' split) <;> simp

/-- endSwitchFade changes at most ant and msg. -/
@[simp] theorem endSwitchFade_frame (s : State) :
    (endSwitchFade postNotice s).ring = s.ring ∧ (endSwitchFade postNotice s).mix = s.mix ∧
    (endSwitchFade postNotice s).gain = s.gain ∧ (endSwitchFade postNotice s).chan = s.chan ∧
    (endSwitchFade postNotice s).prot = s.prot ∧ (endSwitchFade postNotice s).radio = s.radio ∧
    (endSwitchFade postNotice s).call = s.call ∧ (endSwitchFade postNotice s).uplink = s.uplink ∧
    (endSwitchFade postNotice s).pending = s.pending ∧ (endSwitchFade postNotice s).draws = s.draws :=
  by unfold endSwitchFade
     try dsimp only
     (repeat' split) <;> simp

/-- evaluateAntenna changes at most ant and msg. -/
@[simp] theorem evaluateAntenna_frame (s : State) (a : Fin 4) :
    (evaluateAntenna s a).ring = s.ring ∧ (evaluateAntenna s a).mix = s.mix ∧
    (evaluateAntenna s a).gain = s.gain ∧ (evaluateAntenna s a).chan = s.chan ∧
    (evaluateAntenna s a).prot = s.prot ∧ (evaluateAntenna s a).radio = s.radio ∧
    (evaluateAntenna s a).call = s.call ∧ (evaluateAntenna s a).uplink = s.uplink ∧
    (evaluateAntenna s a).pending = s.pending ∧ (evaluateAntenna s a).draws = s.draws :=
  by unfold evaluateAntenna
     try dsimp only
     (repeat' split) <;> simp

/-- antennaEvaluate changes at most ant and msg. -/
@[simp] theorem antennaEvaluate_frame (s : State) :
    (antennaEvaluate s).ring = s.ring ∧ (antennaEvaluate s).mix = s.mix ∧ (antennaEvaluate s).gain = s.gain ∧
    (antennaEvaluate s).chan = s.chan ∧ (antennaEvaluate s).prot = s.prot ∧
    (antennaEvaluate s).radio = s.radio ∧ (antennaEvaluate s).call = s.call ∧
    (antennaEvaluate s).uplink = s.uplink ∧ (antennaEvaluate s).pending = s.pending ∧
    (antennaEvaluate s).draws = s.draws :=
  by
  have key (l : List (Fin 4)) (t : State) :
      (l.foldl evaluateAntenna t).ring = t.ring ∧ (l.foldl evaluateAntenna t).mix = t.mix ∧ (l.foldl evaluateAntenna t).gain = t.gain ∧ (l.foldl evaluateAntenna t).chan = t.chan ∧ (l.foldl evaluateAntenna t).prot = t.prot ∧ (l.foldl evaluateAntenna t).radio = t.radio ∧ (l.foldl evaluateAntenna t).call = t.call ∧ (l.foldl evaluateAntenna t).uplink = t.uplink ∧ (l.foldl evaluateAntenna t).pending = t.pending ∧ (l.foldl evaluateAntenna t).draws = t.draws := by
    induction l generalizing t with
    | nil => simp
    | cons a l ih => simp only [List.foldl_cons, ih]; simp
  simp [antennaEvaluate, key]

/-- startAntennas changes at most ant. -/
@[simp] theorem startAntennas_frame (s : State) :
    (startAntennas s).ring = s.ring ∧ (startAntennas s).msg = s.msg ∧ (startAntennas s).mix = s.mix ∧
    (startAntennas s).gain = s.gain ∧ (startAntennas s).chan = s.chan ∧ (startAntennas s).prot = s.prot ∧
    (startAntennas s).radio = s.radio ∧ (startAntennas s).call = s.call ∧ (startAntennas s).uplink = s.uplink ∧
    (startAntennas s).pending = s.pending ∧ (startAntennas s).draws = s.draws :=
  by simp [startAntennas]

/-- tuneAntennas changes at most ant. -/
@[simp] theorem tuneAntennas_frame (s : State) :
    (tuneAntennas s).ring = s.ring ∧ (tuneAntennas s).msg = s.msg ∧ (tuneAntennas s).mix = s.mix ∧
    (tuneAntennas s).gain = s.gain ∧ (tuneAntennas s).chan = s.chan ∧ (tuneAntennas s).prot = s.prot ∧
    (tuneAntennas s).radio = s.radio ∧ (tuneAntennas s).call = s.call ∧ (tuneAntennas s).uplink = s.uplink ∧
    (tuneAntennas s).pending = s.pending ∧ (tuneAntennas s).draws = s.draws :=
  by simp [tuneAntennas]

/-! ## The nearest direction (R144) -/

/-- A sample lies at φ turns from the positive real axis, at some distance above 0 from zero. -/
def AtTurn (z : Complex24) (φ : ℝ) : Prop :=
  ∃ r : ℝ, 0 < r ∧ (z.1 : ℝ) = r * Real.cos (2 * Real.pi * φ) ∧ (z.2 : ℝ) = r * Real.sin (2 * Real.pi * φ)

/-- A sample other than zero lies at some part of a turn. -/
theorem exists_turn (z : Complex24) (h : z ≠ (0, 0)) : ∃ φ : ℝ, 0 ≤ φ ∧ φ < 1 ∧ AtTurn z φ := by
  set c : ℂ := ⟨z.1, z.2⟩ with hc
  have hc0 : c ≠ 0 := by
    intro h0
    apply h
    have h1 := congrArg Complex.re h0
    have h2 := congrArg Complex.im h0
    simp [hc] at h1 h2
    exact Prod.ext h1 h2
  have hr : 0 < ‖c‖ := norm_pos_iff.2 hc0
  have hpi := Real.pi_pos
  have e1 : (z.1 : ℝ) = ‖c‖ * Real.cos c.arg := by
    rw [Complex.norm_mul_cos_arg]
  have e2 : (z.2 : ℝ) = ‖c‖ * Real.sin c.arg := by
    rw [Complex.norm_mul_sin_arg]
  have a1 := Complex.neg_pi_lt_arg c
  have a2 := Complex.arg_le_pi c
  by_cases h0 : 0 ≤ c.arg
  · refine ⟨c.arg / (2 * Real.pi), by positivity, ?_, ‖c‖, hr, ?_, ?_⟩
    · rw [div_lt_one (by positivity)]; linarith
    · rw [mul_div_cancel₀ _ (by positivity)]; exact e1
    · rw [mul_div_cancel₀ _ (by positivity)]; exact e2
  · have key : 2 * Real.pi * (c.arg / (2 * Real.pi) + 1) = c.arg + 2 * Real.pi := by field_simp
    refine ⟨c.arg / (2 * Real.pi) + 1, ?_, ?_, ‖c‖, hr, ?_, ?_⟩
    · have : -1 ≤ c.arg / (2 * Real.pi) := by rw [le_div_iff₀ (by positivity)]; linarith
      linarith
    · have : c.arg / (2 * Real.pi) < 0 := div_neg_of_neg_of_pos (by linarith) (by positivity)
      linarith
    · rw [key, Real.cos_add_two_pi]; exact e1
    · rw [key, Real.sin_add_two_pi]; exact e2

/-- The lower half plane is the second half of a turn. -/
theorem lowerHalf_turn (z : Complex24) (φ : ℝ) (h0 : 0 ≤ φ) (h1 : φ < 1) (h : AtTurn z φ) :
    lowerHalf z = true ↔ 1 / 2 ≤ φ := by
  obtain ⟨r, hr, e1, e2⟩ := h
  have hpi := Real.pi_pos
  have c1 : (z.1 < 0) ↔ Real.cos (2 * Real.pi * φ) < 0 := by
    rw [← Int.cast_lt (R := ℝ), e1, Int.cast_zero, mul_neg_iff]; constructor
    · rintro (⟨_, h⟩ | ⟨h, _⟩); exact h; linarith
    · intro h; exact .inl ⟨hr, h⟩
  have c2 : (z.2 < 0) ↔ Real.sin (2 * Real.pi * φ) < 0 := by
    rw [← Int.cast_lt (R := ℝ), e2, Int.cast_zero, mul_neg_iff]; constructor
    · rintro (⟨_, h⟩ | ⟨h, _⟩); exact h; linarith
    · intro h; exact .inl ⟨hr, h⟩
  have c3 : (z.2 = 0) ↔ Real.sin (2 * Real.pi * φ) = 0 := by
    rw [← Int.cast_inj (α := ℝ), e2, Int.cast_zero, mul_eq_zero]; simp [hr.ne']
  have hl : lowerHalf z = true ↔ z.2 < 0 ∨ (z.2 = 0 ∧ z.1 < 0) := by simp [lowerHalf]
  rw [hl, c2, c3, c1]
  constructor
  · intro h
    by_contra hn
    have hn : φ < 1 / 2 := not_le.1 hn
    have hs : 0 ≤ Real.sin (2 * Real.pi * φ) := Real.sin_nonneg_of_nonneg_of_le_pi (by positivity) (by nlinarith)
    rcases h with h | ⟨h, hcos⟩
    · linarith
    · rcases eq_or_lt_of_le h0 with h0 | h0
      · rw [← h0] at hcos; simp at hcos; linarith
      · have := Real.sin_pos_of_pos_of_lt_pi (x := 2 * Real.pi * φ) (by positivity) (by nlinarith)
        linarith
  · intro h
    rcases eq_or_lt_of_le h with h | h
    · right
      rw [← h, show 2 * Real.pi * (1 / 2) = Real.pi by ring]; simp
    · left
      rw [show 2 * Real.pi * φ = (2 * Real.pi * φ - Real.pi) + Real.pi by ring, Real.sin_add_pi]
      have := Real.sin_pos_of_pos_of_lt_pi (x := 2 * Real.pi * φ - Real.pi) (by nlinarith) (by nlinarith)
      linarith

/-- Squaring doubles the turn. -/
theorem atTurn_square (z : Complex24) (φ : ℝ) (h : AtTurn z φ) :
    AtTurn (z.1 * z.1 - z.2 * z.2, 2 * z.1 * z.2) (2 * φ) := by
  obtain ⟨r, hr, e1, e2⟩ := h
  refine ⟨r * r, by positivity, ?_, ?_⟩
  · push_cast; rw [e1, e2, show 2 * Real.pi * (2 * φ) = 2 * (2 * Real.pi * φ) by ring, Real.cos_two_mul']; ring
  · push_cast; rw [e1, e2, show 2 * Real.pi * (2 * φ) = 2 * (2 * Real.pi * φ) by ring, Real.sin_two_mul]; ring

/-- A whole turn less is the same place. -/
theorem AtTurn.sub_one {z : Complex24} {φ : ℝ} (h : AtTurn z φ) : AtTurn z (φ - 1) := by
  obtain ⟨r, hr, e1, e2⟩ := h
  have k : 2 * Real.pi * (φ - 1) = 2 * Real.pi * φ - 2 * Real.pi := by ring
  exact ⟨r, hr, by rw [k, Real.cos_sub_two_pi]; exact e1, by rw [k, Real.sin_sub_two_pi]; exact e2⟩

/-- The digits are those of the turn: the n first binary digits after the point. -/
theorem angleDigits_turn (n : Nat) : ∀ (z : Complex24) (φ : ℝ) (acc : Nat), 0 ≤ φ → φ < 1 → AtTurn z φ →
    (angleDigits n z acc : ℝ) ≤ 2 ^ n * (acc + φ) ∧ 2 ^ n * (acc + φ) < angleDigits n z acc + 1 := by
  induction n with
  | zero => intro z φ acc h0 h1 _; simp [angleDigits]; constructor <;> linarith
  | succ n ih =>
    intro z φ acc h0 h1 h
    have hl := lowerHalf_turn z φ h0 h1 h
    have hs := atTurn_square z φ h
    simp only [angleDigits]
    by_cases hb : 1 / 2 ≤ φ
    · rw [if_pos (hl.2 hb)]
      have := ih _ (2 * φ - 1) (2 * acc + 1) (by linarith) (by linarith) hs.sub_one
      push_cast at this
      rw [pow_succ]
      constructor
      · calc _ ≤ _ := this.1
          _ = _ := by ring
      · calc _ = _ := by ring
          _ < _ := this.2
    · rw [if_neg (fun h => hb (hl.1 h))]
      have := ih _ (2 * φ) (2 * acc + 0) (by linarith) (by linarith) hs
      push_cast at this
      rw [pow_succ]
      constructor
      · calc _ ≤ _ := this.1
          _ = _ := by ring
      · calc _ = _ := by ring
          _ < _ := this.2

/-- Of two directions the one within half a direction of an angle has the greater cosine to it. -/
theorem cos_nearest (δ : ℝ) (d : Nat) (h : |δ| ≤ Real.pi / 64) (h1 : d < 64) :
    Real.cos (δ + 2 * Real.pi * d / 64) ≤ Real.cos δ := by
  have hpi := Real.pi_pos
  rcases Nat.eq_zero_or_pos d with rfl | hd
  · simp
  · have hd1 : (1 : ℝ) ≤ d := by exact_mod_cast hd
    have hd2 : (d : ℝ) ≤ 63 := by exact_mod_cast Nat.le_of_lt_succ h1
    rw [abs_le] at h
    have key : Real.cos δ - Real.cos (δ + 2 * Real.pi * d / 64) =
        2 * Real.sin (δ + Real.pi * d / 64) * Real.sin (Real.pi * d / 64) := by
      rw [Real.cos_sub_cos, show (δ + (δ + 2 * Real.pi * d / 64)) / 2 = δ + Real.pi * d / 64 by ring,
        show (δ - (δ + 2 * Real.pi * d / 64)) / 2 = -(Real.pi * d / 64) by ring, Real.sin_neg]
      ring
    have s1 : 0 ≤ Real.sin (δ + Real.pi * d / 64) :=
      Real.sin_nonneg_of_nonneg_of_le_pi (by nlinarith) (by nlinarith)
    have s2 : 0 ≤ Real.sin (Real.pi * d / 64) :=
      Real.sin_nonneg_of_nonneg_of_le_pi (by positivity) (by nlinarith)
    have := mul_nonneg (mul_nonneg (by norm_num : (0:ℝ) ≤ 2) s1) s2
    linarith

/-- No direction lies nearer to a sample's angle than the nearest (R144): none has the greater projection. -/
theorem nearestDirection_nearest (z : Complex24) (j : Fin 64) :
    (z.1 : ℝ) * Real.cos (2 * Real.pi * j.val / 64) + z.2 * Real.sin (2 * Real.pi * j.val / 64) ≤
      z.1 * Real.cos (2 * Real.pi * (nearestDirection z).val / 64) +
        z.2 * Real.sin (2 * Real.pi * (nearestDirection z).val / 64) := by
  by_cases hz : z = (0, 0)
  · simp [hz]
  obtain ⟨φ, h0, h1, ht⟩ := exists_turn z hz
  have hd := angleDigits_turn 7 z φ 0 h0 h1 ht
  set m := angleDigits 7 z 0 with hm
  have hpi := Real.pi_pos
  have hk : (nearestDirection z).val = (m + 1) / 2 % 64 := by
    simp [nearestDirection, hz, finWrap, Fin.ofNat, ← hm]
  set K := (m + 1) / 2 with hK
  obtain ⟨r, hr, e1, e2⟩ := ht
  have proj (a : ℝ) : (z.1 : ℝ) * Real.cos a + z.2 * Real.sin a = r * Real.cos (2 * Real.pi * φ - a) := by
    rw [e1, e2, Real.cos_sub]; ring
  have wrap : Real.cos (2 * Real.pi * φ - 2 * Real.pi * ((K % 64 : Nat) : ℝ) / 64) =
      Real.cos (2 * Real.pi * φ - 2 * Real.pi * (K : ℝ) / 64) := by
    have : (K : ℝ) = (K % 64 : Nat) + 64 * (K / 64 : Nat) := by exact_mod_cast (Nat.mod_add_div K 64).symm
    rw [show 2 * Real.pi * φ - 2 * Real.pi * ((K % 64 : Nat) : ℝ) / 64 =
      (2 * Real.pi * φ - 2 * Real.pi * (K : ℝ) / 64) + (K / 64 : Nat) * (2 * Real.pi) by rw [this]; ring]
    exact Real.cos_add_nat_mul_two_pi _ _
  rw [proj, proj, hk, wrap]
  refine mul_le_mul_of_nonneg_left ?_ hr.le
  have near : |2 * Real.pi * φ - 2 * Real.pi * (K : ℝ) / 64| ≤ Real.pi / 64 := by
    have c : |64 * φ - K| ≤ 1 / 2 := by
      norm_num at hd
      rcases Nat.even_or_odd' m with ⟨q, hq | hq⟩
      · have hKq : (K : ℝ) = q := by rw [hK, hq]; congr 1; omega
        rw [hq] at hd; push_cast at hd
        rw [hKq, abs_le]; constructor <;> linarith
      · have hKq : (K : ℝ) = q + 1 := by rw [hK, hq]; norm_cast; omega
        rw [hq] at hd; push_cast at hd
        rw [hKq, abs_le]; constructor <;> linarith
    rw [show 2 * Real.pi * φ - 2 * Real.pi * (K : ℝ) / 64 = Real.pi / 32 * (64 * φ - K) by ring, abs_mul,
      abs_of_pos (by positivity)]
    nlinarith
  have hKm : K ≤ 64 := by
    have : (m : ℝ) < 128 := by norm_num at hd; linarith [hd.1]
    have : m < 128 := by exact_mod_cast this
    omega
  obtain ⟨d, hd64, i, hdi⟩ : ∃ d : Nat, d < 64 ∧ ∃ i : Int, (K : ℝ) - j.val = d + 64 * i := by
    refine ⟨(((K : Int) - j.val) % 64).toNat, ?_, ((K : Int) - j.val) / 64, ?_⟩
    · omega
    · have h := Int.emod_add_mul_ediv ((K : Int) - j.val) 64
      have h2 : ((((K : Int) - j.val) % 64).toNat : Int) = ((K : Int) - j.val) % 64 := by omega
      have h3 : (K : Int) - j.val = (((K : Int) - j.val) % 64).toNat + 64 * (((K : Int) - j.val) / 64) := by omega
      exact_mod_cast h3
  rw [show 2 * Real.pi * φ - 2 * Real.pi * (j.val : ℝ) / 64 =
    (2 * Real.pi * φ - 2 * Real.pi * (K : ℝ) / 64 + 2 * Real.pi * d / 64) + (i : Int) * (2 * Real.pi) by
      linear_combination (2 * Real.pi / 64) * hdi, Real.cos_add_int_mul_two_pi]
  exact cos_nearest _ d near hd64

end Sys2Proof.Machine
end

