-- ==== Sys2Proof/Laws/Radio.lean ====
section
/-! SUPPORT. Frames of the radio unit: the units of the state that each operation leaves alone. -/

namespace Sys2Proof.Machine

/-- radioFrame changes at most radio. -/
@[simp] theorem radioFrame_frame (zs : List Complex24) (s : State) :
    (radioFrame zs s).ring = s.ring ∧ (radioFrame zs s).msg = s.msg ∧ (radioFrame zs s).mix = s.mix ∧
    (radioFrame zs s).gain = s.gain ∧ (radioFrame zs s).chan = s.chan ∧ (radioFrame zs s).prot = s.prot ∧
    (radioFrame zs s).ant = s.ant ∧ (radioFrame zs s).call = s.call ∧ (radioFrame zs s).uplink = s.uplink ∧
    (radioFrame zs s).pending = s.pending ∧ (radioFrame zs s).draws = s.draws :=
  by simp [radioFrame]

/-- moveRadio changes at most radio and msg. -/
@[simp] theorem moveRadio_frame (u : RadioUnit) (s : State) :
    (moveRadio u s).ring = s.ring ∧ (moveRadio u s).mix = s.mix ∧ (moveRadio u s).gain = s.gain ∧
    (moveRadio u s).chan = s.chan ∧ (moveRadio u s).prot = s.prot ∧ (moveRadio u s).ant = s.ant ∧
    (moveRadio u s).call = s.call ∧ (moveRadio u s).uplink = s.uplink ∧ (moveRadio u s).pending = s.pending ∧
    (moveRadio u s).draws = s.draws :=
  by unfold moveRadio
     try dsimp only
     (repeat' split) <;> simp

/-- evaluateReception changes at most radio and msg. -/
@[simp] theorem evaluateReception_frame (h : HandOver) (s : State) :
    (evaluateReception h s).ring = s.ring ∧ (evaluateReception h s).mix = s.mix ∧
    (evaluateReception h s).gain = s.gain ∧ (evaluateReception h s).chan = s.chan ∧
    (evaluateReception h s).prot = s.prot ∧ (evaluateReception h s).ant = s.ant ∧
    (evaluateReception h s).call = s.call ∧ (evaluateReception h s).uplink = s.uplink ∧
    (evaluateReception h s).pending = s.pending ∧ (evaluateReception h s).draws = s.draws :=
  by unfold evaluateReception
     try dsimp only
     (repeat' split) <;> simp

/-- radioEvaluate changes at most radio, msg and draws. -/
@[simp] theorem radioEvaluate_frame (s : State) :
    (radioEvaluate s).ring = s.ring ∧ (radioEvaluate s).mix = s.mix ∧ (radioEvaluate s).gain = s.gain ∧
    (radioEvaluate s).chan = s.chan ∧ (radioEvaluate s).prot = s.prot ∧ (radioEvaluate s).ant = s.ant ∧
    (radioEvaluate s).call = s.call ∧ (radioEvaluate s).uplink = s.uplink ∧
    (radioEvaluate s).pending = s.pending :=
  by simp [radioEvaluate]

/-- startRadio changes at most radio and msg. -/
@[simp] theorem startRadio_frame (s : State) :
    (startRadio s).ring = s.ring ∧ (startRadio s).mix = s.mix ∧ (startRadio s).gain = s.gain ∧
    (startRadio s).chan = s.chan ∧ (startRadio s).prot = s.prot ∧ (startRadio s).ant = s.ant ∧
    (startRadio s).call = s.call ∧ (startRadio s).uplink = s.uplink ∧ (startRadio s).pending = s.pending ∧
    (startRadio s).draws = s.draws :=
  by simp [startRadio]

/-- tuneRadio changes at most radio and msg. -/
@[simp] theorem tuneRadio_frame (f : Nat) (i : Option (BitVec 16)) (s : State) :
    (tuneRadio f i s).ring = s.ring ∧ (tuneRadio f i s).mix = s.mix ∧ (tuneRadio f i s).gain = s.gain ∧
    (tuneRadio f i s).chan = s.chan ∧ (tuneRadio f i s).prot = s.prot ∧ (tuneRadio f i s).ant = s.ant ∧
    (tuneRadio f i s).call = s.call ∧ (tuneRadio f i s).uplink = s.uplink ∧
    (tuneRadio f i s).pending = s.pending ∧ (tuneRadio f i s).draws = s.draws :=
  by unfold tuneRadio
     try dsimp only
     (repeat' split) <;> simp

/-- loseRadio changes at most radio. -/
@[simp] theorem loseRadio_frame (s : State) :
    (loseRadio s).ring = s.ring ∧ (loseRadio s).msg = s.msg ∧ (loseRadio s).mix = s.mix ∧
    (loseRadio s).gain = s.gain ∧ (loseRadio s).chan = s.chan ∧ (loseRadio s).prot = s.prot ∧
    (loseRadio s).ant = s.ant ∧ (loseRadio s).call = s.call ∧ (loseRadio s).uplink = s.uplink ∧
    (loseRadio s).pending = s.pending ∧ (loseRadio s).draws = s.draws :=
  by simp [loseRadio]


end Sys2Proof.Machine
end

