-- ==== Sys2Proof/Laws/Uplink.lean ====
section
/-! SUPPORT. Frames of the uplink unit: the units of the state that each operation leaves alone. -/

namespace Sys2Proof.Machine

/-- startBeamFade changes at most uplink. -/
@[simp] theorem startBeamFade_frame (s : State) :
    (startBeamFade s).ring = s.ring ∧ (startBeamFade s).msg = s.msg ∧ (startBeamFade s).mix = s.mix ∧
    (startBeamFade s).gain = s.gain ∧ (startBeamFade s).chan = s.chan ∧ (startBeamFade s).prot = s.prot ∧
    (startBeamFade s).ant = s.ant ∧ (startBeamFade s).radio = s.radio ∧ (startBeamFade s).call = s.call ∧
    (startBeamFade s).pending = s.pending ∧ (startBeamFade s).draws = s.draws :=
  by simp [startBeamFade]

/-- changeBeams changes at most uplink. -/
@[simp] theorem changeBeams_frame (s : State) :
    (changeBeams s).ring = s.ring ∧ (changeBeams s).msg = s.msg ∧ (changeBeams s).mix = s.mix ∧
    (changeBeams s).gain = s.gain ∧ (changeBeams s).chan = s.chan ∧ (changeBeams s).prot = s.prot ∧
    (changeBeams s).ant = s.ant ∧ (changeBeams s).radio = s.radio ∧ (changeBeams s).call = s.call ∧
    (changeBeams s).pending = s.pending ∧ (changeBeams s).draws = s.draws :=
  by unfold changeBeams
     try dsimp only
     (repeat' split) <;> simp

/-- endBeamFade changes at most uplink. -/
@[simp] theorem endBeamFade_frame (s : State) :
    (endBeamFade s).ring = s.ring ∧ (endBeamFade s).msg = s.msg ∧ (endBeamFade s).mix = s.mix ∧
    (endBeamFade s).gain = s.gain ∧ (endBeamFade s).chan = s.chan ∧ (endBeamFade s).prot = s.prot ∧
    (endBeamFade s).ant = s.ant ∧ (endBeamFade s).radio = s.radio ∧ (endBeamFade s).call = s.call ∧
    (endBeamFade s).pending = s.pending ∧ (endBeamFade s).draws = s.draws :=
  by unfold endBeamFade
     try dsimp only
     (repeat' split) <;> simp

/-- resolveBeams changes at most uplink. -/
@[simp] theorem resolveBeams_frame (s : State) :
    (resolveBeams s).ring = s.ring ∧ (resolveBeams s).msg = s.msg ∧ (resolveBeams s).mix = s.mix ∧
    (resolveBeams s).gain = s.gain ∧ (resolveBeams s).chan = s.chan ∧ (resolveBeams s).prot = s.prot ∧
    (resolveBeams s).ant = s.ant ∧ (resolveBeams s).radio = s.radio ∧ (resolveBeams s).call = s.call ∧
    (resolveBeams s).pending = s.pending ∧ (resolveBeams s).draws = s.draws :=
  by simp [resolveBeams]

/-- uplinkFrame changes at most uplink. -/
@[simp] theorem uplinkFrame_frame (f : Frame) (b : Vector (Int × Int) 5) (s : State) :
    (uplinkFrame f b s).ring = s.ring ∧ (uplinkFrame f b s).msg = s.msg ∧ (uplinkFrame f b s).mix = s.mix ∧
    (uplinkFrame f b s).gain = s.gain ∧ (uplinkFrame f b s).chan = s.chan ∧ (uplinkFrame f b s).prot = s.prot ∧
    (uplinkFrame f b s).ant = s.ant ∧ (uplinkFrame f b s).radio = s.radio ∧ (uplinkFrame f b s).call = s.call ∧
    (uplinkFrame f b s).pending = s.pending ∧ (uplinkFrame f b s).draws = s.draws :=
  by simp [uplinkFrame]

/-- convergingMove changes at most uplink and msg. -/
@[simp] theorem convergingMove_frame (s : State) :
    (convergingMove s).ring = s.ring ∧ (convergingMove s).mix = s.mix ∧ (convergingMove s).gain = s.gain ∧
    (convergingMove s).chan = s.chan ∧ (convergingMove s).prot = s.prot ∧ (convergingMove s).ant = s.ant ∧
    (convergingMove s).radio = s.radio ∧ (convergingMove s).call = s.call ∧
    (convergingMove s).pending = s.pending ∧ (convergingMove s).draws = s.draws :=
  by unfold convergingMove
     try dsimp only
     (repeat' split) <;> simp

/-- convergedMove changes at most uplink and msg. -/
@[simp] theorem convergedMove_frame (s : State) :
    (convergedMove s).ring = s.ring ∧ (convergedMove s).mix = s.mix ∧ (convergedMove s).gain = s.gain ∧
    (convergedMove s).chan = s.chan ∧ (convergedMove s).prot = s.prot ∧ (convergedMove s).ant = s.ant ∧
    (convergedMove s).radio = s.radio ∧ (convergedMove s).call = s.call ∧
    (convergedMove s).pending = s.pending ∧ (convergedMove s).draws = s.draws :=
  by unfold convergedMove
     try dsimp only
     (repeat' split) <;> simp

/-- commitUpdate changes at most uplink. -/
@[simp] theorem commitUpdate_frame (s : State) :
    (commitUpdate s).ring = s.ring ∧ (commitUpdate s).msg = s.msg ∧ (commitUpdate s).mix = s.mix ∧
    (commitUpdate s).gain = s.gain ∧ (commitUpdate s).chan = s.chan ∧ (commitUpdate s).prot = s.prot ∧
    (commitUpdate s).ant = s.ant ∧ (commitUpdate s).radio = s.radio ∧ (commitUpdate s).call = s.call ∧
    (commitUpdate s).pending = s.pending ∧ (commitUpdate s).draws = s.draws :=
  by unfold commitUpdate
     try dsimp only
     (repeat' split) <;> simp

/-- echoMove changes at most uplink and msg. -/
@[simp] theorem echoMove_frame (s : State) :
    (echoMove s).ring = s.ring ∧ (echoMove s).mix = s.mix ∧ (echoMove s).gain = s.gain ∧
    (echoMove s).chan = s.chan ∧ (echoMove s).prot = s.prot ∧ (echoMove s).ant = s.ant ∧
    (echoMove s).radio = s.radio ∧ (echoMove s).call = s.call ∧ (echoMove s).pending = s.pending ∧
    (echoMove s).draws = s.draws :=
  by unfold echoMove
     try dsimp only
     (repeat' split) <;> simp

/-- uplinkEvaluate changes at most uplink and msg. -/
@[simp] theorem uplinkEvaluate_frame (s : State) :
    (uplinkEvaluate s).ring = s.ring ∧ (uplinkEvaluate s).mix = s.mix ∧ (uplinkEvaluate s).gain = s.gain ∧
    (uplinkEvaluate s).chan = s.chan ∧ (uplinkEvaluate s).prot = s.prot ∧ (uplinkEvaluate s).ant = s.ant ∧
    (uplinkEvaluate s).radio = s.radio ∧ (uplinkEvaluate s).call = s.call ∧
    (uplinkEvaluate s).pending = s.pending ∧ (uplinkEvaluate s).draws = s.draws :=
  by simp [uplinkEvaluate]

/-- evaluateWithPath changes at most uplink, msg and draws. -/
@[simp] theorem evaluateWithPath_frame (s : State) :
    (evaluateWithPath s).ring = s.ring ∧ (evaluateWithPath s).mix = s.mix ∧
    (evaluateWithPath s).gain = s.gain ∧ (evaluateWithPath s).chan = s.chan ∧
    (evaluateWithPath s).prot = s.prot ∧ (evaluateWithPath s).ant = s.ant ∧
    (evaluateWithPath s).radio = s.radio ∧ (evaluateWithPath s).call = s.call ∧
    (evaluateWithPath s).pending = s.pending :=
  by unfold evaluateWithPath
     try dsimp only
     (repeat' split) <;> simp

/-- startUplink changes at most uplink. -/
@[simp] theorem startUplink_frame (s : State) :
    (startUplink s).ring = s.ring ∧ (startUplink s).msg = s.msg ∧ (startUplink s).mix = s.mix ∧
    (startUplink s).gain = s.gain ∧ (startUplink s).chan = s.chan ∧ (startUplink s).prot = s.prot ∧
    (startUplink s).ant = s.ant ∧ (startUplink s).radio = s.radio ∧ (startUplink s).call = s.call ∧
    (startUplink s).pending = s.pending ∧ (startUplink s).draws = s.draws :=
  by simp [startUplink]


end Sys2Proof.Machine
end

