-- ==== Sys2Proof/Laws/Call.lean ====
section
/-! SUPPORT. Frames of the call unit: the units of the state that each operation leaves alone. -/

namespace Sys2Proof.Machine

/-- setCallState changes at most call. -/
@[simp] theorem setCallState_frame (x : CallState) (s : State) :
    (setCallState x s).ring = s.ring ∧ (setCallState x s).msg = s.msg ∧ (setCallState x s).mix = s.mix ∧
    (setCallState x s).gain = s.gain ∧ (setCallState x s).chan = s.chan ∧ (setCallState x s).prot = s.prot ∧
    (setCallState x s).ant = s.ant ∧ (setCallState x s).radio = s.radio ∧
    (setCallState x s).uplink = s.uplink ∧ (setCallState x s).pending = s.pending ∧
    (setCallState x s).draws = s.draws :=
  by simp [setCallState]

/-- placeCall changes at most call and uplink. -/
@[simp] theorem placeCall_frame (p : Fin 4) (s : State) :
    (placeCall p s).ring = s.ring ∧ (placeCall p s).msg = s.msg ∧ (placeCall p s).mix = s.mix ∧
    (placeCall p s).gain = s.gain ∧ (placeCall p s).chan = s.chan ∧ (placeCall p s).prot = s.prot ∧
    (placeCall p s).ant = s.ant ∧ (placeCall p s).radio = s.radio ∧ (placeCall p s).pending = s.pending ∧
    (placeCall p s).draws = s.draws :=
  by unfold placeCall
     try dsimp only
     (repeat' split) <;> simp

/-- alertCall changes at most call and uplink. -/
@[simp] theorem alertCall_frame (p : Fin 4) (s : State) :
    (alertCall p s).ring = s.ring ∧ (alertCall p s).msg = s.msg ∧ (alertCall p s).mix = s.mix ∧
    (alertCall p s).gain = s.gain ∧ (alertCall p s).chan = s.chan ∧ (alertCall p s).prot = s.prot ∧
    (alertCall p s).ant = s.ant ∧ (alertCall p s).radio = s.radio ∧ (alertCall p s).pending = s.pending ∧
    (alertCall p s).draws = s.draws :=
  by simp [alertCall]

/-- connectCall changes at most call, uplink and msg. -/
@[simp] theorem connectCall_frame (g : Int) (s : State) :
    (connectCall g s).ring = s.ring ∧ (connectCall g s).mix = s.mix ∧ (connectCall g s).gain = s.gain ∧
    (connectCall g s).chan = s.chan ∧ (connectCall g s).prot = s.prot ∧ (connectCall g s).ant = s.ant ∧
    (connectCall g s).radio = s.radio ∧ (connectCall g s).pending = s.pending ∧
    (connectCall g s).draws = s.draws :=
  by simp [connectCall]

/-- holdCall changes at most call, uplink and msg. -/
@[simp] theorem holdCall_frame (s : State) :
    (holdCall s).ring = s.ring ∧ (holdCall s).mix = s.mix ∧ (holdCall s).gain = s.gain ∧
    (holdCall s).chan = s.chan ∧ (holdCall s).prot = s.prot ∧ (holdCall s).ant = s.ant ∧
    (holdCall s).radio = s.radio ∧ (holdCall s).pending = s.pending ∧ (holdCall s).draws = s.draws :=
  by simp [holdCall]

/-- resumeCall changes at most call, uplink and msg. -/
@[simp] theorem resumeCall_frame (s : State) :
    (resumeCall s).ring = s.ring ∧ (resumeCall s).mix = s.mix ∧ (resumeCall s).gain = s.gain ∧
    (resumeCall s).chan = s.chan ∧ (resumeCall s).prot = s.prot ∧ (resumeCall s).ant = s.ant ∧
    (resumeCall s).radio = s.radio ∧ (resumeCall s).pending = s.pending ∧ (resumeCall s).draws = s.draws :=
  by simp [resumeCall]

/-- moveCall changes at most call and uplink. -/
@[simp] theorem moveCall_frame (p : Fin 4) (s : State) :
    (moveCall p s).ring = s.ring ∧ (moveCall p s).msg = s.msg ∧ (moveCall p s).mix = s.mix ∧
    (moveCall p s).gain = s.gain ∧ (moveCall p s).chan = s.chan ∧ (moveCall p s).prot = s.prot ∧
    (moveCall p s).ant = s.ant ∧ (moveCall p s).radio = s.radio ∧ (moveCall p s).pending = s.pending ∧
    (moveCall p s).draws = s.draws :=
  by simp [moveCall]

/-- beginClosing changes at most call, uplink and msg. -/
@[simp] theorem beginClosing_frame (s : State) :
    (beginClosing s).ring = s.ring ∧ (beginClosing s).mix = s.mix ∧ (beginClosing s).gain = s.gain ∧
    (beginClosing s).chan = s.chan ∧ (beginClosing s).prot = s.prot ∧ (beginClosing s).ant = s.ant ∧
    (beginClosing s).radio = s.radio ∧ (beginClosing s).pending = s.pending ∧
    (beginClosing s).draws = s.draws :=
  by simp [beginClosing]

/-- silenceCall changes at most gain. -/
@[simp] theorem silenceCall_frame (s : State) :
    (silenceCall s).ring = s.ring ∧ (silenceCall s).msg = s.msg ∧ (silenceCall s).mix = s.mix ∧
    (silenceCall s).chan = s.chan ∧ (silenceCall s).prot = s.prot ∧ (silenceCall s).ant = s.ant ∧
    (silenceCall s).radio = s.radio ∧ (silenceCall s).call = s.call ∧ (silenceCall s).uplink = s.uplink ∧
    (silenceCall s).pending = s.pending ∧ (silenceCall s).draws = s.draws :=
  by simp [silenceCall]

/-- stopCall changes at most call, uplink, msg and gain. -/
@[simp] theorem stopCall_frame (s : State) :
    (stopCall s).ring = s.ring ∧ (stopCall s).mix = s.mix ∧ (stopCall s).chan = s.chan ∧
    (stopCall s).prot = s.prot ∧ (stopCall s).ant = s.ant ∧ (stopCall s).radio = s.radio ∧
    (stopCall s).pending = s.pending ∧ (stopCall s).draws = s.draws :=
  by unfold stopCall
     try dsimp only
     (repeat' split) <;> simp

/-- loseCall changes at most call, uplink and msg. -/
@[simp] theorem loseCall_frame (s : State) :
    (loseCall s).ring = s.ring ∧ (loseCall s).mix = s.mix ∧ (loseCall s).gain = s.gain ∧
    (loseCall s).chan = s.chan ∧ (loseCall s).prot = s.prot ∧ (loseCall s).ant = s.ant ∧
    (loseCall s).radio = s.radio ∧ (loseCall s).pending = s.pending ∧ (loseCall s).draws = s.draws :=
  by unfold loseCall
     try dsimp only
     (repeat' split) <;> simp

/-- closeCall changes at most call and msg. -/
@[simp] theorem closeCall_frame (s : State) :
    (closeCall s).ring = s.ring ∧ (closeCall s).mix = s.mix ∧ (closeCall s).gain = s.gain ∧
    (closeCall s).chan = s.chan ∧ (closeCall s).prot = s.prot ∧ (closeCall s).ant = s.ant ∧
    (closeCall s).radio = s.radio ∧ (closeCall s).uplink = s.uplink ∧ (closeCall s).pending = s.pending ∧
    (closeCall s).draws = s.draws :=
  by simp [closeCall]

/-- armClosing changes at most call. -/
@[simp] theorem armClosing_frame (s : State) :
    (armClosing s).ring = s.ring ∧ (armClosing s).msg = s.msg ∧ (armClosing s).mix = s.mix ∧
    (armClosing s).gain = s.gain ∧ (armClosing s).chan = s.chan ∧ (armClosing s).prot = s.prot ∧
    (armClosing s).ant = s.ant ∧ (armClosing s).radio = s.radio ∧ (armClosing s).uplink = s.uplink ∧
    (armClosing s).pending = s.pending ∧ (armClosing s).draws = s.draws :=
  by simp [armClosing]


end Sys2Proof.Machine
end

