-- ==== Sys2Proof/Laws/Tables.lean ====
section
/-! SUPPORT. Frames of the table cursor: the units of the state that each operation leaves alone. -/

namespace Sys2Proof.Machine

/-- closeCursor changes at most msg and chan. -/
@[simp] theorem closeCursor_frame (b : Bool) (s : State) :
    (closeCursor b s).ring = s.ring ∧ (closeCursor b s).mix = s.mix ∧ (closeCursor b s).gain = s.gain ∧
    (closeCursor b s).prot = s.prot ∧ (closeCursor b s).ant = s.ant ∧ (closeCursor b s).radio = s.radio ∧
    (closeCursor b s).call = s.call ∧ (closeCursor b s).uplink = s.uplink ∧
    (closeCursor b s).pending = s.pending ∧ (closeCursor b s).draws = s.draws :=
  by
  unfold closeCursor
  cases s.msg.cursor with
  | none => simp
  | some c =>
    dsimp only
    (repeat' split) <;> simp

/-- openCursor changes at most msg and chan. -/
@[simp] theorem openCursor_frame (c : Cursor) (s : State) :
    (openCursor c s).ring = s.ring ∧ (openCursor c s).mix = s.mix ∧ (openCursor c s).gain = s.gain ∧
    (openCursor c s).prot = s.prot ∧ (openCursor c s).ant = s.ant ∧ (openCursor c s).radio = s.radio ∧
    (openCursor c s).call = s.call ∧ (openCursor c s).uplink = s.uplink ∧
    (openCursor c s).pending = s.pending ∧ (openCursor c s).draws = s.draws :=
  by unfold openCursor
     try dsimp only
     (repeat' split) <;> simp


end Sys2Proof.Machine
end

