-- ==== Sys2Proof/Laws/Requests.lean ====
section
/-! SUPPORT. What a request command comes to: taken and executed, refused, or not for this part. Statements about a
request row cite these and the row's own handler. -/

namespace Sys2Proof.Machine

/-- A part with no path-change event raised has none to take. -/
@[simp] theorem takePath_idle {s : State} (h : s.uplink.pathRaised = false) : takePath s = s := by
  simp [takePath, h]

/-- A part with no reset due does not reset. -/
@[simp] theorem settleReset_idle {s : State} (h : s.msg.resetPhase ≠ .due) : settleReset s = s := by
  simp [settleReset, h]

@[simp] theorem answered_uplink (k : BitVec 6) (r : Request) (c : ResultCode) (d : Nat) (ws : List Word) (t : State) :
    (answered k r c d ws t).uplink = t.uplink := by
  unfold answered; split <;> simp

@[simp] theorem answered_phase (k : BitVec 6) (r : Request) (c : ResultCode) (d : Nat) (ws : List Word) (t : State) :
    (answered k r c d ws t).msg.resetPhase = t.msg.resetPhase := by
  unfold answered; split <;> rfl

/-- A ready request is answered as its kind answers it (R24): the state it leaves, with the reply behind the queue unless
it is a broadcast; then a path-change event and a due reset take effect. -/
theorem requestStep_ready {code : BitVec 6} {answer : Request → State → Answer} {r : Request} {s : State}
    (h : Ready r s) :
    requestStep code answer r s =
      settleReset (takePath (if r.dest = 0 then (answer r s).state
        else enqueue (replyTo code r (answer r s)) (answer r s).state)) := by
  obtain ⟨hl, hd, hr, hq, -⟩ := h
  have ha : addressed r s = true := by
    rcases hd with h | h <;> simp [addressed, h]
  have hp : ¬(r.dest ≠ 0 ∧ s.ring.position = none) := by
    rintro ⟨h0, h1⟩
    rcases hd with h | h
    · exact h0 h
    · simp [h1] at h
  unfold requestStep takeRequest
  simp only [hl, ha, Bool.and_self, ↓reduceIte, hr, ne_eq, not_true_eq_false]
  rw [if_neg hp]
  unfold answerRequest
  by_cases h0 : r.dest = 0
  · simp [h0]
  · have hlt : ¬ 4 ≤ s.msg.queue.length := by
      rcases hq with h | h
      · exact absurd h h0
      · omega
    simp [hlt]

/-- A ready request that passes checks 2 to 5 and whose kind raises no event and takes no reset leaves what its handler
leaves, answered (R24, R25). -/
theorem requestStep_passes {k : RequestKind} {handle : Request → State → Answer} {r : Request} {s t : State}
    {code : ResultCode} {detail : Nat} {data : List Word}
    (h : Ready r s) (hp : Passes k r s) (hh : handle r s = ⟨code, detail, data, t⟩)
    (hpath : t.uplink.pathRaised = false) (hphase : t.msg.resetPhase = .none) :
    requestStep (requestCode k) (judge k handle) r s = answered (requestCode k) r code detail data t := by
  have hj : judge k handle r s = ⟨code, detail, data, t⟩ := by
    unfold judge
    rw [show refusalOf k r s = none from hp]
    exact hh
  rw [requestStep_ready h, hj]
  have hm : (if r.dest = 0 then t else enqueue (replyTo (requestCode k) r ⟨code, detail, data, t⟩) t)
      = answered (requestCode k) r code detail data t := by
    simp only [answered, replyTo, hphase]
    rfl
  simp only [hm]
  rw [takePath_idle (by simp [hpath]), settleReset_idle (by simp [hphase])]

/-- A ready request that fails one of checks 2 to 5 changes nothing but the queue, which takes the refusal (R25). -/
theorem requestStep_fails {k : RequestKind} {handle : Request → State → Answer} {r : Request} {s : State}
    {code : ResultCode} {detail : Nat} (h : Ready r s) (hp : refusalOf k r s = some (code, detail)) :
    requestStep (requestCode k) (judge k handle) r s = answered (requestCode k) r code detail [] s := by
  have hj : judge k handle r s = ⟨code, detail, [], s⟩ := by
    unfold judge
    rw [hp]
    rfl
  have hr := h.2.2.1
  rw [requestStep_ready h, hj]
  have hm : (if r.dest = 0 then s else enqueue (replyTo (requestCode k) r ⟨code, detail, [], s⟩) s)
      = answered (requestCode k) r code detail [] s := by
    simp only [answered, replyTo, hr]
    rfl
  simp only [hm]
  rw [takePath_idle (by simp [h.2.2.2.2]), settleReset_idle (by simp [hr])]

/-- A request that is not for this part, or reaches one that is not linked, changes nothing (R5, R7, R21). -/
theorem requestStep_elsewhere {code : BitVec 6} {answer : Request → State → Answer} {r : Request} {s : State}
    (h : s.linked = false ∨ (r.dest ≠ 0 ∧ s.ring.position ≠ some r.dest)) : requestStep code answer r s = s := by
  unfold requestStep
  rcases h with h | ⟨h0, h1⟩
  · simp [h]
  · have : addressed r s = false := by simpa [addressed, h1] using h0
    simp [this]

/-- An event command does its effect when it is due in a part that runs (log entry 1). -/
theorem eventStep_due {due : Bool} {effect : State → State} {s : State} (ha : s.active = true) (hd : due = true) :
    eventStep due effect s = takePath (effect s) := by
  simp [eventStep, ha, hd]

/-- An event command that is not due, or reaches a part that does not run, changes nothing (log entry 1). -/
theorem eventStep_idle {due : Bool} {effect : State → State} {s : State} (h : s.active = false ∨ due = false) :
    eventStep due effect s = s := by
  rcases h with h | h <;> simp [eventStep, h]

end Sys2Proof.Machine
end

