-- ==== Sys2Proof/Laws/Frame.lean ====
section
/-! SUPPORT. Frames of a processed frame: the units of the state that each operation leaves alone. -/

namespace Sys2Proof.Machine

/-- takePosition changes at most ring and msg. -/
@[simp] theorem takePosition_frame (p : Option Node) (s : State) :
    (takePosition p s).mix = s.mix ∧ (takePosition p s).gain = s.gain ∧ (takePosition p s).chan = s.chan ∧
    (takePosition p s).prot = s.prot ∧ (takePosition p s).ant = s.ant ∧ (takePosition p s).radio = s.radio ∧
    (takePosition p s).call = s.call ∧ (takePosition p s).uplink = s.uplink ∧
    (takePosition p s).pending = s.pending ∧ (takePosition p s).draws = s.draws :=
  by unfold takePosition
     try dsimp only
     (repeat' split) <;> simp

/-- adoptPosition changes at most ring and msg. -/
@[simp] theorem adoptPosition_frame (p : Option Node) (s : State) :
    (adoptPosition p s).mix = s.mix ∧ (adoptPosition p s).gain = s.gain ∧ (adoptPosition p s).chan = s.chan ∧
    (adoptPosition p s).prot = s.prot ∧ (adoptPosition p s).ant = s.ant ∧ (adoptPosition p s).radio = s.radio ∧
    (adoptPosition p s).call = s.call ∧ (adoptPosition p s).uplink = s.uplink ∧
    (adoptPosition p s).pending = s.pending ∧ (adoptPosition p s).draws = s.draws :=
  by unfold adoptPosition
     try dsimp only
     (repeat' split) <;> simp

/-- sendWord changes at most ring and msg. -/
@[simp] theorem sendWord_frame (s : State) :
    (sendWord s).mix = s.mix ∧ (sendWord s).gain = s.gain ∧ (sendWord s).chan = s.chan ∧
    (sendWord s).prot = s.prot ∧ (sendWord s).ant = s.ant ∧ (sendWord s).radio = s.radio ∧
    (sendWord s).call = s.call ∧ (sendWord s).uplink = s.uplink ∧ (sendWord s).pending = s.pending ∧
    (sendWord s).draws = s.draws :=
  by unfold sendWord
     try dsimp only
     (repeat' split) <;> simp

/-- transmit changes at most ring. -/
@[simp] theorem transmit_frame (x : Transmitted) (s : State) :
    (transmit x s).msg = s.msg ∧ (transmit x s).mix = s.mix ∧ (transmit x s).gain = s.gain ∧
    (transmit x s).chan = s.chan ∧ (transmit x s).prot = s.prot ∧ (transmit x s).ant = s.ant ∧
    (transmit x s).radio = s.radio ∧ (transmit x s).call = s.call ∧ (transmit x s).uplink = s.uplink ∧
    (transmit x s).pending = s.pending ∧ (transmit x s).draws = s.draws :=
  by simp [transmit]

/-- setAssembly changes at most msg. -/
@[simp] theorem setAssembly_frame (a : Assembly) (s : State) :
    (setAssembly a s).ring = s.ring ∧ (setAssembly a s).mix = s.mix ∧ (setAssembly a s).gain = s.gain ∧
    (setAssembly a s).chan = s.chan ∧ (setAssembly a s).prot = s.prot ∧ (setAssembly a s).ant = s.ant ∧
    (setAssembly a s).radio = s.radio ∧ (setAssembly a s).call = s.call ∧ (setAssembly a s).uplink = s.uplink ∧
    (setAssembly a s).pending = s.pending ∧ (setAssembly a s).draws = s.draws :=
  by simp [setAssembly]

/-- countBroken changes at most msg. -/
@[simp] theorem countBroken_frame (s : State) :
    (countBroken s).ring = s.ring ∧ (countBroken s).mix = s.mix ∧ (countBroken s).gain = s.gain ∧
    (countBroken s).chan = s.chan ∧ (countBroken s).prot = s.prot ∧ (countBroken s).ant = s.ant ∧
    (countBroken s).radio = s.radio ∧ (countBroken s).call = s.call ∧ (countBroken s).uplink = s.uplink ∧
    (countBroken s).pending = s.pending ∧ (countBroken s).draws = s.draws :=
  by simp [countBroken]

/-- gapTick changes at most msg. -/
@[simp] theorem gapTick_frame (s : State) :
    (gapTick s).ring = s.ring ∧ (gapTick s).mix = s.mix ∧ (gapTick s).gain = s.gain ∧
    (gapTick s).chan = s.chan ∧ (gapTick s).prot = s.prot ∧ (gapTick s).ant = s.ant ∧
    (gapTick s).radio = s.radio ∧ (gapTick s).call = s.call ∧ (gapTick s).uplink = s.uplink ∧
    (gapTick s).pending = s.pending ∧ (gapTick s).draws = s.draws :=
  by unfold gapTick
     try dsimp only
     (repeat' split) <;> simp

/-- takeHead changes at most msg. -/
@[simp] theorem takeHead_frame (h : Word) (s : State) :
    (takeHead h s).ring = s.ring ∧ (takeHead h s).mix = s.mix ∧ (takeHead h s).gain = s.gain ∧
    (takeHead h s).chan = s.chan ∧ (takeHead h s).prot = s.prot ∧ (takeHead h s).ant = s.ant ∧
    (takeHead h s).radio = s.radio ∧ (takeHead h s).call = s.call ∧ (takeHead h s).uplink = s.uplink ∧
    (takeHead h s).pending = s.pending ∧ (takeHead h s).draws = s.draws :=
  by unfold takeHead
     try dsimp only
     (repeat' split) <;> simp

/-- takeBody changes at most msg. -/
@[simp] theorem takeBody_frame (w : Word) (s : State) :
    (takeBody w s).ring = s.ring ∧ (takeBody w s).mix = s.mix ∧ (takeBody w s).gain = s.gain ∧
    (takeBody w s).chan = s.chan ∧ (takeBody w s).prot = s.prot ∧ (takeBody w s).ant = s.ant ∧
    (takeBody w s).radio = s.radio ∧ (takeBody w s).call = s.call ∧ (takeBody w s).uplink = s.uplink ∧
    (takeBody w s).pending = s.pending ∧ (takeBody w s).draws = s.draws :=
  by unfold takeBody
     try dsimp only
     (repeat' split) <;> simp

/-- audioFrame changes at most msg, gain, chan, prot, ant, radio, call and uplink. -/
@[simp] theorem audioFrame_frame (f : Frame) (s : State) :
    (audioFrame f s).ring = s.ring ∧ (audioFrame f s).mix = s.mix ∧ (audioFrame f s).pending = s.pending ∧
    (audioFrame f s).draws = s.draws :=
  by simp [audioFrame]

/-- blockEvaluations changes at most msg, chan, prot, ant, radio, uplink and draws. -/
@[simp] theorem blockEvaluations_frame (s : State) :
    (blockEvaluations s).ring = s.ring ∧ (blockEvaluations s).mix = s.mix ∧
    (blockEvaluations s).gain = s.gain ∧ (blockEvaluations s).call = s.call ∧
    (blockEvaluations s).pending = s.pending :=
  by simp [blockEvaluations]

/-- endCrossfades changes at most msg, chan, ant and uplink. -/
@[simp] theorem endCrossfades_frame (s : State) :
    (endCrossfades s).ring = s.ring ∧ (endCrossfades s).mix = s.mix ∧ (endCrossfades s).gain = s.gain ∧
    (endCrossfades s).prot = s.prot ∧ (endCrossfades s).radio = s.radio ∧ (endCrossfades s).call = s.call ∧
    (endCrossfades s).pending = s.pending ∧ (endCrossfades s).draws = s.draws :=
  by unfold endCrossfades
     try dsimp only
     (repeat' split) <;> simp

/-- reachConfig changes at most msg, mix, gain, chan, ant and uplink. -/
@[simp] theorem reachConfig_frame (s : State) :
    (reachConfig s).ring = s.ring ∧ (reachConfig s).prot = s.prot ∧ (reachConfig s).radio = s.radio ∧
    (reachConfig s).call = s.call ∧ (reachConfig s).pending = s.pending ∧ (reachConfig s).draws = s.draws :=
  by simp [reachConfig, setOp]

/-- settlePath changes at most msg, uplink and draws. -/
@[simp] theorem settlePath_frame (b e : Bool) (s : State) :
    (settlePath b e s).ring = s.ring ∧ (settlePath b e s).mix = s.mix ∧ (settlePath b e s).gain = s.gain ∧
    (settlePath b e s).chan = s.chan ∧ (settlePath b e s).prot = s.prot ∧ (settlePath b e s).ant = s.ant ∧
    (settlePath b e s).radio = s.radio ∧ (settlePath b e s).call = s.call ∧
    (settlePath b e s).pending = s.pending :=
  by unfold settlePath
     try dsimp only
     (repeat' split) <;> simp

/-- endOfFrame changes at most msg, mix, gain, chan, prot, ant, radio, call, uplink and draws. -/
@[simp] theorem endOfFrame_frame (f : Frame) (e : Bool) (s : State) :
    (endOfFrame f e s).ring = s.ring ∧ (endOfFrame f e s).pending = s.pending :=
  by unfold endOfFrame
     try dsimp only
     (repeat' split) <;> simp

/-- enterNotice changes at most msg and draws. -/
@[simp] theorem enterNotice_frame (b : Bool) (s : State) :
    (enterNotice b s).ring = s.ring ∧ (enterNotice b s).mix = s.mix ∧ (enterNotice b s).gain = s.gain ∧
    (enterNotice b s).chan = s.chan ∧ (enterNotice b s).prot = s.prot ∧ (enterNotice b s).ant = s.ant ∧
    (enterNotice b s).radio = s.radio ∧ (enterNotice b s).call = s.call ∧ (enterNotice b s).uplink = s.uplink ∧
    (enterNotice b s).pending = s.pending :=
  by
  unfold enterNotice oldestNotice
  cases s.msg.notices with
  | nil => split <;> simp
  | cons n rest =>
    dsimp only
    (repeat' split) <;> simp


end Sys2Proof.Machine
end

