-- ==== Sys2Proof/WellFormed.lean ====
section
/-! DEFINITION. Which commands are well formed: the two checks that the types of Syntax.lean leave to make. -/

namespace Sys2Proof

/-- A request message has at most fifteen BODY words (spec 02, 2.1). -/
def Request.wellFormed (r : Request) : Bool := decide (r.payload.length ≤ 15)

/-- A command is well formed when its request has at most fifteen BODY words and, for BAD_KIND_REQUEST, when its kind
is no request kind (R25, check 1). -/
def Instr.wellFormed : Instr → Bool
  | .badKindRequest kind r => (requestKindOf kind).isNone && r.wellFormed
  | .state r | .start r | .stop r | .reset r | .patternEnter r | .patternExit r => r.wellFormed
  | .tableOpen r | .tableWrite r | .tableClose r | .tableRead r => r.wellFormed
  | .routeSet r | .zoneSet r | .zoneMute r | .zoneLock r | .zoneSource r => r.wellFormed
  | .bankActivate r | .protectClear r | .radioMode r | .radioTune r => r.wellFormed
  | .callAlert r | .callConnect r | .callHold r | .callResume r | .callMove r | .callEnd r => r.wellFormed
  | .resetPin | .goodFrame _ | .badFrame _ | .missingFrame | .linkAcquired _ | .enterLost _ | .relink _ => true
  | .longLoss | .messageGapTimeout | .resetTakesEffect | .claimHeld _ | .claimNone _ => true
  | .activationQueueServed | .bankFadeEnd _ | .closingEnds | .stoppingReachesConfig => true
  | .noticeEntersQueue | .messageWordSent | .gainRampEnd _ | .tierTrip _ _ | .tierRecovered _ _ => true
  | .fastHoldExpiry _ | .dwellExpiry | .pairReplacement | .switchCrossfadeEnd | .pilotChange => true
  | .tuneSettleEnd | .receptionPoor | .receptionRecovered | .beamCrossfadeEnd => true
  | .nearRelaxExpiry | .farRelaxExpiry | .echoConverged | .echoDiverged => true

end Sys2Proof
end

