-- ==== Sys2Proof/Laws/PerInstr.lean ====
section
/-! SUPPORT. The family `Form`, one lemma per command: a well-formed command carries a request exactly when it is a
request row, and then at most fifteen BODY words under a kind code that is its row's own, or for BAD_KIND_REQUEST no
request kind's. -/

namespace Sys2Proof.Laws.Form

/-- The kind code and the request that a command carries, if it is a request row. -/
def carried : Instr → Option (BitVec 6 × Request)
  | .badKindRequest kind r => some (kind, r)
  | .state r => some (requestCode .state, r)
  | .start r => some (requestCode .start, r)
  | .stop r => some (requestCode .stop, r)
  | .reset r => some (requestCode .reset, r)
  | .patternEnter r => some (requestCode .patternEnter, r)
  | .patternExit r => some (requestCode .patternExit, r)
  | .tableOpen r => some (requestCode .tableOpen, r)
  | .tableWrite r => some (requestCode .tableWrite, r)
  | .tableClose r => some (requestCode .tableClose, r)
  | .tableRead r => some (requestCode .tableRead, r)
  | .routeSet r => some (requestCode .routeSet, r)
  | .zoneSet r => some (requestCode .zoneSet, r)
  | .zoneMute r => some (requestCode .zoneMute, r)
  | .zoneLock r => some (requestCode .zoneLock, r)
  | .zoneSource r => some (requestCode .zoneSource, r)
  | .bankActivate r => some (requestCode .bankActivate, r)
  | .protectClear r => some (requestCode .protectClear, r)
  | .radioMode r => some (requestCode .radioMode, r)
  | .radioTune r => some (requestCode .radioTune, r)
  | .callAlert r => some (requestCode .callAlert, r)
  | .callConnect r => some (requestCode .callConnect, r)
  | .callHold r => some (requestCode .callHold, r)
  | .callResume r => some (requestCode .callResume, r)
  | .callMove r => some (requestCode .callMove, r)
  | .callEnd r => some (requestCode .callEnd, r)
  | .resetPin => none
  | .goodFrame _ => none
  | .badFrame _ => none
  | .missingFrame => none
  | .linkAcquired _ => none
  | .enterLost _ => none
  | .relink _ => none
  | .longLoss => none
  | .messageGapTimeout => none
  | .resetTakesEffect => none
  | .claimHeld _ => none
  | .claimNone _ => none
  | .activationQueueServed => none
  | .bankFadeEnd _ => none
  | .closingEnds => none
  | .stoppingReachesConfig => none
  | .noticeEntersQueue => none
  | .messageWordSent => none
  | .gainRampEnd _ => none
  | .tierTrip _ _ => none
  | .tierRecovered _ _ => none
  | .fastHoldExpiry _ => none
  | .dwellExpiry => none
  | .pairReplacement => none
  | .switchCrossfadeEnd => none
  | .pilotChange => none
  | .tuneSettleEnd => none
  | .receptionPoor => none
  | .receptionRecovered => none
  | .beamCrossfadeEnd => none
  | .nearRelaxExpiry => none
  | .farRelaxExpiry => none
  | .echoConverged => none
  | .echoDiverged => none

/-- What the family says of a command. -/
def Statement (i : Instr) : Prop :=
  i.wellFormed = true → ∀ code r, carried i = some (code, r) →
    r.payload.length ≤ 15 ∧ (requestKindOf code = none ↔ ∃ kind x, i = .badKindRequest kind x)

/-- A row that carries no request. -/
theorem of_none {i : Instr} (h : carried i = none) : Statement i := by
  intro _ code r hc
  simp [h] at hc

/-- The code of a request kind names it. -/
theorem requestKindOf_code (k : RequestKind) : requestKindOf (requestCode k) = some k := by
  cases k <;> decide

/-- A row of a request kind. -/
theorem of_request {i : Instr} {k : RequestKind} {r : Request} (hw : i.wellFormed = r.wellFormed)
    (hc : carried i = some (requestCode k, r)) (hi : ∀ kind x, i ≠ .badKindRequest kind x) : Statement i := by
  intro h code x hx
  rw [hc] at hx
  simp only [Option.some.injEq, Prod.mk.injEq] at hx
  obtain ⟨rfl, rfl⟩ := hx
  refine ⟨?_, ?_⟩
  · rw [hw] at h
    simpa [Request.wellFormed] using h
  · simp [requestKindOf_code, hi]

theorem resetPin : Statement .resetPin := of_none rfl
theorem goodFrame (f : Frame) : Statement (.goodFrame f) := of_none rfl
theorem badFrame (raw : RawFrame) : Statement (.badFrame raw) := of_none rfl
theorem missingFrame : Statement .missingFrame := of_none rfl
theorem linkAcquired (f : Frame) : Statement (.linkAcquired f) := of_none rfl
theorem enterLost (raw : Option RawFrame) : Statement (.enterLost raw) := of_none rfl
theorem relink (f : Frame) : Statement (.relink f) := of_none rfl
theorem longLoss : Statement .longLoss := of_none rfl
theorem messageGapTimeout : Statement .messageGapTimeout := of_none rfl
theorem badKindRequest (kind : BitVec 6) (r : Request) : Statement (.badKindRequest kind r) := by
  intro h code x hx
  simp only [carried, Option.some.injEq, Prod.mk.injEq] at hx
  obtain ⟨rfl, rfl⟩ := hx
  simp only [Instr.wellFormed, Bool.and_eq_true, Option.isNone_iff_eq_none, Request.wellFormed,
    decide_eq_true_eq] at h
  exact ⟨h.2, fun _ => ⟨_, _, rfl⟩, fun _ => h.1⟩
theorem state (r : Request) : Statement (.state r) :=
  of_request (k := .state) rfl rfl (fun _ _ => nofun)
theorem start (r : Request) : Statement (.start r) :=
  of_request (k := .start) rfl rfl (fun _ _ => nofun)
theorem stop (r : Request) : Statement (.stop r) :=
  of_request (k := .stop) rfl rfl (fun _ _ => nofun)
theorem reset (r : Request) : Statement (.reset r) :=
  of_request (k := .reset) rfl rfl (fun _ _ => nofun)
theorem resetTakesEffect : Statement .resetTakesEffect := of_none rfl
theorem patternEnter (r : Request) : Statement (.patternEnter r) :=
  of_request (k := .patternEnter) rfl rfl (fun _ _ => nofun)
theorem patternExit (r : Request) : Statement (.patternExit r) :=
  of_request (k := .patternExit) rfl rfl (fun _ _ => nofun)
theorem tableOpen (r : Request) : Statement (.tableOpen r) :=
  of_request (k := .tableOpen) rfl rfl (fun _ _ => nofun)
theorem tableWrite (r : Request) : Statement (.tableWrite r) :=
  of_request (k := .tableWrite) rfl rfl (fun _ _ => nofun)
theorem tableClose (r : Request) : Statement (.tableClose r) :=
  of_request (k := .tableClose) rfl rfl (fun _ _ => nofun)
theorem tableRead (r : Request) : Statement (.tableRead r) :=
  of_request (k := .tableRead) rfl rfl (fun _ _ => nofun)
theorem routeSet (r : Request) : Statement (.routeSet r) :=
  of_request (k := .routeSet) rfl rfl (fun _ _ => nofun)
theorem zoneSet (r : Request) : Statement (.zoneSet r) :=
  of_request (k := .zoneSet) rfl rfl (fun _ _ => nofun)
theorem zoneMute (r : Request) : Statement (.zoneMute r) :=
  of_request (k := .zoneMute) rfl rfl (fun _ _ => nofun)
theorem zoneLock (r : Request) : Statement (.zoneLock r) :=
  of_request (k := .zoneLock) rfl rfl (fun _ _ => nofun)
theorem zoneSource (r : Request) : Statement (.zoneSource r) :=
  of_request (k := .zoneSource) rfl rfl (fun _ _ => nofun)
theorem claimHeld (z : Fin 2) : Statement (.claimHeld z) := of_none rfl
theorem claimNone (z : Fin 2) : Statement (.claimNone z) := of_none rfl
theorem bankActivate (r : Request) : Statement (.bankActivate r) :=
  of_request (k := .bankActivate) rfl rfl (fun _ _ => nofun)
theorem activationQueueServed : Statement .activationQueueServed := of_none rfl
theorem bankFadeEnd (u : Fin 4) : Statement (.bankFadeEnd u) := of_none rfl
theorem protectClear (r : Request) : Statement (.protectClear r) :=
  of_request (k := .protectClear) rfl rfl (fun _ _ => nofun)
theorem radioMode (r : Request) : Statement (.radioMode r) :=
  of_request (k := .radioMode) rfl rfl (fun _ _ => nofun)
theorem radioTune (r : Request) : Statement (.radioTune r) :=
  of_request (k := .radioTune) rfl rfl (fun _ _ => nofun)
theorem callAlert (r : Request) : Statement (.callAlert r) :=
  of_request (k := .callAlert) rfl rfl (fun _ _ => nofun)
theorem callConnect (r : Request) : Statement (.callConnect r) :=
  of_request (k := .callConnect) rfl rfl (fun _ _ => nofun)
theorem callHold (r : Request) : Statement (.callHold r) :=
  of_request (k := .callHold) rfl rfl (fun _ _ => nofun)
theorem callResume (r : Request) : Statement (.callResume r) :=
  of_request (k := .callResume) rfl rfl (fun _ _ => nofun)
theorem callMove (r : Request) : Statement (.callMove r) :=
  of_request (k := .callMove) rfl rfl (fun _ _ => nofun)
theorem callEnd (r : Request) : Statement (.callEnd r) :=
  of_request (k := .callEnd) rfl rfl (fun _ _ => nofun)
theorem closingEnds : Statement .closingEnds := of_none rfl
theorem stoppingReachesConfig : Statement .stoppingReachesConfig := of_none rfl
theorem noticeEntersQueue : Statement .noticeEntersQueue := of_none rfl
theorem messageWordSent : Statement .messageWordSent := of_none rfl
theorem gainRampEnd (p : GainId) : Statement (.gainRampEnd p) := of_none rfl
theorem tierTrip (c : Fin 28) (t : TierNo) : Statement (.tierTrip c t) := of_none rfl
theorem tierRecovered (c : Fin 28) (t : TierNo) : Statement (.tierRecovered c t) := of_none rfl
theorem fastHoldExpiry (c : Fin 28) : Statement (.fastHoldExpiry c) := of_none rfl
theorem dwellExpiry : Statement .dwellExpiry := of_none rfl
theorem pairReplacement : Statement .pairReplacement := of_none rfl
theorem switchCrossfadeEnd : Statement .switchCrossfadeEnd := of_none rfl
theorem pilotChange : Statement .pilotChange := of_none rfl
theorem tuneSettleEnd : Statement .tuneSettleEnd := of_none rfl
theorem receptionPoor : Statement .receptionPoor := of_none rfl
theorem receptionRecovered : Statement .receptionRecovered := of_none rfl
theorem beamCrossfadeEnd : Statement .beamCrossfadeEnd := of_none rfl
theorem nearRelaxExpiry : Statement .nearRelaxExpiry := of_none rfl
theorem farRelaxExpiry : Statement .farRelaxExpiry := of_none rfl
theorem echoConverged : Statement .echoConverged := of_none rfl
theorem echoDiverged : Statement .echoDiverged := of_none rfl

end Sys2Proof.Laws.Form
end

