-- ==== Sys2Proof/Tests/Slice0.lean ====
section
/-! SUPPORT. Tests on one step each, with results from the spec's examples and tables, and for every statement of
Certificates/Slice0/Obligations.lean that has hypotheses a witness: concrete states and operands that meet them, clause
by clause. The tests are elaborated one after another: side by side, each would hold a thread while it waits for the
ones before it, and so many threads do not fit beside the rest of the package. -/

set_option Elab.async false

namespace Sys2Proof.Tests

open Sys2Proof.Machine

/-! ## States and operands -/

/-- The state a command leaves (reset where it would not complete). -/
def after (c : Instr) (s : State) : State := match exec c s with | .next t => t | _ => State.reset

/-- Linked at position 4, in an operating state, everything else at reset. -/
def linkedIn (op : OpState) : State :=
  { State.reset with
    ring := { RingUnit.reset with link := .linked, position := some 4, frameSeen := true }
    msg := { MessageUnit.reset with op := op } }

/-- A request for position 4 from the master, tag 0x2A. -/
def req (l : List Word) : Request := ⟨4, 0, 0x2A, l⟩

/-- A word from a number. -/
def num (n : Nat) : Word := BitVec.ofNat 32 n

/-- A frame without a command or reply word, hop count 3. -/
def idleFrame (i : Fin 64) : Frame := ⟨i, 3, .idle, 0, ⟨.idle, 0, 0⟩, Vector.replicate 96 0⟩

/-- The state with slot roles from slot 0 on. -/
def mapped (l : List Role) (s : State) : State :=
  { s with ring := { s.ring with slotMap := Vector.ofFn fun i => l.getD i.val .unused } }

/-- The eight roles of antenna a. -/
def antennaSlots (a : Fin 4) : List Role := antennaRoles a

/-- The state with one route entry. -/
def routed (i : Fin 32) (x : RouteRecord) (s : State) : State :=
  { s with mix := { s.mix with routes := s.mix.routes.set i x } }

/-- The state with a claim list. -/
def claimed (l : List Claim) (s : State) : State := { s with mix := { s.mix with claims := l } }

/-- The state with a channel record changed. -/
def channelled (c : Fin 28) (f : Channel → Channel) (s : State) : State :=
  { s with chan := { s.chan with channels := s.chan.channels.set c (f s.chan.channels[c]) } }

/-- The state with four scores, an antenna ABSENT where none is given. -/
def scored (l : List (Option Nat)) (s : State) : State :=
  { s with ant := { s.ant with antennas := Vector.ofFn fun a => match l.getD a.val none with
    | some q => ⟨true, 0, 0, q⟩
    | none => ⟨false, 0, 0, 0⟩ } }

/-- A request is ready and passes checks 2 to 5. -/
abbrev taken (k : RequestKind) (r : Request) (s : State) : Prop := Ready r s ∧ Passes k r s

/-! ## Well-formedness and decoding -/

theorem test_wf_sixteen_words : (Instr.start ⟨4, 0, 0, List.replicate 16 0⟩).wellFormed = false := by decide

theorem test_wf_fifteen_words : (Instr.tableWrite ⟨4, 0, 0, List.replicate 15 0⟩).wellFormed = true := by decide

theorem test_wf_real_kind : (Instr.badKindRequest 0x11 ⟨4, 0, 0, []⟩).wellFormed = false := by decide

theorem test_wf_no_kind : (Instr.badKindRequest 0x07 ⟨4, 0, 0, []⟩).wellFormed = true := by decide

theorem test_no_table_word : ∀ n ∈ [0, 8, 16, 32], decodeTableWord n 0xFFFFFFFF = none := by decide

/-! ## Message words (spec 02, 2.8) -/

theorem test_request_words :
    headWord 4 0 0x11 1 0x2A = 0x4044402A ∧ checkWord 0x4044402A [0x30000028] = 0x8FBBBFAE := by decide

theorem test_reply_words :
    messageWords ⟨replyKind, 0x2A, [replyFirst .ok 0x11 0], false⟩ 4 =
      [(.head, 0x0480402A), (.body, 0x04400000), (.check, 0xF73FBFD6)] := by decide

/-! ## Frames and the link (spec 01, 1.7 and 1.8) -/

theorem test_reset_pin : (after .resetPin (linkedIn .run)).ring.position = none ∧
    (after .resetPin (linkedIn .run)).msg.op = .config := by decide +kernel

/-- R3: hop count 15 gives no position. -/
theorem test_good_frame_hop : (after (.goodFrame { idleFrame 0 with hop := 15 }) (linkedIn .config)).ring.position = none := by
  decide +kernel

/-- Spec 01, 1.7: the three formats, slots numbered 0 to 3, frame index 5. -/
theorem test_pattern_words :
    (List.range 4).map (fun j => patternWord { RingUnit.reset with patternFormat := .staggered } j 5) =
      [0xFFFFFF, 0x555555, 0xAAAAAA, 0x000000] ∧
    patternWord RingUnit.reset 3 6 = 0x555555 ∧
    patternWord { RingUnit.reset with patternFormat := .parallel } 3 6 = 0x000000 := by decide

theorem test_bad_frame : (after (.badFrame [1, 2]) (linkedIn .run)).ring.badRun = 1 ∧
    (after (.badFrame [1, 2]) (linkedIn .run)).ring.transmitted = .bad [1, 2] := by decide +kernel

theorem test_missing_frame : (after .missingFrame (linkedIn .run)).ring.transmitted = .nothing ∧
    (after .missingFrame (linkedIn .run)).ring.badRun = 1 := by decide +kernel

theorem test_link_acquired :
    let s : State := { State.reset with ring := { RingUnit.reset with goodRun := 15 } }
    (after (.linkAcquired (idleFrame 0)) s).ring.position = some 4 ∧
      (after (.linkAcquired (idleFrame 0)) s).msg.notices = [] := by decide +kernel

/-- Spec 01, 1.8: the fourth bad frame; the partial request is discarded, the reply marked. -/
theorem test_enter_lost :
    let s := linkedIn .run
    let t := after (.enterLost none) { s with
      ring := { s.ring with badRun := 3 }
      msg := { s.msg with assembly := .assembling 0 [1, 2] false 0, queue := [⟨32, 1, [0], false⟩], sent := 2 } }
    t.ring.link = .lost ∧ t.msg.assembly = .empty ∧ t.msg.sent = 0 ∧ t.msg.broken = 0 := by decide +kernel

/-- Spec 01, 1.8: relink after a long loss at a new position; no separate POSITION notice. -/
theorem test_relink :
    let s := linkedIn .config
    let t := after (.relink { idleFrame 0 with hop := 4, reply := ⟨.head, 9, 0⟩ }) { s with
      ring := { s.ring with link := .lost, lossTimer := .reached, goodRun := 15 }
      msg := { s.msg with queue := [⟨32, 1, [0], false⟩], deferred := [.call .lost] } }
    t.msg.notices.map (fun n => n.detail) = [.link false true (some 5) (some 4), .call .lost] := by decide +kernel

theorem test_long_loss :
    let s := linkedIn .run
    let t := after .longLoss { s with
      ring := { s.ring with link := .lost, lossTimer := .running }
      call := { s.call with state := .active }
      gain := { s.gain with uplink := ⟨.steps 0, 1048576, 1048576, none⟩ } }
    t.call.state = .idle ∧ t.gain.uplink.current = 0 ∧ t.msg.op = .run := by decide +kernel

/-- R22: the sixty-fifth period discards and counts. -/
theorem test_message_gap :
    let s := linkedIn .config
    let t := after .messageGapTimeout { s with msg := { s.msg with assembly := .assembling 0 [] false 64 } }
    t.msg.assembly = .empty ∧ t.msg.broken = 1 := by decide +kernel

theorem test_notice_enters :
    let s := postNotice (.protect 3 .tier1Active) (linkedIn .run)
    (after .noticeEntersQueue s).msg.queue = [⟨0x25, 0, [0x01030000, 8], false⟩] := by decide +kernel

theorem test_word_sent :
    let s := linkedIn .run
    let t := after .messageWordSent { s with msg := { s.msg with queue := [⟨32, 0x2A, [0x04400000], false⟩], sent := 2 } }
    t.msg.queue = [] ∧ t.ring.replyWritten = some ⟨.check, 4, 0xF73FBFD6⟩ := by decide +kernel

/-! ## Requests to the part as a whole (spec 02) -/

/-- The first word of the last reply. -/
def reply (s : State) : Option Word := s.msg.queue.getLast?.bind fun m => m.body.head?

theorem test_bad_kind : reply (after (.badKindRequest 0x07 (req [])) (linkedIn .run)) = some 0x21C00000 := by
  decide +kernel

/-- R36: RUN, entered PATTERN from CONFIG last, position 4, the cursor open on ECHO with CONTINUE. -/
theorem test_state :
    let s := linkedIn .run
    let t := after (.state (req [])) { s with msg := { s.msg with cursor := some ⟨.echo, 0, 0, true, false, false⟩ } }
    (t.msg.queue.map fun m => m.body.take 2) = [[0x00400000, 0x04E10041]] := by decide +kernel

theorem test_start : (after (.start (req [])) (linkedIn .config)).msg.op = .run := by decide +kernel

/-- R16: a map that carries OUT(3) twice is refused with MAPPING and the higher slot. -/
theorem test_start_mapping :
    reply (after (.start (req [])) (mapped [.out 3, .unused, .out 3] (linkedIn .config))) = some 0xC0800002 := by
  decide +kernel

theorem test_stop : (after (.stop (req [])) (linkedIn .run)).msg.op = .stopping ∧
    reply (after (.stop (req [])) (linkedIn .run)) = some 0x10C00000 := by decide +kernel

theorem test_reset : (after (.reset (req [])) (linkedIn .run)).msg.resetPhase = .pending ∧
    (after (.reset ⟨0, 0, 0, []⟩) (linkedIn .run)).msg.op = .config := by decide +kernel

theorem test_reset_takes_effect :
    let s := linkedIn .run
    let t := after .resetTakesEffect { s with msg := { s.msg with resetPhase := .due } }
    t.msg.op = .config ∧ t.ring.position = some 4 := by decide +kernel

theorem test_pattern : (after (.patternEnter (req [1, 1, 2, 3, 4])) (linkedIn .run)).ring.pattern = #v[1, 2, 3, 4] ∧
    (after (.patternExit (req [])) (linkedIn .pattern)).msg.op = .config := by decide +kernel

/-- Spec 05, 5.5: TABLE OPEN of COEF at index 112 while channel 14 is QUEUED answers BUSY. -/
theorem test_table_open_busy :
    let s := channelled 14 (fun x => { x with spare := .queued }) (linkedIn .run)
    reply (after (.tableOpen (req [0x74000070])) s) = some 0x62000000 := by decide +kernel

/-- A word of BLEND: separation clamped to 16, the cursor closed when its message is done. -/
theorem test_table_write :
    let s := linkedIn .config
    let t := after (.tableWrite (req [0x1F030000])) { s with msg := { s.msg with cursor := some ⟨.blend, 7, 0, false, false, false⟩ } }
    t.radio.blend[7] = ⟨16, 3, .steps 0⟩ ∧ t.msg.cursor = none ∧ reply t = some 0x02400001 := by decide +kernel

theorem test_table_close : (after (.tableClose (req [])) (linkedIn .run)).msg.queue.length = 1 := by decide +kernel

/-- Two AMP entries: limit code 140, nothing else. -/
theorem test_table_read :
    ((after (.tableRead (req [0x90020001])) (linkedIn .run)).msg.queue.map fun m => m.body) =
      [[0x02C00002, 0x0000008C, 0x0000008C]] := by decide +kernel

/-! ## Routes, zones, claims (spec 03) -/

theorem test_route_set :
    let s := routed 4 ⟨.disabled, .mediaB, 1, 0, .none⟩ (linkedIn .run)
    (after (.routeSet (req [0x045003F8])) s).mix.routes[4] = ⟨.enabled, .mediaB, 1, -8, .media⟩ := by decide +kernel

theorem test_zone_set : (after (.zoneSet (req [0x30000028])) (linkedIn .run)).mix.zones[3].volume = 40 ∧
    reply (after (.zoneSet (req [0x30000028])) (linkedIn .run)) = some 0x04400000 := by decide +kernel

/-- R26: the same request from node 9, which is not the panel node, is DENIED. -/
theorem test_zone_set_denied :
    reply (after (.zoneSet { req [0x30000028] with origin := 9 }) (linkedIn .run)) = some 0x74400000 := by decide +kernel

theorem test_zone_mute_lock : (after (.zoneMute (req [0x10000001])) (linkedIn .run)).mix.zones[1].mute = true ∧
    (after (.zoneLock (req [0x40000001])) (linkedIn .run)).mix.zones[4].lock = true := by decide +kernel

/-- Spec 03, example: Z3 takes MEDIA_B, and Z4 is refused with TAKEN, detail 3. -/
theorem test_zone_source :
    (after (.zoneSource (req [0x30000002])) (linkedIn .run)).mix.claims = [⟨0, .mediaB, .pending⟩] ∧
    reply (after (.zoneSource (req [0x40000002])) (claimed [⟨0, .mediaB, .pending⟩] (linkedIn .run))) =
      some 0x85000003 := by decide +kernel

theorem test_claim_held :
    let t := after (.claimHeld 0) (claimed [⟨0, .mediaB, .pending⟩] (linkedIn .run))
    t.mix.claims = [⟨0, .mediaB, .held⟩] ∧ t.msg.notices = [⟨.claim 0 .mediaB true, 1, 8⟩] := by decide +kernel

theorem test_claim_none :
    let t := after (.claimNone 0) (claimed [⟨0, .mediaB, .releasing⟩, ⟨0, .radio, .pending⟩] (linkedIn .run))
    t.mix.claims = [⟨0, .radio, .pending⟩] := by decide +kernel

/-! ## Gain (spec 04) -/

/-- Spec 04, the table of step values and linear gains. -/
theorem test_linear_gains :
    [32, 16, 8, 0, -1, -16, -38, -92, -320, -319].map (fun g => linearOf (.steps g)) =
      [4194304, 2097152, 1482910, 1048576, 1004120, 524288, 202141, 19484, 1, 1] := by decide +kernel

/-- Spec 03, example: 1,048,576 to 0 in 2400 frames; the step is −436, the last frame lands on 0. -/
theorem test_ramp :
    let p := (⟨.steps 0, 1048576, 1048576, none⟩ : GainPoint).retarget .mute 2400 .suspension
    p.advance.current = 1048140 ∧
      (⟨.mute, 0, 2612, some ⟨1048576, -436, 2400, 1, .suspension⟩⟩ : GainPoint).advance = ⟨.mute, 0, 0, none⟩ := by decide +kernel

/-- R71: rounding half up, at gain one half. -/
theorem test_apply_gain : applyGain 3 524288 = 2 ∧ applyGain (-3) 524288 = -1 := by decide

theorem test_gain_ramp_end :
    let s := linkedIn .run
    let t := after (.gainRampEnd .uplink) { s with
      gain := { s.gain with uplink := ⟨.steps (-56), 92682, 92586, some ⟨0, 96, 960, 1, .call⟩⟩ } }
    t.gain.uplink = ⟨.steps (-56), 92682, 92682, none⟩ := by decide +kernel

/-! ## Channels and banks (spec 05) -/

/-- Spec 05, example: a stage from rest. -/
theorem test_stage :
    let c : Stage := ⟨2097152, 2097152, 0, -2097152, 0⟩
    let r1 := stageStep c ⟨0, 0, 0, 0⟩ 1000000
    let r2 := stageStep c r1.1 1000000
    let r3 := stageStep c r2.1 1000000
    [r1.2, r2.2, r3.2, (stageStep c r3.1 1000000).2] = [500000, 1250000, 1625000, 1812500] := by decide +kernel

/-- Spec 05, R99: a stage that fails is named; BANK ACTIVATE of it answers UNSTABLE with its number. -/
theorem test_bank_unstable :
    let s := channelled 2 (fun x => x.setSpare ⟨x.bankB.stages.set 3 ⟨0, 0, 0, -4500000, 200000⟩, x.bankB.history⟩) (linkedIn .run)
    reply (after (.bankActivate (req [2])) s) = some 0xB6000003 := by decide +kernel

theorem test_bank_activate :
    let t := after (.bankActivate (req [2])) (linkedIn .run)
    t.chan.queue = [2] ∧ t.chan.channels[2].spare = .queued := by decide +kernel

theorem test_queue_served :
    let t := after .activationQueueServed (after (.bankActivate (req [2])) (linkedIn .run))
    t.chan.queue = [] ∧ t.chan.fades[0] = some ⟨2, 0⟩ := by decide +kernel

/-- Spec 05, 5.5: unit 0's fade ends and channel 14 takes the unit in the same frame. -/
theorem test_bank_fade_end :
    let s := channelled 14 (fun x => { x with spare := .queued }) (channelled 2 (fun x => { x with spare := .fading }) (linkedIn .run))
    let t := after (.bankFadeEnd 0) { s with
      chan := { s.chan with queue := [14], fades := s.chan.fades.set 0 (some ⟨2, 511⟩) } }
    t.chan.fades[0] = some ⟨14, 0⟩ ∧ t.chan.channels[2].liveB = true ∧
      t.msg.notices.map (fun n => n.detail) = [.bank 2 .swapped 0] := by decide +kernel

/-! ## Protection (spec 06) -/

/-- R113, the derating table: 7,500,000, 5,300,000, 8,300,000, 4,200,000. -/
theorem test_derating :
    [7500000, 5300000, 8300000, 4200000].map (fun l => effective l 64 true) = [5625000, 3975000, 6225000, 3150000] := by
  decide

/-- The channel of spec 06, 6.6, enabled, its peak and its record given. -/
def bench (peak : Nat) (x : ProtectRecord) : State :=
  let s := channelled 5 (fun c => { c with record := ⟨some 2, .sum, 0, 1, none, 3⟩, peak := peak }) (linkedIn .run)
  { s with prot := { s.prot with count := 1086, records := s.prot.records.set 5 x } }

/-- Spec 06, 6.6, block 1086: the third trip latches. -/
theorem test_tier_trip :
    let t := after (.tierTrip 5 .two) (bench 8300000 { ProtectRecord.initial with tier2 := ⟨.alert, 1⟩, trips := [1020, 1053] })
    t.prot.records[5].trips = [1020, 1053, 1086] ∧ t.prot.records[5].latched = true ∧
      t.msg.notices.map (fun n => n.detail) = [.protect 5 .latched] := by decide +kernel

theorem test_tier_recovered :
    let t := after (.tierRecovered 5 .two) (bench 0 { ProtectRecord.initial with tier2 := ⟨.recovery, 1⟩, reduction := .mute })
    t.prot.records[5].reduction = .steps 0 ∧ t.msg.notices.map (fun n => n.detail) = [.protect 5 .tier2Left] := by
  decide +kernel

/-- R118: a class whose tier-1 time goes from 0 to 5 marks the channels that name it; the next evaluation begins in CLEAR,
takes the tier to ALERT on a high peak, and says that it has left ACTIVE. -/
theorem test_time_written_from_zero :
    let s := bench 8000000 { ProtectRecord.initial with tier1 := ⟨.active, 0⟩ }
    let t := setClass 1 ProtectClass.initial (setClass 1 { ProtectClass.initial with t1Time := 0 } s)
    t.prot.records[5].restart1 = true ∧ t.prot.records[5].restart2 = false ∧ t.prot.records[6].restart1 = false ∧
      t.prot.records[5].tier1 = ⟨.active, 0⟩ ∧
      (evaluateChannel t 5).prot.records[5].tier1 = ⟨.alert, ProtectClass.initial.t1Time⟩ ∧
      (evaluateChannel t 5).prot.records[5].restart1 = false ∧
      (evaluateChannel t 5).msg.notices.map (fun n => n.detail) = [.protect 5 .tier1Left] := by decide +kernel

theorem test_fast_hold_expiry :
    let t := after (.fastHoldExpiry 5) (bench 0 { ProtectRecord.initial with fastHold := true, fastTimer := 1, reduction := .steps (-8) })
    t.prot.records[5] = ProtectRecord.initial ∧ t.msg.notices = [] := by decide +kernel

theorem test_protect_clear :
    (after (.protectClear (req [5])) (bench 0 { ProtectRecord.initial with latched := true })).prot.records[5] =
      ProtectRecord.initial := by decide +kernel

/-! ## Antennas and radio (spec 07, 08) -/

/-- Spec 07, 7.4: level 44 from the sum 5,000,000,000. -/
theorem test_level : levelOf 5000000000 = 44 := by decide +kernel

/-- Spec 07, 7.6: the crossfade sample at n = 16. -/
theorem test_crossfade_sample : blendComponent 400000 0 16 = 300000 ∧ blendComponent 0 0 16 = 0 := by decide

/-- Spec 07, 7.7: weights 132 and 124, direction 5, and the combined sample. -/
theorem test_weights : firstWeight 53 50 = 132 ∧ nearestDirection (3000000000000, 1700000000000) = 5 ∧
    weigh 132 124 100000 90000 = 95156 ∧ weigh 132 124 (-20000) (-15000) = -17579 := by decide +kernel

/-- Spec 07, 7.11, block 216: the timer reaches 0 and the part switches to A3. -/
theorem test_dwell_expiry :
    let s := scored [some 37, some 42, some 40, some 49] (linkedIn .run)
    let t := after .dwellExpiry { s with ant := { s.ant with alert := some 1 } }
    t.ant.current = 3 ∧ t.ant.alert = none ∧ t.ant.fade = some ⟨.antenna 0, 3, 0⟩ := by decide +kernel

/-- Spec 07, 7.11, block 301: PAIRED becomes pending, and takes effect when the crossfade ends. -/
theorem test_radio_mode :
    let s := scored [some 52, some 44, some 52, none] (linkedIn .run)
    let s := { s with ant := { s.ant with fade := some ⟨.antenna 3, 0, 63⟩ } }
    let t := after (.radioMode (req [2])) s
    t.ant.pendingMode = some .paired ∧ (after .switchCrossfadeEnd t).ant.pair = [0, 2] ∧
      (after .switchCrossfadeEnd t).msg.notices.map (fun n => n.detail) = [.antenna 0 true 0] := by decide +kernel

/-- R143: a challenger at pair dwell replaces the weaker member. -/
theorem test_pair_replacement :
    let s := scored [some 53, some 60, some 50, none] (linkedIn .run)
    let t := after .pairReplacement { s with ant := { s.ant with
      mode := .paired, pair := [0, 2], challenge := #v[0, 23, 0, 0] } }
    t.ant.pair = [1, 0] ∧ t.ant.challenge = #v[0, 0, 0, 0] := by decide +kernel

/-- Spec 08, 8.8: the tune of block 500. -/
theorem test_radio_tune :
    let s := linkedIn .run
    let t := after (.radioTune (req [0x800024CC, 0x3D10])) { s with radio := { s.radio with reception := .poor } }
    t.radio.frequency = 9420 ∧ t.radio.identifier = some 0x3D10 ∧
      t.msg.notices.map (fun n => n.detail) = [.reception .fair 9420] := by decide +kernel

/-- Spec 08, 8.8, evaluation 507. -/
theorem test_settle_end :
    let s := scored [some 70, none, none, none] (linkedIn .run)
    let t := after .tuneSettleEnd { s with radio := { s.radio with blocksSinceTune := 7, pilot := true, softMute := .steps (-64) } }
    t.radio.separation = 1 ∧ t.radio.highCut = 6 ∧ t.radio.softMute = .steps 0 ∧ t.radio.reception = .good := by
  decide +kernel

theorem test_pilot_change :
    let s := linkedIn .run
    (after .pilotChange { s with radio := { s.radio with pilotRun := 3 } }).radio.pilot = true := by decide +kernel

/-- Spec 08, 8.8, evaluation 1274: the poor count reaches 375. -/
theorem test_reception_poor :
    let s := scored [some 6, none, none, none] (linkedIn .run)
    let t := after .receptionPoor { s with radio := { s.radio with blocksSinceTune := 8, poorCount := 374 } }
    t.radio.reception = .poor ∧ t.msg.notices.map (fun n => n.detail) = [.reception .poor 8750] := by decide +kernel

theorem test_reception_recovered :
    let s := scored [some 31, none, none, none] (linkedIn .run)
    let t := after .receptionRecovered { s with
      radio := { s.radio with blocksSinceTune := 8, recoverCount := 749, reception := .poor } }
    t.radio.reception = .fair := by decide +kernel

/-! ## Calls and the uplink (spec 09, 10) -/

theorem test_call_alert : (after (.callAlert (req [0])) (linkedIn .run)).call.state = .alerting ∧
    (after (.callAlert (req [2])) (linkedIn .run)).uplink.fading = true := by decide +kernel

/-- Spec 09, 9.7, frame 2000: uplink gain −8, and the echo state is CONVERGING. -/
theorem test_call_connect :
    let t := after (.callConnect (req [0x3F8])) (linkedIn .run)
    t.call.uplinkGain = -8 ∧ t.uplink.echo = .converging ∧ uplinkTarget t = .steps (-56) := by decide +kernel

theorem test_call_hold_resume :
    let t := after (.callHold (req [])) (after (.callConnect (req [0])) (linkedIn .run))
    t.call.state = .onHold ∧ t.uplink.echo = .off ∧ (after (.callResume (req [])) t).uplink.echo = .converging := by
  decide +kernel

/-- Spec 09, 9.7: a move to SEAT_RL closes feed Z0 and opens feed Z3; an alert while ACTIVE is refused with STATE. -/
theorem test_call_move :
    let t := after (.callMove (req [2])) (after (.callConnect (req [0])) (linkedIn .run))
    feedTarget t.call 0 = .mute ∧ feedTarget t.call 3 = .steps 0 ∧ reply (after (.callAlert (req [0])) t) = some 0x4C000000 := by
  decide +kernel

theorem test_call_end :
    let t := after (.callEnd (req [])) (after (.callConnect (req [0])) (linkedIn .run))
    t.call.state = .closing ∧ (after .closingEnds t).call.state = .closing := by decide +kernel

theorem test_closing_ends :
    let s := linkedIn .run
    let t := after .closingEnds { s with call := { s.call with state := .closing, closingArmed := true } }
    t.call.state = .idle ∧ t.msg.notices.map (fun n => n.detail) = [.call .ended] := by decide +kernel

theorem test_stopping_reaches_config :
    (after .stoppingReachesConfig (linkedIn .stopping)).msg.op = .config := by decide +kernel

/-- R181: the incoming point, at unity with its ramp ended, becomes live and the outgoing one is emptied. -/
theorem test_beam_crossfade_end :
    let s := linkedIn .run
    let t := after .beamCrossfadeEnd { s with
      uplink := { s.uplink with fading := true }
      gain := { s.gain with beam := #v[⟨.mute, 0, 0, none⟩, ⟨.steps 0, 1048576, 1048576, none⟩] } }
    t.uplink.live = 1 ∧ t.uplink.fading = false ∧ t.uplink.selections[0] = [] := by decide +kernel

/-- Spec 10, 10.6: peak codes 30, 22, 17 and 35. -/
theorem test_peak_codes : [40000, 3000, 500, 200000].map levelCode = [30, 22, 17, 35] := by decide +kernel

/-- Spec 10, 10.6, blocks 219 and 414. -/
theorem test_relax :
    let s := linkedIn .run
    (after .nearRelaxExpiry { s with uplink := { s.uplink with
      talk := .double, nearQuiet := 29, peakF := 1000000, peakR := 500 } }).uplink.talk = .farOnly ∧
    (after .farRelaxExpiry { s with uplink := { s.uplink with
      talk := .farOnly, nearQuiet := 224, farQuiet := 14, peakF := 9000, peakR := 500 } }).uplink.talk = .quiet := by
  decide +kernel

/-- Spec 10, 10.6, block 308. -/
theorem test_echo_converged :
    let s := linkedIn .run
    (after .echoConverged { s with uplink := { s.uplink with
      talk := .farOnly, echo := .converging, converge := 149, peakN := 40000, peakR := 500 } }).uplink.echo = .converged := by
  decide +kernel

theorem test_echo_diverged :
    let s := linkedIn .run
    let t := after .echoDiverged { s with uplink := { s.uplink with
      talk := .farOnly, echo := .converged, diverge := 74, peakN := 500, peakR := 500, filters := Vector.replicate 10 [1] } }
    t.uplink.echo = .converging ∧ t.uplink.filters = Vector.replicate 10 [] := by decide +kernel

/-- R7, R8: the bad run that took the part to LOST stands until relink. -/
theorem test_bad_run_stands :
    let s := linkedIn .run
    let t := after (.enterLost none) { s with ring := { s.ring with badRun := 3 } }
    t.ring.link = .lost ∧ t.ring.badRun = 4 ∧ (after .missingFrame t).ring.badRun = 4 := by decide +kernel

/-- R137, R158: a tune settle written in RUN is in force from the next evaluation, one written in CONFIG at once. -/
theorem test_settle_in_force :
    let w : List Word := [num 0, num 2, num 0, num 0]
    ((writeEntry .radio 0 w (linkedIn .run)).map fun t => (t.ant.record.tuneSettle, t.radio.settle)) = some (2, 8) ∧
      ((writeEntry .radio 0 w (linkedIn .config)).map fun t => t.radio.settle) = some 2 := by decide +kernel

/-- R150: left and right are formed from the pair that entered the delay sixteen frames before; the difference counts as
0 while the pilot is ABSENT. -/
theorem test_separation :
    let u := { RadioUnit.reset with delay := (1000, 160) :: List.replicate 15 (0, 0), separation := 8 }
    separatedPair { u with pilot := true } = (1080, 920) ∧ separatedPair u = (1000, 1000) ∧
      (u.delayed (5, 6)).length = 16 ∧ (u.delayed (5, 6)).getLast? = some (5, 6) := by decide +kernel

/-! ## Witnesses for the statements of Obligations.lean

Each theorem is named after its statement and shows, clause by clause, concrete states and operands that meet the
clause's hypotheses, at boundary values where a clause has a range. -/

/-- The state with its link state, good run and bad run. -/
def linkIs (l : LinkState) (good bad : Nat) (s : State) : State :=
  { s with ring := { s.ring with link := l, goodRun := good, badRun := bad } }

theorem witness_StepRunsFront :
    ((linkedIn .run).setPending [.missingFrame]).pending = .missingFrame :: [] ∧ (linkedIn .run).pending = [] := by
  decide +kernel

theorem witness_FramesNotProcessed :
    (let s := linkIs .acquiring 14 0 (linkedIn .config); s.ring.link ≠ .linked ∧ s.ring.goodRun + 1 < 16) ∧
    (let s := linkIs .linked 0 2 (linkedIn .run)
     s.ring.link = .linked ∧ s.ring.badRun + 1 < 4 ∧ s.ring.frameSeen = true) ∧
    (let s := linkIs .lost 15 0 (linkedIn .run); s.ring.link ≠ .linked ∧ s.ring.frameSeen = true) ∧
    State.reset.ring.frameSeen = false := by decide +kernel

theorem witness_GoodFrameTransmits :
    (linkedIn .run).ring.link = .linked ∧ (idleFrame 63).reply.wtype = .idle ∧
    (∀ h ∈ [(0 : BitVec 4), 14], ({ idleFrame 0 with hop := h } : Frame).hop ≠ 15) ∧
    ({ idleFrame 0 with hop := 15 } : Frame).hop = 15 ∧
    ({ idleFrame 0 with reply := ⟨.check, 9, 0⟩ } : Frame).reply.wtype ≠ .idle := by decide +kernel

theorem witness_GoodFrameInConfig :
    let s := linkedIn .config
    s.ring.link = .linked ∧ s.msg.op = .config ∧ (idleFrame 63).ctype = .idle ∧ s.msg.resetPhase = .none ∧
      (∀ m ∈ s.msg.queue, m.resets = false) ∧ s.uplink.pathRaised = false := by decide +kernel

/-- The state with a message unit changed. -/
def messaged (f : MessageUnit → MessageUnit) (s : State) : State := { s with msg := f s.msg }

/-- PATTERN entered from RUN. -/
def patternFromRun : State := messaged (fun u => { u with patternFrom := .run }) (linkedIn .pattern)

theorem witness_EntersLost :
    (let s := linkIs .linked 0 3 (linkedIn .run)
     s.ring.link = .linked ∧ s.ring.frameSeen = true ∧ 4 ≤ s.ring.badRun + 1) ∧
    (linkIs .linked 0 2 (linkedIn .run)).ring.badRun + 1 < 4 ∧
    (linkIs .lost 0 3 (linkedIn .run)).ring.link ≠ .linked := by decide +kernel

theorem witness_LinkAcquiredAndRelink :
    (let s := linkIs .acquiring 15 0 State.reset; s.ring.link = .acquiring ∧ s.ring.goodRun = 15) ∧
    (let s := linkIs .lost 15 0 (linkedIn .run); s.ring.link = .lost ∧ s.ring.goodRun = 15) ∧
    (linkedIn .run).ring.link = .linked ∧ (idleFrame 0).hop ≠ 15 ∧ some ((idleFrame 0).hop + 1) = (linkedIn .run).ring.position ∧
    (none : Option Node) ≠ (linkedIn .run).ring.position ∧
    (linkIs .acquiring 14 0 State.reset).ring.goodRun + 1 < 16 ∧
    (linkIs .lost 14 0 (linkedIn .run)).ring.goodRun + 1 < 16 := by decide +kernel

/-- The bank invariant where no spare is open, queued or fading and every bank is a pass-through one. -/
theorem bankInv_linkedIn (op : OpState) : BankInv (linkedIn op) := by
  have h0 : ∀ c : Fin 28, failingStage ChannelUnit.reset.channels[c].live = none := by decide +kernel
  have h1 : ∀ u : Fin 4, ChannelUnit.reset.fades[u] = none := by decide +kernel
  have h2 : ∀ c : Fin 28, ChannelUnit.reset.channels[c].spare = .loaded := by decide +kernel
  refine ⟨h0, fun c h => ?_, List.nodup_nil, fun c => ⟨fun h => (List.not_mem_nil h).elim, fun h => ?_⟩,
    fun u v f g h => ?_, fun c => ⟨?_, fun h => ?_⟩, fun k h => (by cases h), fun c h => ?_⟩
  · exact absurd ((h2 c).symm.trans (h.elim (fun x => absurd ((h2 c).symm.trans x) (by simp)) id)) (by simp)
  · exact absurd ((h2 c).symm.trans h) (by simp)
  · exact absurd ((h1 u).symm.trans h) (by simp)
  · rintro ⟨u, f, h, -⟩
    exact absurd ((h1 u).symm.trans h) (by simp)
  · exact absurd ((h2 c).symm.trans h) (by simp)
  · exact absurd ((h2 c).symm.trans h) (by simp)

/-- Channel 14 queued, channel 2 fading in unit 0 at a count. -/
def waiting (n : Nat) (s : State) : State :=
  { s with chan := { s.chan with
      channels := (s.chan.channels.set 14 { s.chan.channels[14] with spare := .queued }).set 2
        { s.chan.channels[2] with spare := .fading }
      queue := [14]
      fades := s.chan.fades.set 0 (some ⟨2, n⟩) } }

/-- The bank invariant with a queued and a fading channel. -/
theorem bankInv_waiting (op : OpState) : BankInv (waiting 511 (linkedIn op)) := by
  have h0 : ∀ c : Fin 28, failingStage (waiting 511 (linkedIn .run)).chan.channels[c].live = none := by decide +kernel
  have h1 : ∀ c : Fin 28, failingStage (waiting 511 (linkedIn .run)).chan.channels[c].spareBank = none := by
    decide +kernel
  have h2 : ∀ c : Fin 28, c ∈ [(14 : Fin 28)] ↔ (waiting 511 (linkedIn .run)).chan.channels[c].spare = .queued := by
    decide +kernel
  have h3 : ∀ c : Fin 28, (waiting 511 (linkedIn .run)).chan.channels[c].spare = .fading ↔ c = 2 := by decide +kernel
  have h4 : ∀ c : Fin 28, (waiting 511 (linkedIn .run)).chan.channels[c].spare ≠ .open_ := by decide +kernel
  have h5 : ∀ u : Fin 4, (waiting 511 (linkedIn .run)).chan.fades[u] = if u = 0 then some ⟨2, 511⟩ else none := by
    decide +kernel
  have h6 : ∀ (u : Fin 4) (f : BankFade), (waiting 511 (linkedIn .run)).chan.fades[u] = some f → u = 0 ∧ f = ⟨2, 511⟩ := by
    intro u f h
    rw [h5 u] at h
    by_cases e : u = 0
    · rw [if_pos e] at h
      exact ⟨e, (Option.some.inj h).symm⟩
    · rw [if_neg e] at h
      cases h
  refine ⟨h0, fun c _ => h1 c, List.nodup_singleton _, h2, fun u v f g hu hv _ => ?_, fun c => ⟨?_, fun h => ?_⟩,
    fun k h => (by cases h), fun c h => absurd h (h4 c)⟩
  · exact (h6 u f hu).1.trans (h6 v g hv).1.symm
  · rintro ⟨u, f, h, e⟩
    rw [(h6 u f h).2] at e
    exact (h3 c).2 e.symm
  · exact ⟨0, ⟨2, 511⟩, h5 0, ((h3 c).1 h).symm⟩

/-- Output point 5 at step -20, its channel in zone Z2 or disabled, with a trim, its curve and its class's time full. -/
def louder (trim : Int) (z : Option (Fin 5)) (s : State) : State :=
  let l := linearOf (.steps (-20))
  { s with
    chan := { s.chan with
      channels := s.chan.channels.set 5 { s.chan.channels[5] with record := ⟨z, .sum, trim, 1, none, 0⟩ } }
    gain := { s.gain with
      out := s.gain.out.set 5 ⟨.steps (-20), l, l, none⟩, curve := Vector.replicate 256 (.steps (-20)) } }

theorem witness_GoodFrameInRun :
    (∀ s ∈ [linkedIn .run, linkedIn .stopping, patternFromRun],
      s.ring.link = .linked ∧
      (s.msg.op = .run ∨ s.msg.op = .stopping ∨ (s.msg.op = .pattern ∧ s.msg.patternFrom = .run)) ∧
      (idleFrame 62).ctype = .idle ∧ (idleFrame 62).index ≠ 63 ∧ s.msg.resetPhase = .none ∧
      (∀ m ∈ s.msg.queue, m.resets = false) ∧ ∀ v ∈ s.uplink.filters[(9 : Fin 10)], v = 0) ∧
    (∀ c : Fin 28, (gainStep (linkedIn .stopping)).out[c].current = 0) ∧
    (let s := linkedIn .run
     let t : State := { s with uplink := { s.uplink with filters := Vector.replicate 10 [0, 1] } }
     ∃ v ∈ t.uplink.filters[(9 : Fin 10)], v ≠ 0) := by
  refine ⟨?_, ?_, ?_⟩ <;> decide +kernel

/-- A step target that moves by more than the path step of 8, or to MUTE; one that moves by 8 or not at all; a crossfade
that ends and one that goes on; an event left over and none. -/
theorem witness_GoodFrameInRun_path :
    ((linkedIn .run).uplink.record.pathStep = 8 ∧ (louder 9 (some 2) (linkedIn .run)).uplink.record.pathStep = 8) ∧
    (∀ z ∈ [(9, some 2, Step.steps (-11)), (-9, some 2, .steps (-29)), (9, none, .mute)],
      let s := louder z.1 z.2.1 (linkedIn .run)
      s.gain.out[(5 : Fin 28)].step = .steps (-20) ∧ (gainStep s).out[(5 : Fin 28)].step = z.2.2) ∧
    (∀ n ∈ [(0 : Int), 8, -8], let s := louder n (some 2) (linkedIn .run)
      (gainStep s).out[(5 : Fin 28)].step = .steps (-20 + n) ∧ outputsJump 8 s.gain (gainStep s) = false ∧
        s.uplink.pathRaised = false ∧ s.uplink.fading = false ∧ ∀ u : Fin 4, s.chan.fades[u] = none) ∧
    (∃ (u : Fin 4) (x : BankFade), (waiting 511 (linkedIn .run)).chan.fades[u] = some x ∧ 511 ≤ x.count) ∧
    (∀ u : Fin 4, (waiting 510 (linkedIn .run)).chan.fades[u] = none ∨
      (waiting 510 (linkedIn .run)).chan.fades[u] = some ⟨2, 510⟩) ∧
    (let s : State := { linkedIn .run with uplink := { (linkedIn .run).uplink with pathRaised := true, echo := .converged } }
     s.uplink.pathRaised = true ∧ s.ring.link = .linked) ∧
    (∀ n ∈ [62, 63], let s : State := { linkedIn .run with
        ant := { (linkedIn .run).ant with fade := some ⟨.antenna 1, 0, n⟩ } }
      s.msg.op ≠ .stopping ∧ s.ant.fade = some ⟨.antenna 1, 0, n⟩) := by
  refine ⟨by decide +kernel, by decide +kernel, by decide +kernel, ⟨0, ⟨2, 511⟩, by decide +kernel, by decide⟩,
    by decide +kernel, by decide +kernel, by decide +kernel⟩

theorem witness_LongLoss :
    let s := linkIs .lost 0 0 (linkedIn .run)
    let t (x : CallState) : State := { s with
      ring := { s.ring with lossTimer := .running }
      call := { s.call with state := x } }
    ((t .active).ring.link = .lost ∧ (t .active).ring.lossTimer = .running ∧ (t .active).call.state ≠ .idle ∧
      (t .active).ant.pendingMode = none) ∧
    ((t .idle).ring.link = .lost ∧ (t .idle).ring.lossTimer = .running ∧ (t .idle).call.state = .idle) ∧
    (linkedIn .run).ring.link ≠ .lost := by decide +kernel

theorem witness_LongLoss_deferred :
    let s := linkIs .lost 0 0 (waiting 511 (linkedIn .run))
    let t : State := { s with
      ring := { s.ring with lossTimer := .running }
      ant := { s.ant with fade := some ⟨.antenna 1, 0, 5⟩, pendingMode := some .paired } }
    t.ring.link = .lost ∧ t.ring.lossTimer = .running ∧ BankInv t ∧ t.chan.channels[(14 : Fin 28)].spare = .queued ∧
      t.chan.channels[(2 : Fin 28)].spare = .fading ∧ t.chan.channels[(0 : Fin 28)].spare = .loaded ∧
      t.ant.fade ≠ none ∧ t.ant.pendingMode = some .paired := by
  refine ⟨rfl, rfl, bankInv_waiting .run, ?_, ?_, ?_, ?_, rfl⟩ <;> decide +kernel

/-- The state with a message assembly. -/
def assembling (a : Assembly) (s : State) : State := { s with msg := { s.msg with assembly := a } }

theorem witness_MessageGapTimeout :
    (linkedIn .run).ring.link = .linked ∧
    (∀ g ∈ [63, 64], (assembling (.assembling 1 [2] false g) (linkedIn .run)).msg.assembly = .assembling 1 [2] false g ∧
      (assembling (.assembling 1 [2] false g) (linkedIn .run)).ring.link = .linked) ∧
    (assembling (.skipping 64) (linkedIn .run)).msg.assembly = .skipping 64 ∧
    State.reset.ring.link ≠ .linked ∧ (linkedIn .run).msg.assembly = .empty := by decide +kernel

/-- A frame that carries a command word. -/
def commandFrame (t : WordType) (w : Word) : Frame := { idleFrame 0 with ctype := t, cword := w }

/-- R21, R23: a STATE request for position 4 from its words: HEAD, CHECK; the sum is zero. -/
theorem witness_MessageGapTimeout_words :
    (∀ t ∈ [WordType.idle, .head, .body, .check], (commandFrame t 0).ctype = t) ∧
    (field 0x4004002A 31 28 = 4 ∧ (linkedIn .run).ring.position = some 4 ∧ field 0x5004002A 31 28 ≠ 0 ∧
      field 0x5004002A 31 28 ≠ (4 : Node).toNat) ∧
    (let s := assembling (.assembling 0x4004002A [] false 64) (linkedIn .run)
     s.msg.assembly = .assembling 0x4004002A [] false 64 ∧ ([] : List Word).length = field 0x4004002A 17 14 ∧
       (0x4004002A :: ([] : List Word) ++ [0xBFFBFFD6]).sum = 0 ∧ (1 : BitVec 6).toNat = field 0x4004002A 23 18 ∧
       (req []).dest.toNat = field 0x4004002A 31 28 ∧ (req []).origin.toNat = field 0x4004002A 27 24 ∧
       (req []).tag.toNat = field 0x4004002A 7 0 ∧ s.linked = true ∧ s.ring.position = some (req []).dest) ∧
    (0x4004002A :: ([] : List Word) ++ [0xBFFBFFD7]).sum ≠ 0 := by decide +kernel

/-- R21 to R24: that request, its CHECK word taken, is answered OK. -/
theorem test_request_from_words :
    (takeCommand (commandFrame .check 0xBFFBFFD6) (assembling (.assembling 0x4004002A [] false 0) (linkedIn .run))
      ).msg.queue.map (fun m => (m.tag, m.body.head?, m.body.length)) = [(0x2A, some 0x00400000, 6)] := by decide +kernel

theorem witness_SendingQueue :
    (let s := postNotice (.call .ended) (linkedIn .run)
     s.ring.link = .linked ∧ s.ring.position = some 4 ∧ s.msg.queue = [] ∧
       s.msg.notices = ⟨.call .ended, 1, 0⟩ :: []) ∧
    (let s := linkedIn .run
     let m : OutMessage := ⟨32, 0x2A, [0x04400000], false⟩
     let t : State := { s with msg := { s.msg with queue := [m], sent := 2 } }
     t.ring.link = .linked ∧ t.ring.position = some 4 ∧ t.msg.queue = m :: [] ∧
       (messageWords m 4)[t.msg.sent]? = some (.check, 0xF73FBFD6) ∧ (messageWords m 4)[0]? = some (.head, 0x0480402A)) ∧
    (State.reset.ring.link ≠ .linked ∧ (linkedIn .run).msg.notices = [] ∧ (linkedIn .run).msg.queue = []) ∧
    (⟨32, 0, List.replicate 15 1, false⟩ : OutMessage).body.length ≤ 15 := by decide +kernel

/-- R42: a notice whose count has merged up to 255, of each kind whose fields have a range, and a detail of 65,535. -/
theorem witness_SendingQueue_fields :
    (∀ d ∈ [NoticeDetail.state .stopping, .link true true none (some 15), .bank 27 .unstable 7, .claim 1 .call false,
        .protect 27 .latched, .antenna 3 true 65535, .reception .poor 10800, .call .lost, .echo .converged, .dropped 65535],
      let n : Notice := ⟨d, 255, 8⟩
      n.count ≤ 255 ∧ (noticeFirst n).toNat / 2 ^ 24 = 255) ∧
    (7 ≤ 7 ∧ 65535 ≤ 65535) ∧ replyFirst .mapping 0x3F 65535 = 0xCFC0FFFF := by decide +kernel

/-- The first words of a LINK notice with a new position 5 and an old one 4, and of an ANTENNA notice of A2. -/
theorem test_notice_words :
    noticeFirst ⟨.link true false (some 5) (some 4), 1, 0⟩ = 0x01100054 ∧
      noticeFirst ⟨.antenna 2 true 6, 2, 0⟩ = 0x02120006 ∧ noticeSecond ⟨.reception .poor 9580, 1, 0⟩ = [0x256C] := by
  decide +kernel

theorem witness_RefusalOrder :
    (Ready (req [0]) (linkedIn .run) ∧ (req [0]).payload.length ≠ 0) ∧
    (Ready (req [0]) (linkedIn .pattern) ∧ (linkedIn .pattern).msg.op = .pattern ∧ (req [0]).payload.length = 1) ∧
    (Ready { req [0x10000000] with origin := 9 } (linkedIn .run) ∧
      ({ req [0x10000000] with origin := 9 } : Request).origin ≠ 0) ∧
    (Ready (req []) (linkedIn .run) ∧ (linkedIn .run).msg.op ≠ .config) ∧
    Passes .zoneSet { req [0x30000028] with origin := 7 } { linkedIn .run with
      mix := { MixUnit.reset with zones := MixUnit.reset.zones.set 3 { MixUnit.reset.zones[3] with panel := 7 } } } := by
  decide +kernel

theorem witness_RequestsNotTaken :
    (let s := messaged (fun u => { u with queue := List.replicate 4 ⟨32, 0, [], false⟩ }) (linkedIn .run)
     s.uplink.pathRaised = false ∧ s.linked = true ∧ (req []).dest ≠ 0 ∧ s.ring.position = some (req []).dest ∧
       s.msg.resetPhase = .none ∧ 4 ≤ s.msg.queue.length) ∧
    (messaged (fun u => { u with resetPhase := .pending }) (linkedIn .run)).msg.resetPhase = .pending ∧
    (let r : Request := ⟨5, 0, 0, []⟩; r.dest ≠ 0 ∧ (linkedIn .run).ring.position ≠ some r.dest) ∧
    State.reset.linked = false ∧ State.reset.uplink.pathRaised = false := by decide +kernel

theorem witness_BadKindAnswered :
    Ready (req []) (linkedIn .pattern) ∧ ∀ code ∈ [(0x00 : BitVec 6), 0x07, 0x36, 0x3F],
      code.toNat ∉ [1, 2, 3, 4, 5, 6, 8, 9, 10, 11, 16, 17, 18, 19, 20, 24, 25, 28, 29, 48, 49, 50, 51, 52, 53] := by
  decide +kernel

/-- The message unit's bounds hold with a full queue, a notice at its largest count and a message under way. -/
def busy (op : OpState) : State :=
  messaged (fun u => { u with
    queue := List.replicate 3 ⟨32, 0, [1], false⟩, sent := 2, assembly := .assembling 1 [2] false 64
    broken := 65535, checkFailed := 65535, dropped := 65535, notices := [⟨.call .ended, 255, 0⟩, ⟨.dropped 1, 1, 0⟩]
    cursor := some ⟨.echo, 0, 0, true, false, false⟩ }) (linkedIn op)

theorem witness_StateReply :
    Ready (req []) (busy .run) ∧ (req []).payload = [] ∧ MessageInv (busy .run) ∧
      (∀ c, (busy .run).msg.cursor = some c → c.index < 65536) ∧ (linkedIn .run).msg.cursor = none := by
  refine ⟨by decide +kernel, rfl, ?_, ?_, rfl⟩
  · unfold MessageInv
    refine ⟨by decide +kernel, (by decide : (2 : Nat) ≤ 1 + 1), ?_, by decide +kernel, by decide +kernel,
      by decide +kernel, by decide +kernel, by decide +kernel⟩
    exact ⟨by decide, by decide⟩
  · intro c h
    cases h
    decide

theorem witness_NoticeMerging :
    (∀ n ∈ [(⟨.call .ended, 1, 0⟩ : Notice)], n.detail.kind ≠ (NoticeDetail.dropped 1).kind) ∧
    (let n : Notice := ⟨.protect 3 .tier1Active, 255, 8⟩
     let d : NoticeDetail := .protect 27 .latched
     n.detail.kind = d.kind ∧ ∀ x ∈ [(⟨.call .ended, 1, 0⟩ : Notice)] ++ [⟨.dropped 1, 1, 0⟩], x.detail.kind ≠ d.kind) ∧
    (([⟨.call .ended, 1, 0⟩, ⟨.dropped 1, 1, 0⟩] : List Notice).map fun n => n.detail.kind).Nodup := by decide +kernel

theorem witness_Start :
    (taken .start (req []) (mapped [.out 3, .out 3] (linkedIn .config)) ∧
      mapFault (mapped [.out 3, .out 3] (linkedIn .config)).ring.slotMap = some 1) ∧
    (let s (m : DiversityMode) : State :=
       let t := mapped (antennaSlots 0 ++ antennaSlots 2 ++ [.uplink]) (linkedIn .config)
       { t with ant := { t.ant with mode := m } }
     ∀ m ∈ [DiversityMode.fixed 2, .switched, .paired], taken .start (req []) (s m) ∧ mapFault (s m).ring.slotMap = none ∧
       (s m).ant.mode = m ∧ antennaMapped (s m).ring.slotMap 2 = true ∧
       antennaMapped (s m).ring.slotMap (s m).ant.current = true) := by decide +kernel

theorem witness_Stop :
    (taken .stop (req []) (linkedIn .run) ∧ (linkedIn .run).call.state = .idle) ∧
    (let s := linkedIn .run
     let t : State := { s with call := { s.call with state := .closing } }
     taken .stop (req []) t ∧ t.call.state ≠ .idle) := by decide +kernel

theorem witness_Reset :
    (taken .reset (req []) (linkedIn .stopping) ∧ (req []).dest ≠ 0) ∧
    (taken .reset ⟨0, 0, 0, []⟩ (linkedIn .pattern) ∧ (⟨0, 0, 0, []⟩ : Request).dest = 0) ∧
    (messaged (fun u => { u with resetPhase := .due }) (linkedIn .run)).msg.resetPhase = .due ∧
    (linkedIn .run).msg.resetPhase ≠ .due := by decide +kernel

theorem witness_PatternEnterExit :
    (taken .patternEnter (req [3, 0, 0, 0, 0]) (linkedIn .run) ∧ field (argument (req [3, 0, 0, 0, 0]) 0) 1 0 = 3) ∧
    (∀ n ∈ [0, 1, 2], taken .patternEnter (req [num n, 0, 0, 0, 0]) (linkedIn .config) ∧
      field (argument (req [num n, 0, 0, 0, 0]) 0) 1 0 = n) ∧
    (let s := mapped [.srcL .a] (linkedIn .config); s.msg.op = .config ∧ mapFault s.ring.slotMap = some 0 ∧
      taken .patternEnter (req [0, 0, 0, 0, 0]) s) ∧
    mapFault (linkedIn .config).ring.slotMap = none ∧ (linkedIn .run).msg.op ≠ .config ∧
    taken .patternExit (req []) (linkedIn .pattern) := by decide +kernel

theorem witness_TableOpen :
    (∀ n ∈ [0x00000060, 0x00000000, 0x74000000, 0x7400006F], taken .tableOpen (req [num n]) (linkedIn .run)) ∧
    tableEntries (tableOf (field 0x00000060 31 28)) ≤ field 0x00000060 15 0 ∧
    (linkedIn .run).msg.op ≠ .config ∧
    (channelled 13 (fun x => { x with spare := .fading }) (linkedIn .run)).chan.channels[(13 : Fin 28)].spare = .fading := by
  refine ⟨?_, ?_, ?_, ?_⟩ <;> decide +kernel

/-- The state with an open cursor. -/
def opened (t : Table) (i : Nat) (s : State) : State :=
  messaged (fun u => { u with cursor := some ⟨t, i, Fin.ofNat 28 (i / 8), false, t == .coef, false⟩ }) s

theorem witness_TableWrite :
    (taken .tableWrite (req [0]) (linkedIn .run) ∧ (linkedIn .run).msg.cursor = none) ∧
    (taken .tableWrite (req [0]) (opened .coef 8 (linkedIn .run)) ∧ (req [0]).payload.length % entryWords .coef ≠ 0) ∧
    (taken .tableWrite (req [0]) (opened .zone 0 (linkedIn .run)) ∧
      (req [0]).payload.length % entryWords .zone = 0 ∧ tableWritable .zone (linkedIn .run).msg.op = false) ∧
    (taken .tableWrite (req [0, 0]) (opened .beam 23 (linkedIn .config)) ∧
      tableWritable .beam (linkedIn .config).msg.op = true ∧ (req [0, 0]).payload.length % entryWords .beam = 0 ∧
      (linkedIn .config).msg.op ≠ .run) ∧
    (taken .tableWrite (req []) (opened .ramp 0 (linkedIn .run)) ∧ tableWritable .ramp (linkedIn .run).msg.op = true) := by
  decide +kernel

theorem witness_TableWrite_beam :
    (let s := opened .beam 11 (linkedIn .run)
     taken .tableWrite (req [0, 0]) s ∧ s.msg.cursor = some ⟨.beam, 11, 1, false, false, false⟩ ∧ s.msg.op = .run ∧
       s.uplink.fading = false ∧ (req [0, 0]).payload[1]? = some 0 ∧
       ∃ b ∈ s.uplink.selections[s.uplink.live], (11 + 0) / 6 = b.seat.val) ∧
    (let s := opened .beam 23 (linkedIn .run)
     taken .tableWrite (req [0, 0]) s ∧ min (req [0, 0]).payload.length (24 - 23) = 1 ∧
       ∀ b ∈ s.uplink.selections[s.uplink.live], 23 / 6 ≠ b.seat.val) ∧
    (let s := opened .beam 0 (linkedIn .run)
     let t : State := { s with uplink := { s.uplink with fading := true, live := 1 } }
     taken .tableWrite (req [0]) t ∧ t.uplink.fading = true ∧ ∃ b ∈ t.uplink.selections[1 - t.uplink.live], 0 = b.seat.val) := by
  decide +kernel

theorem witness_EntryStored :
    (let w : Word := 0x3F000000; field w 31 30 = 0 ∧ 10 ≤ field w 31 24) ∧ field 0xC0000000 31 30 = 3 ∧
    (let w : Word := 0x70000000; field w 31 30 ≠ 0 ∧ 6 ≤ field w 29 27) ∧
    (let w : Word := 0x6C200200
     field w 31 30 = 1 ∧ field w 29 27 ≤ 5 ∧ field w 26 24 ≤ 4 ∧ field w 21 20 ≤ 2 ∧ field w 9 0 = 512 ∧
       ¬∃ j : Fin 32, j ≠ 31 ∧ (linkedIn .config).mix.routes[j].state ≠ .empty ∧
         sourceCode (linkedIn .config).mix.routes[j].source = field w 29 27 ∧
         (linkedIn .config).mix.routes[j].zone.val = field w 26 24) ∧
    10 ≤ field 0x0A000000 31 24 := by decide +kernel

theorem witness_EntryStored_records :
    (min 8388607 (field 0x00FFFFFF 23 0) = 8388607 ∧ min 8388607 (field 0x007FFFFE 23 0) < 8388607 ∧
      ¬min 8388607 (field 0x007FFFFF 23 0) < min 8388607 (field 0x00800000 23 0)) ∧
    (field 0x00300000 22 20 = 3 ∧ field 0x00300000 19 18 = 0 ∧ field 0x00300000 14 12 = 0 ∧ (0 : Nat) ≠ 7) ∧
    (let w : Word := 0x00307000
     field w 22 20 = 3 ∧ field w 14 12 = 7 ∧ ∀ (d : Fin 28) (a : Fin 4),
       (linkedIn .config).chan.channels[d].record.amp = some a → a.val ≠ field w 14 12) ∧
    (let s := channelled 4 (fun x => { x with record := ⟨some 0, .left, 0, 0, some 1, 7⟩ }) (linkedIn .config)
     let w : Word := 0x07001000
     field w 14 12 = 1 ∧ s.chan.channels[(4 : Fin 28)].record.amp = some 1 ∧ (1 : Fin 4).val = field w 14 12 ∧
       s.chan.channels[(4 : Fin 28)].record.ampChannel.val = field w 26 24) ∧
    (field 0x071B0000 31 24 = 7 ∧ field 0x071B0000 23 16 = (27 : Fin 28).val ∧ field 0x071C0000 23 16 = 28) ∧
    (linkedIn .config).msg.op ≠ .run ∧ (linkedIn .run).msg.op = .run := by decide +kernel

theorem witness_TableCloseRead :
    (taken .tableClose (req []) (linkedIn .run) ∧ (linkedIn .run).msg.cursor = none) ∧
    (let s := opened .coef 8 (linkedIn .run)
     taken .tableClose (req []) s ∧ s.msg.cursor = some ⟨.coef, 8, 1, false, true, false⟩) ∧
    (taken .tableRead (req [0x00010060]) (linkedIn .pattern) ∧ tableEntries (tableOf 0) ≤ field 0x00010060 15 0) ∧
    (taken .tableRead (req [0x74FF00DF]) (linkedIn .stopping) ∧
      field 0x74FF00DF 15 0 < tableEntries (tableOf (field 0x74FF00DF 31 28)) ∧
      tableOf (field 0x74FF00DF 31 28) = .coef ∧ bitAt 0x74FF00DF 26 = true) ∧
    ((linkedIn .run).prot.amps[(3 : Fin 4)].limit ≤ 255 ∧ (linkedIn .run).prot.amps[(3 : Fin 4)].temperature ≤ 255) ∧
    (∀ z : Fin 5, -320 ≤ (linkedIn .run).mix.zones[z].cap ∧ (linkedIn .run).mix.zones[z].cap ≤ 0) ∧
    (let shown (l : List Claim) : Option Claim := match l.find? fun c => c.state != .releasing with
       | some c => some c
       | none => l.head?
     shown [] = none ∧ shown [⟨1, .radio, .releasing⟩] = some ⟨1, .radio, .releasing⟩ ∧
       shown [⟨1, .radio, .releasing⟩, ⟨1, .mediaA, .pending⟩] = some ⟨1, .mediaA, .pending⟩) := by
  refine ⟨?_, ?_, ?_, ?_, ?_, ?_, ?_⟩ <;> decide +kernel

/-- Spec 04: Z4 with an old claim releasing and a new one on MEDIA_A pending shows the new one. -/
theorem test_zone_reads_claim :
    let s := claimed [⟨1, .radio, .releasing⟩, ⟨1, .mediaA, .pending⟩] (linkedIn .run)
    (readEntry s .zone false 4).map (fun w => (field w 7 5, field w 4 3)) = [(1, 1)] ∧
      (readEntry s .zone false 3).map (fun w => (field w 7 5, field w 4 3)) = [(7, 0)] := by decide +kernel

theorem witness_RouteAndZoneRequests :
    (let r := req [0x20400000]; taken .routeSet r (linkedIn .run) ∧ 31 < field (argument r 0) 31 24) ∧
    (let r := req [0x1F400200]
     taken .routeSet r (linkedIn .run) ∧ (31 : Fin 32).val = field (argument r 0) 31 24 ∧
       (linkedIn .run).mix.routes[(31 : Fin 32)].state = .empty) ∧
    (let r := req [0x1F600200]
     let s := routed 31 ⟨.enabled, .radio, 0, 0, .none⟩ (linkedIn .run)
     taken .routeSet r s ∧ s.mix.routes[(31 : Fin 32)].state ≠ .empty ∧ field (argument r 0) 23 22 = 1 ∧
       field (argument r 0) 21 20 = 2) ∧
    (∀ k ∈ [RequestKind.zoneSet, .zoneMute, .zoneLock], taken k (req [0x50000000]) (linkedIn .run) ∧
      4 < field (argument (req [0x50000000]) 0) 31 28 ∧ taken k (req [0x400000FF]) (linkedIn .config) ∧
      (4 : Fin 5).val = field (argument (req [0x400000FF]) 0) 31 28 ∧
      (63 : Fin 64).val = min 63 (field (argument (req [0x400000FF]) 0) 7 0)) := by
  refine ⟨?_, ?_, ?_, ?_⟩ <;> decide +kernel

theorem witness_ZoneSource :
    (taken .zoneSource (req [0x20000007]) (linkedIn .run) ∧ taken .zoneSource (req [0x30000004]) (linkedIn .run)) ∧
    (∀ op ∈ [OpState.run, .config], ∀ l ∈ [[], [⟨0, .mediaB, .pending⟩], [(⟨0, .mediaB, .held⟩ : Claim)]],
      taken .zoneSource (req [0x30000007]) (claimed l (linkedIn op)) ∧
        field (argument (req [0x30000007]) 0) 31 28 = (0 : Fin 2).val + 3 ∧ claimOf (claimed l (linkedIn op)).mix 0 = l.head?) ∧
    (let s := claimed [⟨0, .mediaB, .held⟩] (linkedIn .run)
     taken .zoneSource (req [0x40000002]) s ∧ claimOf s.mix (1 - 1) = some ⟨0, .mediaB, .held⟩) ∧
    (∀ l ∈ [[], [⟨0, .mediaB, .pending⟩], [(⟨0, .mediaB, .held⟩ : Claim)]],
      let s := claimed l (linkedIn .run)
      taken .zoneSource (req [0x30000003]) s ∧ claimOf s.mix (1 - 0) = none ∧ claimOf s.mix 0 = l.head?) ∧
    (taken .zoneSource (req [0x30000003]) (linkedIn .config) ∧ ∀ c ∈ (linkedIn .config).mix.claims, c.zone ≠ 0) := by
  decide +kernel

/-- A claim list on both seats that the claim invariant allows. -/
def bothSeats (op : OpState) : State :=
  claimed [⟨0, .mediaB, .held⟩, ⟨1, .radio, .releasing⟩, ⟨1, .mediaA, .pending⟩] (linkedIn op)

theorem witness_ZoneSource_release :
    taken .zoneSource (req [0x30000007]) (bothSeats .config) ∧
      claimOf (bothSeats .config).mix 0 = some ⟨0, .mediaB, .held⟩ ∧
      (taken .zoneSource (req [0x30000003]) (bothSeats .config) ∧ sourceCode .mediaC = field 0x30000003 2 0 ∧
        claimOf (bothSeats .config).mix (1 - 0) = some ⟨1, .mediaA, .pending⟩) ∧ ClaimInv (bothSeats .config) := by
  refine ⟨by decide +kernel, by decide +kernel, by decide +kernel, ?_⟩
  unfold ClaimInv
  decide +kernel

theorem witness_ClaimEvents :
    (let s := claimed [⟨0, .mediaB, .pending⟩] (routed 4 ⟨.enabled, .mediaB, 1, 0, .none⟩ (linkedIn .run))
     s.active = true ∧ s.uplink.pathRaised = false ∧ pendingOf s.mix 0 = some ⟨0, .mediaB, .pending⟩ ∧
       (∀ i : Fin 32, s.mix.routes[i].state ≠ .empty → s.mix.routes[i].source = .mediaB → s.mix.routes[i].zone.val ≤ 2 →
         s.gain.route[i].current = 0) ∧ ∀ d ∈ s.mix.claims, d.zone = 0 → d.state ≠ .releasing) ∧
    pendingOf (linkedIn .run).mix 0 = none ∧
    (∃ d ∈ (bothSeats .run).mix.claims, d.zone = 1 ∧ d.state = .releasing) ∧
    (releasingOf (bothSeats .run).mix 1 = some ⟨1, .radio, .releasing⟩ ∧ (bothSeats .run).gain.seat[(1 : Fin 2)].current = 0) ∧
    releasingOf (linkedIn .run).mix 0 = none := by decide +kernel

/-- Channel c with a failing stage 7 in its spare bank. -/
def unstable (c : Fin 28) (s : State) : State :=
  channelled c (fun x => x.setSpare ⟨x.spareBank.stages.set 7 ⟨0, 0, 0, 0, 4194304⟩, x.spareBank.history⟩) s

/-- A COEF cursor with ACTIVATE-ON-CLOSE on channel 27. -/
def closing27 (s : State) : State :=
  messaged (fun u => { u with cursor := some ⟨.coef, 224, 27, true, true, true⟩ })
    (channelled 27 (fun x => { x with spare := .open_ }) s)

theorem witness_BankActivate :
    (taken .bankActivate (req [28]) (linkedIn .run) ∧ 27 < field (argument (req [28]) 0) 7 0) ∧
    (let s := channelled 27 (fun x => { x with spare := .open_ }) (linkedIn .run)
     taken .bankActivate (req [27]) s ∧ (27 : Fin 28).val = field (argument (req [27]) 0) 7 0 ∧
       s.chan.channels[(27 : Fin 28)].spare ≠ .loaded) ∧
    (let s := unstable 27 (linkedIn .run)
     taken .bankActivate (req [27]) s ∧ s.chan.channels[(27 : Fin 28)].spare = .loaded ∧
       failingStage s.chan.channels[(27 : Fin 28)].spareBank = some 7) ∧
    (∀ op ∈ [OpState.run, .config], taken .bankActivate (req [0]) (linkedIn op) ∧
      (linkedIn op).chan.channels[(0 : Fin 28)].spare = .loaded ∧
      failingStage (linkedIn op).chan.channels[(0 : Fin 28)].spareBank = none) ∧
    (∀ op ∈ [OpState.run, .config], taken .tableClose (req []) (closing27 (linkedIn op)) ∧
      (closing27 (linkedIn op)).msg.cursor = some ⟨.coef, 224, 27, true, true, true⟩ ∧
      failingStage (closing27 (linkedIn op)).chan.channels[(27 : Fin 28)].spareBank = none) ∧
    (taken .tableClose (req []) (closing27 (unstable 27 (linkedIn .run))) ∧
      failingStage (closing27 (unstable 27 (linkedIn .run))).chan.channels[(27 : Fin 28)].spareBank = some 7) := by
  refine ⟨?_, ?_, ?_, ?_, ?_, ?_⟩ <;> decide +kernel

/-- Crossfade unit u busy with channel c at a count. -/
def fading (u : Fin 4) (c : Fin 28) (n : Nat) (s : State) : State :=
  let t := channelled c (fun x => { x with spare := .fading }) s
  { t with chan := { t.chan with fades := t.chan.fades.set u (some ⟨c, n⟩) } }

theorem witness_BankCrossfades :
    (let s := fading 0 2 5 (linkedIn .run)
     let t : State := { s with chan := { s.chan with queue := [14] } }
     t.active = true ∧ t.uplink.pathRaised = false ∧ t.chan.queue = [14] ∧ t.chan.fades[(1 : Fin 4)] = none ∧
       ∀ v : Fin 4, v.val < (1 : Fin 4).val → t.chan.fades[v] ≠ none) ∧
    ((linkedIn .run).active = true ∧ (linkedIn .run).chan.queue = []) ∧
    (let s := waiting 511 (linkedIn .run)
     s.active = true ∧ s.chan.queue = [14] ∧ s.chan.fades[(0 : Fin 4)] = some ⟨2, 511⟩) ∧
    (let s := fading 3 2 511 (linkedIn .run)
     s.active = true ∧ s.uplink.pathRaised = false ∧ s.chan.queue = [] ∧ s.chan.fades[(3 : Fin 4)] = some ⟨2, 511⟩ ∧
       511 ≤ (⟨2, 511⟩ : BankFade).count) ∧
    ((fading 3 2 510 (linkedIn .run)).chan.fades[(3 : Fin 4)] = some ⟨2, 510⟩ ∧ (⟨2, 510⟩ : BankFade).count < 511) := by
  decide +kernel

theorem witness_ProtectClear :
    (∀ n ∈ [0, 27, 28, 254, 255], taken .protectClear (req [num n]) (linkedIn .run) ∧
      field (argument (req [num n]) 0) 7 0 = n) ∧
    (bench 0 { ProtectRecord.initial with reduction := .mute }).prot.records[(5 : Fin 28)].reduction ≠ .steps 0 := by
  decide +kernel

/-- The state with an antenna unit changed. -/
def aerial (f : AntennaUnit → AntennaUnit) (s : State) : State := { s with ant := f s.ant }

theorem witness_RadioMode :
    (taken .radioMode (req [3]) (linkedIn .run) ∧ field (argument (req [3]) 0) 1 0 = 3) ∧
    (∀ op ∈ [OpState.config, .run], taken .radioMode (req [0x30]) (linkedIn op) ∧
      field (argument (req [0x30]) 0) 1 0 = 0 ∧ field (argument (req [0x30]) 0) 5 4 = (3 : Fin 4).val) ∧
    (let s := aerial (fun u => { u with fade := some ⟨.antenna 0, 1, 63⟩ }) (linkedIn .run)
     taken .radioMode (req [1]) s ∧ s.msg.op = .run ∧ s.ant.fade.isSome) ∧
    (∀ l ∈ [[some 1, some 2, some 3, some 4], [none, some 2, some 3, none], [none, none, none, none]],
      ∀ m ∈ [DiversityMode.fixed 0, .switched, .paired], ∀ r ∈ [req [0x30], req [1], req [2]],
      let s := aerial (fun u => { u with mode := m }) (scored l (linkedIn .run))
      taken .radioMode r s ∧ s.msg.op = .run ∧ s.ant.fade = none ∧ s.ant.mode = m) := by decide +kernel

theorem witness_RadioTune :
    (∀ f ∈ [8749, 8750, 10800, 10801], taken .radioTune (req [num f, 0]) (linkedIn .config) ∧
      field (argument (req [num f, 0]) 0) 15 0 = f) ∧
    ((linkedIn .config).radio.frequency = 8750 ∧ (linkedIn .config).radio.identifier = none) := by decide +kernel

/-- The state with a call state. -/
def called (x : CallState) (s : State) : State := { s with call := { s.call with state := x } }

theorem witness_CallAlertConnectMove :
    ∀ x ∈ [CallState.idle, .alerting, .active, .onHold, .closing],
      Ready (req [0x200]) (called x (linkedIn .run)) ∧ Passes .callAlert (req [0x200]) (called x (linkedIn .run)) ∧
      Passes .callConnect (req [0x200]) (called x (linkedIn .run)) ∧
      Passes .callMove (req [0x200]) (called x (linkedIn .run)) := by decide +kernel

theorem witness_CallHoldResumeEnd :
    ∀ x ∈ [CallState.idle, .alerting, .active, .onHold, .closing],
      Ready (req []) (called x (linkedIn .run)) ∧ Passes .callHold (req []) (called x (linkedIn .run)) ∧
      Passes .callResume (req []) (called x (linkedIn .run)) ∧ Passes .callEnd (req []) (called x (linkedIn .run)) := by
  decide +kernel

theorem witness_ClosingEnds :
    let s := called .closing (linkedIn .run)
    let t : State := { s with call := { s.call with closingArmed := true } }
    t.uplink.pathRaised = false ∧ t.active = true ∧ t.msg.op ≠ .stopping ∧ t.call.state = .closing ∧
      t.call.closingArmed = true ∧ (∀ z : Fin 5, t.gain.feed[z].current = 0) ∧ t.gain.uplink.current = 0 ∧
      (∀ i : Fin 32, t.gain.route[i].ramp = none) ∧ s.call.closingArmed ≠ true := by decide +kernel

theorem witness_StoppingReachesConfig :
    (linkedIn .stopping).linked = true ∧ (linkedIn .stopping).msg.op = .stopping ∧
      (linkedIn .stopping).uplink.pathRaised = false ∧ BankInv (linkedIn .stopping) ∧
      (∀ c : Fin 28, (linkedIn .stopping).gain.out[c].current = 0) ∧ (linkedIn .stopping).ant.pendingMode = none ∧
      (linkedIn .stopping).ant.fade = none ∧ (linkedIn .run).msg.op ≠ .stopping := by
  refine ⟨by decide +kernel, rfl, rfl, bankInv_linkedIn _, by decide +kernel, rfl, rfl, by decide +kernel⟩

theorem witness_StoppingReachesConfig_underWay :
    let s := waiting 511 (linkedIn .stopping)
    let t : State := { s with ant := { s.ant with fade := some ⟨.antenna 1, 0, 5⟩, pendingMode := some (.fixed 2) } }
    t.linked = true ∧ t.msg.op = .stopping ∧ t.uplink.pathRaised = false ∧ BankInv t ∧
      (∀ c : Fin 28, t.gain.out[c].current = 0) ∧ t.ant.fade ≠ none ∧ t.ant.pendingMode = some (.fixed 2) ∧
      t.chan.channels[(14 : Fin 28)].spare = .queued := by
  refine ⟨by decide +kernel, rfl, rfl, bankInv_waiting .stopping, by decide +kernel, by decide +kernel, rfl, by decide +kernel⟩

/-- The state with the uplink point replaced. -/
def uplinkPoint (p : GainPoint) (s : State) : State := { s with gain := { s.gain with uplink := p } }

theorem witness_Ramps :
    (let p : GainPoint := ⟨.steps 0, 1048576, 1048576, none⟩
     linearOf (.steps (-38)) ≠ p.linear ∧ linearOf (.steps (-38)) ≠ p.current ∧
       linearOf (.steps (-319)) = (⟨.steps (-320), 1, 1, none⟩ : GainPoint).linear ∧
       linearOf .mute ≠ (⟨.steps 0, 1048576, 0, none⟩ : GainPoint).linear ∧
       linearOf .mute = (⟨.steps 0, 1048576, 0, none⟩ : GainPoint).current) ∧
    (let s := uplinkPoint ⟨.steps (-56), 92682, 92064, some ⟨0, 96, 960, 1, .call⟩⟩ (linkedIn .run)
     s.active = true ∧ s.uplink.pathRaised = false ∧ (s.point .uplink).ramp = some ⟨0, 96, 960, 1, .call⟩) ∧
    (let s := uplinkPoint ⟨.steps (-56), 92682, 92064, some ⟨0, 96, 960, 2, .call⟩⟩ (linkedIn .run)
     (s.point .uplink).ramp = some ⟨0, 96, 960, 2, .call⟩ ∧ 1 < (⟨0, 96, 960, 2, .call⟩ : Ramp).left) := by decide +kernel

/-- A derated channel 5: amplifier 1 present at code 130, the limit less the band. -/
def hotBench (peak : Nat) (x : ProtectRecord) : State :=
  let s := channelled 5 (fun c => { c with record := ⟨some 2, .sum, 0, 1, some 1, 3⟩, peak := peak }) (linkedIn .run)
  { s with prot := { s.prot with
      records := s.prot.records.set 5 x, amps := s.prot.amps.set 1 ⟨140, 130, false, true, false, 0⟩ } }

theorem witness_TierTrip :
    (let s := bench 7500000 { ProtectRecord.initial with tier1 := ⟨.alert, 1⟩ }
     s.active = true ∧ s.uplink.pathRaised = false ∧ s.chan.channels[(5 : Fin 28)].record.zone ≠ none ∧
       s.prot.records[(5 : Fin 28)].tier1.state = .alert ∧ s.prot.records[(5 : Fin 28)].tier1.timer ≤ 1 ∧
       s.prot.classes[(1 : Fin 4)].t1Time ≠ 0 ∧ s.prot.classes[(1 : Fin 4)].t1Level ≤ s.chan.channels[(5 : Fin 28)].peak) ∧
    (let s := hotBench 6225000 { ProtectRecord.initial with tier2 := ⟨.alert, 1⟩ }
     s.active = true ∧ s.uplink.pathRaised = false ∧ s.prot.amps[(1 : Fin 4)].status = true ∧
       (s.prot.amps[(1 : Fin 4)].limit : Int) - s.prot.classes[(1 : Fin 4)].derateBand ≤
         s.prot.amps[(1 : Fin 4)].temperature ∧
       s.prot.records[(5 : Fin 28)].tier2.state = .alert ∧ s.prot.records[(5 : Fin 28)].tier2.timer ≤ 1 ∧
       s.prot.classes[(1 : Fin 4)].t2Time ≠ 0 ∧
       s.prot.classes[(1 : Fin 4)].t2Level - s.prot.classes[(1 : Fin 4)].t2Level * 64 / 256 ≤
         s.chan.channels[(5 : Fin 28)].peak) ∧
    (∀ x ∈ [{ ProtectRecord.initial with tier1 := ⟨.alert, 1⟩ }, { ProtectRecord.initial with tier2 := ⟨.alert, 1⟩ }],
      (bench 7500000 x).prot.records[(5 : Fin 28)].restart1 = false ∧
        (bench 7500000 x).prot.records[(5 : Fin 28)].restart2 = false) ∧
    (bench 7500000 { ProtectRecord.initial with tier1 := ⟨.alert, 1⟩, restart1 := true }).prot.records[(5 : Fin 28)].restart1 ≠
      false ∧
    (bench 7500000 { ProtectRecord.initial with tier1 := ⟨.alert, 2⟩ }).prot.records[(5 : Fin 28)].tier1.timer = 2 := by
  decide +kernel

theorem witness_TierRecoveredFastExpiry :
    (let s := bench 5299999 { ProtectRecord.initial with tier1 := ⟨.recovery, 1⟩ }
     s.active = true ∧ s.uplink.pathRaised = false ∧ s.chan.channels[(5 : Fin 28)].record.zone ≠ none ∧
       s.prot.classes[(1 : Fin 4)].t1Time ≠ 0 ∧ s.prot.records[(5 : Fin 28)].tier1.state = .recovery ∧
       s.prot.records[(5 : Fin 28)].tier1.timer ≤ 1 ∧
       s.chan.channels[(5 : Fin 28)].peak < s.prot.classes[(1 : Fin 4)].t1Recover) ∧
    (let s := hotBench 3149999 { ProtectRecord.initial with tier2 := ⟨.recovery, 1⟩ }
     s.prot.records[(5 : Fin 28)].tier2.state = .recovery ∧ s.prot.records[(5 : Fin 28)].tier2.timer ≤ 1 ∧
       s.chan.channels[(5 : Fin 28)].peak < s.prot.classes[(1 : Fin 4)].t2Recover -
         s.prot.classes[(1 : Fin 4)].t2Recover * s.prot.classes[(1 : Fin 4)].derateFactor / 256) ∧
    (let s := hotBench 0 { ProtectRecord.initial with fastHold := true, fastTimer := 1 }
     s.prot.records[(5 : Fin 28)].fastHold = true ∧ s.prot.records[(5 : Fin 28)].fastTimer ≤ 1 ∧
       s.prot.amps[(1 : Fin 4)].overTempMark = false ∧ s.prot.amps[(1 : Fin 4)].clipMarks.getLsbD 3 = false) ∧
    (bench 0 .initial).prot.records[(5 : Fin 28)].fastHold = false := by decide +kernel

/-- A tier that begins in CLEAR (R118), its peak below and at its level. -/
theorem witness_TierRecoveredFastExpiry_restart :
    ∀ p ∈ [7499999, 7500000],
      let s := bench p { ProtectRecord.initial with
        tier1 := ⟨.active, 0⟩, tier2 := ⟨.recovery, 9⟩, restart1 := true, restart2 := true }
      s.prot.classes[(1 : Fin 4)].t1Time ≠ 0 ∧ s.prot.records[(5 : Fin 28)].restart1 = true ∧
        s.prot.records[(5 : Fin 28)].tier1.state = .active ∧ s.prot.classes[(1 : Fin 4)].t1Level = 7500000 ∧
        s.prot.classes[(1 : Fin 4)].t2Time ≠ 0 ∧ s.prot.records[(5 : Fin 28)].restart2 = true ∧
        s.prot.records[(5 : Fin 28)].tier2.state = .recovery ∧
        s.chan.channels[(5 : Fin 28)].record.amp = none := by decide +kernel

/-- R118: its peak below its level, TIER RECOVERED takes a marked tier to CLEAR; at its level, to ALERT. -/
theorem test_tier_recovered_marked :
    [7499999, 7500000].map (fun p => ((after (.tierRecovered 5 .one) (bench p { ProtectRecord.initial with
      tier1 := ⟨.active, 0⟩, restart1 := true })).prot.records[5].tier1.state)) = [.clear, .alert] := by decide +kernel

theorem witness_AntennaEvents :
    (let s := aerial (fun u => { u with alert := some 1 }) (scored [some 37, some 42, some 40, some 45] (linkedIn .run))
     let u := s.ant
     s.active = true ∧ s.uplink.pathRaised = false ∧ u.mode = .switched ∧ u.antennas[u.current].present = true ∧
       u.antennas[u.current].score < u.record.switchLevel + u.record.hysteresis ∧
       u.antennas[u.current].score + u.record.margin = u.antennas[(3 : Fin 4)].score ∧
       ∀ d : Fin 4, d ≠ 3 → u.antennas[d].score < u.antennas[(3 : Fin 4)].score) ∧
    (let s := aerial (fun u => { u with alert := some 1 }) (scored [some 45, some 52, none, none] (linkedIn .run))
     let u := s.ant
     u.antennas[u.current].score < u.record.switchLevel + u.record.hysteresis ∧
       ∀ b : Fin 4, u.antennas[b].present = true → b ≠ u.current →
         u.antennas[b].score < u.antennas[u.current].score + u.record.margin) ∧
    (let s := aerial (fun u => { u with mode := .paired, pair := [0, 2], challenge := #v[0, 23, 0, 0] })
       (scored [some 53, some 58, some 50, none] (linkedIn .run))
     let u := s.ant
     s.active = true ∧ s.uplink.pathRaised = false ∧ u.mode = .paired ∧ u.pair = [0, 2] ∧
       u.antennas[(2 : Fin 4)].score < u.antennas[(0 : Fin 4)].score ∧ u.antennas[(0 : Fin 4)].present = true ∧
       u.antennas[(2 : Fin 4)].present = true ∧ 1 ≤ u.record.pairDwell ∧ u.antennas[(1 : Fin 4)].present = true ∧
       u.antennas[(2 : Fin 4)].score + u.record.pairMargin = u.antennas[(1 : Fin 4)].score ∧
       u.record.pairDwell = min 65535 (u.challenge[(1 : Fin 4)] + 1) ∧ u.antennas[(3 : Fin 4)].present = false) ∧
    (let s := aerial (fun u => { u with mode := .paired, pair := [0, 2], challenge := #v[0, 22, 0, 0] })
       (scored [some 53, some 58, some 50, none] (linkedIn .run))
     min 65535 (s.ant.challenge[(1 : Fin 4)] + 1) < s.ant.record.pairDwell) := by decide +kernel

theorem witness_SwitchCrossfadeEnd :
    (∀ m ∈ [none, some DiversityMode.paired],
      let s := aerial (fun u => { u with fade := some ⟨.antenna 3, 0, 63⟩, pendingMode := m }) (linkedIn .run)
      s.active = true ∧ s.uplink.pathRaised = false ∧ s.ant.fade = some ⟨.antenna 3, 0, 63⟩ ∧ s.ant.pendingMode = m) ∧
    ((aerial (fun u => { u with fade := some ⟨.antenna 3, 0, 62⟩ }) (linkedIn .run)).ant.fade =
      some ⟨.antenna 3, 0, 62⟩ ∧ (⟨.antenna 3, 0, 62⟩ : SwitchFade).count < 63) ∧
    ((0 : Nat) + 0 = 0 ∧ (127 : Nat) + 0 ≠ 0) ∧
    (corrPairs[(0 : Fin 6)] = (0, 1) ∧ corrPairs[(5 : Fin 6)] = (2, 3)) := by decide +kernel

/-- R144: two members at equal weights, the second turned by a quarter. -/
theorem test_pair_sample :
    let u := { AntennaUnit.reset with mode := .paired, pair := [0, 1], phase := 16 }
    combinedSample u (fun a => if a = 0 then (100, 200) else (60, -8)) = (54, 130) ∧
    combinedSample { u with fade := some ⟨.antenna 1, 0, 16⟩ } (fun a => if a = 0 then (100, 200) else (60, -8)) = (70, 44) := by
  decide +kernel

/-- The state with a radio unit changed. -/
def radioed (f : RadioUnit → RadioUnit) (s : State) : State := { s with radio := f s.radio }

theorem witness_RadioEvents :
    ((radioed (fun u => { u with pilotRun := 3 }) (linkedIn .run)).active = true ∧
      (radioed (fun u => { u with pilotRun := 3 }) (linkedIn .run)).radio.pilotRun = 3 ∧
      (linkedIn .run).radio.pilotRun < 3 ∧ (linkedIn .run).uplink.pathRaised = false) ∧
    (∀ n ∈ [6, 8], let s := radioed (fun u => { u with blocksSinceTune := n }) (linkedIn .run)
      s.radio.settle ≤ s.radio.blocksSinceTune ∨ min 65535 (s.radio.blocksSinceTune + 1) < s.ant.record.tuneSettle) ∧
    (∀ q ∈ [25, 59, 60, 127],
      let s := radioed (fun u => { u with blocksSinceTune := 7 }) (scored [some q] (linkedIn .run))
      q = blendQuality (handOver s.ant) ∧ s.ant.record.poorLevel ≤ q ∧ s.radio.reception ≠ .poor ∧
        1 ≤ s.ant.record.poorTime ∧ s.radio.settle ≤ 65535 ∧ s.radio.blocksSinceTune < s.radio.settle ∧
        s.ant.record.tuneSettle = s.radio.blocksSinceTune + 1) ∧
    (let s := radioed (fun u => { u with blocksSinceTune := 8, poorCount := 374 }) (scored [some 24] (linkedIn .run))
     s.ant.record.tuneSettle ≤ s.radio.blocksSinceTune ∧ s.radio.reception ≠ .poor ∧ anyPresent s.ant = true ∧
       s.ant.antennas[s.ant.current].score < s.ant.record.poorLevel ∧
       s.ant.record.poorTime = min 65535 (s.radio.poorCount + 1)) ∧
    (let s := radioed (fun u => { u with blocksSinceTune := 8, recoverCount := 749, reception := .poor })
       (scored [some 31] (linkedIn .run))
     s.radio.reception = .poor ∧ anyPresent s.ant = true ∧
       s.ant.record.poorLevel + s.ant.record.hysteresis = s.ant.antennas[s.ant.current].score ∧
       s.ant.record.recoverTime = min 65535 (s.radio.recoverCount + 1)) := by decide +kernel

/-- A beam crossfade whose ramps have ended, with a pending change or none. -/
def beamsEnded (change : Bool) (p : Fin 4) : State :=
  let s := linkedIn .run
  { s with
    uplink := { s.uplink with fading := true, changePending := change }
    call := { s.call with placement := p }
    gain := { s.gain with beam := #v[⟨.mute, 0, 0, none⟩, ⟨.steps 0, 1048576, 1048576, none⟩] } }

theorem witness_BeamCrossfadeEnd :
    (∀ c ∈ [true, false], let s := beamsEnded c 2
      s.active = true ∧ s.uplink.pathRaised = false ∧ s.uplink.fading = true ∧
        s.gain.beam[(1 - s.uplink.live)].ramp = none ∧ s.gain.beam[(1 - s.uplink.live)].current = 1048576 ∧
        s.gain.beam[s.uplink.live].ramp = none ∧ s.gain.beam[s.uplink.live].current = 0) ∧
    ((beamsEnded true 2).uplink.changePending = true ∧
      selectionOf (beamsEnded true 2).uplink.beams 2 ≠ (beamsEnded true 2).uplink.selections[(1 : Fin 2)]) ∧
    (beamsEnded false 2).uplink.changePending = false ∧ (linkedIn .run).uplink.fading ≠ true := by decide +kernel

/-- The state with an uplink unit changed. -/
def linked (f : UplinkUnit → UplinkUnit) : State := { linkedIn .run with uplink := f (linkedIn .run).uplink }

theorem witness_TalkAndEchoEvents :
    (∀ x ∈ [TalkState.nearOnly, .double],
      let s := linked fun u => { u with talk := x, peakF := 65536, peakR := 131071, nearQuiet := 29 }
      s.active = true ∧ s.uplink.pathRaised = false ∧ s.uplink.talk = x ∧
        s.uplink.record.farThreshold ≤ s.uplink.peakF ∧ s.uplink.peakR < s.uplink.record.nearThreshold ∧
        s.uplink.record.nearRelax = min 65535 (s.uplink.nearQuiet + 1)) ∧
    (let u := (linked fun u => { u with talk := .farOnly, peakF := 65535, peakR := 131071, farQuiet := 14 }).uplink
     u.talk = .farOnly ∧ u.peakF < u.record.farThreshold ∧ u.peakR < u.record.nearThreshold ∧
       u.record.farRelax = min 65535 (u.farQuiet + 1)) ∧
    (let u := (linked fun u => { u with nearQuiet := 28, farQuiet := 13 }).uplink
     u.talk = .quiet ∧ min 65535 (u.nearQuiet + 1) < u.record.nearRelax ∧ min 65535 (u.farQuiet + 1) < u.record.farRelax) ∧
    (let u := (linked fun u => { u with talk := .farOnly, echo := .converging, peakN := 32, peakR := 1, converge := 149 }).uplink
     u.talk = .farOnly ∧ u.echo = .converging ∧ (u.record.convergeLevel : Int) = 2 * (u.peakN.log2 : Int) ∧
       u.record.convergeBlocks = min 65535 (u.converge + 1)) ∧
    (let u := (linked fun u => { u with talk := .farOnly, echo := .converged, peakN := 2, peakR := 2, diverge := 74 }).uplink
     u.talk = .farOnly ∧ u.echo = .converged ∧ (0 : Int) < u.record.divergeLevel ∧
       u.record.divergeBlocks = min 65535 (u.diverge + 1)) := by decide +kernel

theorem witness_LinearGain :
    (0 ≤ (2 : Int) ∧ (0 : Nat) < 16 ∧ 16 * (2 : Int) + (0 : Nat) ≤ 32) ∧
    ((-20 : Int) < 0 ∧ (0 : Nat) < 16 ∧ -320 ≤ 16 * (-20 : Int) + (0 : Nat) ∧ ((20 : Nat) : Int) = -(-20)) ∧
    ((-1 : Int) < 0 ∧ (15 : Nat) < 16 ∧ ((1 : Nat) : Int) = -(-1)) := by decide

theorem witness_PointTargets :
    (linkedIn .run).mix.routes[(0 : Fin 32)].state ≠ .enabled ∧
    (let s := claimed [⟨0, .mediaB, .releasing⟩] (routed 4 ⟨.enabled, .mediaB, 2, 0, .none⟩ (linkedIn .run))
     s.mix.routes[(4 : Fin 32)].zone.val ≤ 2 ∧ ∃ c ∈ s.mix.claims, c.source = s.mix.routes[(4 : Fin 32)].source) ∧
    (let s := routed 4 ⟨.enabled, .mediaB, 3, 0, .none⟩ (linkedIn .run)
     ¬(s.mix.routes[(4 : Fin 32)].state ≠ .enabled ∨ (s.mix.routes[(4 : Fin 32)].zone.val ≤ 2 ∧
       ∃ c ∈ s.mix.claims, c.source = s.mix.routes[(4 : Fin 32)].source))) := by decide +kernel

theorem witness_PointTargets_causes :
    (let s := claimed [⟨0, .mediaB, .releasing⟩] (routed 4 ⟨.enabled, .mediaB, 2, 0, .none⟩ (linkedIn .run))
     s.gain.routeContext[(4 : Fin 32)].suspended ≠ (routeContextOf s 4).suspended) ∧
    (let s := linkedIn .run
     let t := routed 4 ⟨.enabled, .mediaB, 2, 0, .media⟩ { s with call :=
       { s.call with state := .active, ducks := Vector.replicate 40 (.steps (-32)) } }
     t.gain.routeContext[(4 : Fin 32)].suspended = (routeContextOf t 4).suspended ∧
       t.gain.routeContext[(4 : Fin 32)].ducked ≠ (routeContextOf t 4).ducked ∧
       t.gain.routeContext[(4 : Fin 32)].duck ≠ (routeContextOf t 4).duck) ∧
    (let a : OutputContext := ⟨false, false, false, .steps 0, 0, .steps 0⟩
     let b (m n : Int) : OutputContext := ⟨false, false, false, .steps (0 + m), 0, .steps (0 + n)⟩
     ∀ m ∈ [(-8 : Int), -4, 4], ∀ n ∈ [(-8 : Int), -4, 4], (b m n).stopping = false ∧
       ({ a with curve := (b m n).curve } : OutputContext).target ≠ a.target ∧
       ({ a with reduction := (b m n).reduction } : OutputContext).target ≠ a.target) ∧
    ((Step.steps (-8)).below (.steps 0) = true ∧ Step.mute.below (.steps 0) = true) := by decide +kernel

theorem witness_StageArithmetic : -8388608 ≤ (-8388608 : Int) ∧ (-8388608 : Int) ≤ 8388607 := by decide

theorem witness_StabilityTest :
    let s := unstable 27 (linkedIn .run)
    taken .bankActivate (req [27]) s ∧ field (argument (req [27]) 0) 7 0 = (27 : Fin 28).val ∧
      s.chan.channels[(27 : Fin 28)].spare = .loaded ∧
      ¬s.chan.channels[(27 : Fin 28)].spareBank.stages[(7 : Fin 8)].a2 < 4194304 ∧
      ∀ j : Fin 8, j.val < 7 → s.chan.channels[(27 : Fin 28)].spareBank.stages[j] = ⟨4194304, 0, 0, 0, 0⟩ := by
  decide +kernel

theorem witness_TierTimes :
    let k : TierSetting := ⟨2, 100, 50, 1⟩
    k.time ≠ 0 ∧ 1 ≤ k.recoverTime ∧ (∀ p ∈ [100, 100, 101], k.level ≤ p) ∧ [100, 100, 101].length = k.time + 1 ∧
      (∀ p ∈ [49, 0], p < k.recover) ∧ [49, 0].length = k.recoverTime + 1 ∧ (99 : Nat) < k.level ∧ k.recover ≤ 50 ∧
      (⟨0, 100, 50, 1⟩ : TierSetting).time = 0 := by decide

/-- An output point that is not yet at 0 keeps a stopping part in its state. -/
def stillSounding : State := louder 0 (some 2) (linkedIn .stopping)

theorem witness_BlockEnd :
    (∀ s ∈ [linkedIn .run, patternFromRun, stillSounding, louder 9 (some 2) (linkedIn .run)],
      s.ring.link = .linked ∧ (idleFrame 63).ctype = .idle ∧ (idleFrame 63).index = 63 ∧ s.msg.resetPhase = .none ∧
      (∀ m ∈ s.msg.queue, m.resets = false) ∧ s.ant.pendingMode = none ∧
      s.chan.channels[(0 : Fin 28)].record.zone = none ∧ antennaMapped s.ring.slotMap 0 = false) ∧
    ((linkedIn .run).msg.op = .run ∧ patternFromRun.msg.op = .pattern ∧ patternFromRun.msg.patternFrom = .run ∧
      stillSounding.msg.op = .stopping ∧ (gainStep stillSounding).out[(5 : Fin 28)].current ≠ 0) := by decide +kernel

/-- An enabled channel with and without a mark of the block, a mapped antenna with and without power. -/
theorem witness_BlockEnd_evaluations :
    (let s := hotBench 0 .initial
     s.chan.channels[(5 : Fin 28)].record.zone ≠ none ∧ s.chan.channels[(5 : Fin 28)].record.amp = some 1 ∧
       s.prot.amps[(1 : Fin 4)].status = true ∧ s.prot.amps[(1 : Fin 4)].overTempMark = false ∧
       ({ s.prot.amps[(1 : Fin 4)] with clipMarks := 8 } : Amplifier).clipMarks.getLsbD 3 = true) ∧
    (let s := mapped (antennaSlots 3) (linkedIn .run)
     antennaMapped s.ring.slotMap 3 = true ∧ s.ant.powers[(3 : Fin 4)] = [] ∧ s.ant.antennas[(3 : Fin 4)].present = false) ∧
    ((linkedIn .run).radio.blocksSinceTune + 1 < (linkedIn .run).ant.record.tuneSettle ∧
      (linkedIn .run).radio.pilotRun < 3 ∧ (linkedIn .run).radio.reception ≠ .poor) ∧
    (let u := (linkedIn .run).uplink
     u.peakF < u.record.farThreshold ∧ u.record.nearThreshold ≤ 131072 ∧ u.peakR < u.record.nearThreshold) := by
  decide +kernel

/-- Every case of the selection: FIXED with its antenna here, gone, all gone; SWITCHED without an alert above and below the
level, in an alert that goes on, ends, finds a rival or none, and with the antenna in use gone; PAIRED with no, one and two
members, one that takes a place, and challengers below and at their dwell. -/
theorem witness_BlockEnd_selection :
    (∀ l ∈ [[some 50, some 40, none, none], [none, some 40, none, none], [none, none, some 9, none], [none, none, none, none]],
      let s := aerial (fun u => { u with mode := .fixed 0, current := 1 }) (scored l (linkedIn .run))
      s.ant.mode = .fixed 0 ∧ s.ant.current = 1 ∧ (s.ant.antennas[(0 : Fin 4)].present = (l.getD 0 none).isSome) ∧
        s.ant.antennas[(1 : Fin 4)].present = (l.getD 1 none).isSome) ∧
    ((linkedIn .run).ant.record.switchLevel = 40 ∧ (linkedIn .run).ant.record.hysteresis = 6 ∧
      (linkedIn .run).ant.record.margin = 8) ∧
    (∀ a ∈ [none, some 1, some 2], ∀ q ∈ [39, 40, 45, 46], ∀ b ∈ [q + 7, q + 8],
      let s := aerial (fun u => { u with alert := a }) (scored [some q, some b] (linkedIn .run))
      s.ant.mode = .switched ∧ s.ant.alert = a ∧ s.ant.antennas[s.ant.current].present = true ∧
        s.ant.antennas[s.ant.current].score = q ∧ s.ant.antennas[(1 : Fin 4)].score = b) ∧
    (∀ l ∈ [[none, some 3], [none, none]], (scored l (linkedIn .run)).ant.mode = .switched ∧
      (scored l (linkedIn .run)).ant.antennas[(0 : Fin 4)].present = false) ∧
    (∀ l ∈ [[none, none, none, none], [none, some 7, none, none], [some 53, some 58, some 50, none]],
      ∀ p ∈ [[], [1], [(0 : Fin 4), 2]], ∀ n ∈ [22, 23],
      let s := aerial (fun u => { u with mode := .paired, pair := p, challenge := #v[0, n, 0, 0] }) (scored l (linkedIn .run))
      s.ant.mode = .paired ∧ s.ant.pair.Nodup ∧ s.ant.pair.length ≤ 2 ∧ s.ant.challenge[(1 : Fin 4)] = n) := by
  decide +kernel

/-- Every case of the echo evaluation: OFF, a block that is not FAR_ONLY, CONVERGING below and at its count, CONVERGED below
and at its count, the call ACTIVE and not. -/
theorem witness_BlockEnd_echo :
    ∀ c ∈ [CallState.active, .onHold], ∀ e ∈ [EchoState.off, .converging, .converged], ∀ n ∈ [73, 74, 148, 149],
      let s : State := { linkedIn .run with
        call := { (linkedIn .run).call with state := c }
        uplink := { (linkedIn .run).uplink with
          talk := .farOnly, echo := e, converge := n, diverge := n, peakF := 65536, peakN := 40000, peakR := 500 } }
      s.uplink.echo = e ∧ s.call.state = c ∧ s.uplink.record.farThreshold ≤ s.uplink.peakF ∧
        s.uplink.peakR < s.uplink.record.nearThreshold ∧ s.uplink.record.convergeBlocks = 150 ∧
        s.uplink.record.divergeBlocks = 75 := by decide +kernel

/-- Seat Z4 in mode PRIVATE, with a claim list. -/
def privateSeat (l : List Claim) : State :=
  let s := claimed l (linkedIn .run)
  { s with mix := { s.mix with zones := s.mix.zones.set 4 { s.mix.zones[4] with seatMode := true } } }

theorem witness_ZoneBuses :
    (2 : Fin 5).val ≤ 2 ∧ (4 : Fin 5).val = (1 : Fin 2).val + 3 ∧
    releasingOf (bothSeats .run).mix 1 = some ⟨1, .radio, .releasing⟩ ∧
    (releasingOf (linkedIn .run).mix 1 = none ∧ (linkedIn .run).mix.zones[(4 : Fin 5)].seatMode = false) ∧
    (let s := privateSeat [⟨1, .mediaA, .pending⟩]
     releasingOf s.mix 1 = none ∧ s.mix.zones[(4 : Fin 5)].seatMode = true ∧
       ∀ c ∈ s.mix.claims, c.zone = 1 → c.state ≠ .held) ∧
    (let s := privateSeat [⟨1, .mediaA, .held⟩]
     releasingOf s.mix 1 = none ∧ s.mix.zones[(4 : Fin 5)].seatMode = true ∧
       (s.mix.claims.find? fun d => d.zone == 1 && d.state == .held) = some ⟨1, .mediaA, .held⟩) := by decide +kernel

/-- The step of an idle state in which no command waits. -/
theorem step_linkedIn (op : OpState) : step (linkedIn op) = .next (linkedIn op) := rfl

theorem witness_GainInvKept : GainInv (linkedIn .stopping) ∧ step (linkedIn .stopping) = .next (linkedIn .stopping) := by
  have h : ∀ i : GainId, (linkedIn .stopping).point i = .zero := by
    intro i
    cases i with
    | route i => revert i; decide +kernel
    | seat i => revert i; decide +kernel
    | feed i => revert i; decide +kernel
    | radio => rfl
    | uplink => rfl
    | beam i => revert i; decide +kernel
    | out i => revert i; decide +kernel
  refine ⟨⟨fun i => ?_, fun _ i => ?_⟩, rfl⟩
  · rw [h i]
    exact ⟨by decide, by decide, by simp [GainPoint.zero]⟩
  · rw [h i]
    exact ⟨rfl, rfl⟩

theorem witness_MessageInvKept : MessageInv (busy .run) ∧ step (busy .run) = .next (busy .run) :=
  ⟨witness_StateReply.2.2.1, rfl⟩

theorem witness_ClaimInvKept : ClaimInv (bothSeats .run) ∧ step (bothSeats .run) = .next (bothSeats .run) := by
  refine ⟨?_, rfl⟩
  unfold ClaimInv
  decide +kernel

theorem witness_BankInvKept : BankInv (linkedIn .run) ∧ step (linkedIn .run) = .next (linkedIn .run) :=
  ⟨bankInv_linkedIn _, rfl⟩

theorem witness_EntriesReadBack :
    (let x : ChannelRecord := ⟨none, .sum, -320, 3, some 3, 7⟩; -320 ≤ x.trim ∧ x.trim ≤ 32) ∧
    (let x : RouteRecord := ⟨.disabled, .chime, 4, 32, .prompt⟩
     x.state ≠ .empty ∧ x.source ≠ .call ∧ -320 ≤ x.trim ∧ x.trim ≤ 32) ∧
    (-511 ≤ (-511 : Int) ∧ (511 : Int) ≤ 511) ∧
    (∀ v ∈ [(-8388608 : Int), 8388607, 0, -1, 1], -8388608 ≤ v ∧ v ≤ 8388607) ∧
    (let x := ProtectClass.initial
     x.t1Level ≤ 8388607 ∧ x.t2Level ≤ 8388607 ∧ x.t1Recover ≤ x.t1Level ∧ x.t2Recover ≤ x.t2Level ∧ x.t1Time ≤ 65535 ∧
       x.t2Time ≤ 65535 ∧ 1 ≤ x.recoverTime ∧ x.recoverTime ≤ 65535 ∧ 1 ≤ x.fastHold ∧ x.fastHold ≤ 65535 ∧
       1 ≤ x.latchWindow ∧ x.latchWindow ≤ 65535 ∧ x.derateFactor ≤ 255 ∧ x.latchCount ≤ 15 ∧ x.derateBand ≤ 100 ∧
       -320 ≤ x.t1Reduce ∧ x.t1Reduce ≤ 0 ∧ -320 ≤ x.fastReduce ∧ x.fastReduce ≤ 0) ∧
    (let x : BeamEntry := ⟨31, -32768⟩; -32768 ≤ x.weight ∧ x.weight ≤ 32767) ∧
    (let x : BlendEntry := ⟨16, 7, .steps (-320)⟩; x.separation ≤ 16 ∧ x.highCut ≤ 7) ∧
    (let x : RadioRecord := ⟨127, 127, 0, 127, 127, 127, 65535, 1, 65535, 1, 65535⟩
     x.switchLevel ≤ 127 ∧ x.hysteresis ≤ 127 ∧ x.margin ≤ 127 ∧ x.pairMargin ≤ 127 ∧ x.goodLevel ≤ 127 ∧
       x.poorLevel ≤ 127 ∧ x.tuneSettle ≤ 65535 ∧ 1 ≤ x.dwell ∧ x.dwell ≤ 65535 ∧ 1 ≤ x.pairDwell ∧
       x.pairDwell ≤ 65535 ∧ 1 ≤ x.poorTime ∧ x.poorTime ≤ 65535 ∧ 1 ≤ x.recoverTime ∧ x.recoverTime ≤ 65535) ∧
    (let x : EchoRecord := ⟨8388607, 0, 1, 65535, 255, 1, 0, 65535, -320, 255⟩
     x.farThreshold ≤ 8388607 ∧ x.nearThreshold ≤ 8388607 ∧ 1 ≤ x.nearRelax ∧ x.nearRelax ≤ 65535 ∧ 1 ≤ x.farRelax ∧
       x.farRelax ≤ 65535 ∧ 1 ≤ x.convergeBlocks ∧ x.convergeBlocks ≤ 65535 ∧ 1 ≤ x.divergeBlocks ∧
       x.divergeBlocks ≤ 65535 ∧ x.convergeLevel ≤ 255 ∧ x.divergeLevel ≤ 255 ∧ x.pathStep ≤ 255 ∧
       -320 ≤ x.attenuation ∧ x.attenuation ≤ 0) ∧
    (∀ x ∈ [(⟨1, 65535, 1, 65535, 1, 65535, 1⟩ : RampRecord)], 1 ≤ x.route ∧ x.route ≤ 65535 ∧ 1 ≤ x.volume ∧
      x.volume ≤ 65535 ∧ 1 ≤ x.attack ∧ x.attack ≤ 65535 ∧ 1 ≤ x.release ∧ x.release ≤ 65535 ∧ 1 ≤ x.claim ∧
      x.claim ≤ 65535 ∧ 1 ≤ x.call ∧ x.call ≤ 65535 ∧ 1 ≤ x.stop ∧ x.stop ≤ 65535) ∧
    (3 ≤ (4 : Fin 5).val ∧ -320 ≤ MixUnit.reset.zones[(4 : Fin 5)].cap ∧ MixUnit.reset.zones[(4 : Fin 5)].cap ≤ 0) := by
  refine ⟨?_, ?_, ?_, ?_, ?_, ?_, ?_, ?_, ?_, ?_, ?_⟩ <;> decide +kernel

end Sys2Proof.Tests
end

/-! Hop count and position (spec 01, R2 to R8): only the hop count and the link rows move the position and the transmit
link. Everything a command word or a unit does keeps the link side of the ring interface. -/

namespace Sys2Proof.Machine

/-! ## The link side of the ring interface -/

/-- The ring interface with its slot map and pattern at their reset values: what the frames alone determine. A request
moves at most the fields put aside here, and a RESET leaves exactly this (R35). -/
def RingUnit.linkSide (u : RingUnit) : RingUnit :=
  { u with
    slotMap := RingUnit.reset.slotMap
    pattern := RingUnit.reset.pattern
    patternFormat := RingUnit.reset.patternFormat }

theorem RingUnit.position_eq_of_linkSide_eq {u v : RingUnit} (h : u.linkSide = v.linkSide) : u.position = v.position :=
  show u.linkSide.position = v.linkSide.position from congrArg RingUnit.position h

theorem RingUnit.transmitted_eq_of_linkSide_eq {u v : RingUnit} (h : u.linkSide = v.linkSide) :
    u.transmitted = v.transmitted :=
  show u.linkSide.transmitted = v.linkSide.transmitted from congrArg RingUnit.transmitted h

/-! ## Answers and the parts of a handler -/

@[simp] theorem refuse_state (code : ResultCode) (d : Nat) (s : State) : (refuse code d s).state = s := rfl

@[simp] theorem answerOk_state (s : State) : (answerOk s).state = s := rfl

@[simp] theorem answerAccepted_state (s : State) : (answerAccepted s).state = s := rfl

@[simp] theorem setOp_ring (op : OpState) (s : State) : (setOp op s).ring = s.ring := rfl

@[simp] theorem startPoints_ring (s : State) : (startPoints s).ring = s.ring := rfl

@[simp] theorem enterRun_ring (s : State) : (enterRun s).ring = s.ring := by simp [enterRun]

@[simp] theorem setZone_ring (z : Fin 5) (x : ZoneRecord) (s : State) : (setZone z x s).ring = s.ring := rfl

@[simp] theorem advanceCursor_ring (c : Cursor) (n : Nat) (s : State) : (advanceCursor c n s).ring = s.ring := rfl

@[simp] theorem enterPattern_linkSide (format : PatternFormat) (words : Vector SlotWord 4) (s : State) :
    (enterPattern format words s).ring.linkSide = s.ring.linkSide := rfl

/-- A request on a zone keeps the ring interface when its effect on every zone does. -/
theorem onZone_ring {r : Request} {s : State} {f : Fin 5 → Answer} (h : ∀ z, (f z).state.ring = s.ring) :
    (onZone r s f).state.ring = s.ring := by
  unfold onZone
  split
  · rfl
  · exact h _

@[simp] theorem foldl_clearProtection_ring (cs : List (Fin 28)) (s : State) :
    (cs.foldl (fun t c => clearProtection c t) s).ring = s.ring := by
  induction cs generalizing s with
  | nil => rfl
  | cons c cs ih => simp [ih]

@[simp] theorem releaseZone_ring (z : Fin 2) (s : State) : (releaseZone z s).state.ring = s.ring := by
  unfold releaseZone
  cases claimOf s.mix z with
  | none => simp
  | some c =>
    dsimp only
    (repeat' split) <;> simp

@[simp] theorem claimZone_ring (z : Fin 2) (x : Source) (s : State) : (claimZone z x s).state.ring = s.ring := by
  unfold claimZone
  (repeat' split) <;> simp

/-! ## TABLE WRITE moves the slot map alone (R38) -/

theorem writeChannel_ring {c : Fin 28} {w : Word} {s t : State} (h : writeChannel c w s = some t) :
    t.ring = s.ring := by
  obtain ⟨r, -, hr⟩ := Option.bind_eq_some_iff.mp h
  split at hr
  · cases hr; simp
  · cases hr

theorem writeRoute_ring {i : Fin 32} {w : Word} {s t : State} (h : writeRoute i w s = some t) : t.ring = s.ring := by
  obtain ⟨r, -, hr⟩ := Option.bind_eq_some_iff.mp h
  split at hr
  · cases hr; simp
  · cases hr

@[simp] theorem writeStage_ring (c : Fin 28) (i : Fin 8) (ws : List Word) (s : State) :
    (writeStage c i ws s).ring = s.ring := by simp [writeStage]

@[simp] theorem writeRadio_ring (ws : List Word) (s : State) : (writeRadio ws s).ring = s.ring := by
  unfold writeRadio
  dsimp only
  split <;> simp

/-- One entry written, of any table. -/
theorem writeEntry_linkSide {t : Table} {i : Nat} {ws : List Word} {s u : State} (h : writeEntry t i ws s = some u) :
    u.ring.linkSide = s.ring.linkSide := by
  cases t with
  | slotMap =>
    obtain ⟨r, -, rfl⟩ := Option.map_eq_some_iff.mp h
    rfl
  | channel => rw [writeChannel_ring h]
  | route => rw [writeRoute_ring h]
  | protect =>
    obtain ⟨k, -, rfl⟩ := Option.map_eq_some_iff.mp h
    simp
  | coef | radio | zone | curve | duck | placement | amp | beam | penalty | blend | echo | ramp =>
    cases h
    simp

/-- The entries of a TABLE WRITE, by induction on them. -/
theorem writeEntries_linkSide (c : Cursor) (es : List (List Word)) (done : Nat) (s : State) :
    (writeEntries c es done s).state.ring.linkSide = s.ring.linkSide := by
  induction es generalizing done s with
  | nil => rfl
  | cons e es ih =>
    unfold writeEntries
    split
    · rfl
    · split
      · rfl
      · next t h => rw [ih, writeEntry_linkSide h]

theorem writeTable_linkSide (c : Cursor) (payload : List Word) (s : State) :
    (writeTable c payload s).state.ring.linkSide = s.ring.linkSide := by
  unfold writeTable
  dsimp only
  (repeat' split) <;> simp [writeEntries_linkSide]

/-! ## Every request keeps the link side -/

/-- A request of any kind but PATTERN ENTER and TABLE WRITE leaves the whole ring interface alone (R18, R38). -/
theorem handlerOf_ring {k : RequestKind} (hp : k ≠ .patternEnter) (hw : k ≠ .tableWrite) (r : Request) (s : State) :
    (handlerOf k r s).state.ring = s.ring := by
  cases k with
  | patternEnter => exact absurd rfl hp
  | tableWrite => exact absurd rfl hw
  | zoneSet | zoneMute | zoneLock => exact onZone_ring fun _ => rfl
  | reset | patternExit => rfl
  | tableClose => exact (closeCursor_frame true s).1
  | stop => simp [handlerOf, handleStop]
  | state => simp only [handlerOf, handleState]; split <;> rfl
  | start => simp only [handlerOf, handleStart]; split <;> simp
  | tableRead => simp only [handlerOf, handleTableRead]; split <;> rfl
  | tableOpen | routeSet | zoneSource | bankActivate | protectClear | radioMode | radioTune =>
    simp only [handlerOf, handleTableOpen, handleRouteSet, handleZoneSource, handleBankActivate, handleProtectClear,
      handleRadioMode, handleRadioTune]
    (repeat' split) <;> simp
  | callAlert | callConnect | callHold | callResume | callMove | callEnd =>
    simp only [handlerOf, handleCallAlert, handleCallConnect, handleCallHold, handleCallResume, handleCallMove,
      handleCallEnd]
    split <;> simp

theorem handlePatternEnter_linkSide (r : Request) (s : State) :
    (handlePatternEnter r s).state.ring.linkSide = s.ring.linkSide := by
  unfold handlePatternEnter
  (repeat' split) <;> simp

theorem handleTableWrite_linkSide (r : Request) (s : State) :
    (handleTableWrite r s).state.ring.linkSide = s.ring.linkSide := by
  unfold handleTableWrite
  (repeat' split) <;> simp [writeTable_linkSide]

theorem handlerOf_linkSide (k : RequestKind) (r : Request) (s : State) :
    (handlerOf k r s).state.ring.linkSide = s.ring.linkSide := by
  cases k with
  | patternEnter => exact handlePatternEnter_linkSide r s
  | tableWrite => exact handleTableWrite_linkSide r s
  | _ => exact congrArg RingUnit.linkSide (handlerOf_ring (by decide) (by decide) r s)

theorem judge_linkSide (k : RequestKind) (r : Request) (s : State) :
    (judge k (handlerOf k) r s).state.ring.linkSide = s.ring.linkSide := by
  unfold judge
  split
  · rfl
  · exact handlerOf_linkSide k r s

/-- A request of any kind code, listed or not (R25). -/
theorem answerCode_linkSide (code : BitVec 6) (r : Request) (s : State) :
    (answerCode code r s).state.ring.linkSide = s.ring.linkSide := by
  unfold answerCode
  split
  · rfl
  · exact judge_linkSide _ r s

@[simp] theorem dropRequest_ring (s : State) : (dropRequest s).ring = s.ring := by simp [dropRequest]

theorem takeRequest_linkSide (code : BitVec 6) (r : Request) (s : State) :
    (takeRequest code (answerCode code) r s).ring.linkSide = s.ring.linkSide := by
  unfold takeRequest answerRequest
  (repeat' split) <;> simp [answerCode_linkSide]

/-! ## A processed frame -/

theorem takeCheck_linkSide (w : Word) (s : State) : (takeCheck w s).ring.linkSide = s.ring.linkSide := by
  unfold takeCheck
  cases s.msg.assembly with
  | empty => rfl
  | skipping g => simp
  | assembling h b o g =>
    dsimp only
    split <;> simp [takeRequest_linkSide]

/-- The command word of a frame, whatever its type (R21). -/
theorem takeCommand_linkSide (f : Frame) (s : State) : (takeCommand f s).ring.linkSide = s.ring.linkSide := by
  unfold takeCommand
  split
  · simp
  · simp
  · simp
  · exact takeCheck_linkSide f.cword s

@[simp] theorem unitsFrame_ring (f : Frame) (running : Bool) (s : State) : (unitsFrame f running s).ring = s.ring := by
  cases running <;> simp [unitsFrame]

/-- A reset of the part keeps the link side and drops the rest of the ring interface (R35). -/
theorem settleReset_linkSide (s : State) : (settleReset s).ring.linkSide = s.ring.linkSide := by
  unfold settleReset
  split <;> rfl

@[simp] theorem transmit_position (x : Transmitted) (s : State) :
    (transmit x s).ring.position = s.ring.position := rfl

@[simp] theorem transmit_transmitted (x : Transmitted) (s : State) : (transmit x s).ring.transmitted = x := rfl

@[simp] theorem sendWord_position (s : State) : (sendWord s).ring.position = s.ring.position := by
  unfold sendWord
  split <;> rfl

/-- After the frame has been forwarded and its reply field filled, nothing in it moves the link side again. -/
theorem processFrame_linkSide (f : Frame) (s : State) :
    (processFrame f s).ring.linkSide =
      (transmit (.good (frameForwarded s f)) (if f.reply.wtype = .idle then sendWord s else s)).ring.linkSide := by
  unfold processFrame
  dsimp only
  rw [(enterNotice_frame _ _).1, settleReset_linkSide]
  split <;> simp [takeCommand_linkSide]

/-- A processed frame keeps the position adopted before it. -/
theorem processFrame_position (f : Frame) (s : State) : (processFrame f s).ring.position = s.ring.position := by
  rw [RingUnit.position_eq_of_linkSide_eq (processFrame_linkSide f s), transmit_position]
  split
  · exact sendWord_position s
  · rfl

theorem processFrame_transmitted (f : Frame) (s : State) :
    (processFrame f s).ring.transmitted = .good (frameForwarded s f) :=
  RingUnit.transmitted_eq_of_linkSide_eq (processFrame_linkSide f s)

/-! ## Good and bad frames in each link state -/

/-- The hop counts 0 to 14 are those other than 15. -/
theorem hop_toNat_le_iff (h : BitVec 4) : h.toNat ≤ 14 ↔ h ≠ 15 := by
  bv_omega

theorem positionOf_eq (h : BitVec 4) : positionOf h = if h.toNat ≤ 14 then some (h + 1) else none := by
  simp [positionOf, hop_toNat_le_iff]

theorem nextHop_eq (h : BitVec 4) : nextHop h = if h.toNat ≤ 14 then h + 1 else 15 := by
  simp [nextHop, hop_toNat_le_iff]

@[simp] theorem takePosition_position (p : Option Node) (s : State) : (takePosition p s).ring.position = p := by
  unfold takePosition
  split
  · next h => exact h.symm
  · rfl

@[simp] theorem adoptPosition_position (p : Option Node) (s : State) : (adoptPosition p s).ring.position = p := by
  unfold adoptPosition
  split
  · next h => exact h.symm
  · simp

@[simp] theorem postDeferred_ring (s : State) : (postDeferred s).ring = s.ring := by simp [postDeferred]

/-- A good frame is processed: the part is linked, or this frame completes acquisition or relink (R5, R8). -/
def Processes (s : State) : Prop := s.ring.link = .linked ∨ 16 ≤ s.ring.goodRun + 1

/-- A frame that is processed meets a part that holds the position of its hop count (R3, R4, R5, R8). -/
theorem goodFrame_of_processes (f : Frame) {s : State} (h : Processes s) :
    ∃ u, goodFrame f s = processFrame f u ∧ u.ring.position = positionOf f.hop := by
  have hrun : (seeFrame s).ring.link = .linked ∨ 16 ≤ (seeFrame s).ring.goodRun + 1 := h
  unfold goodFrame
  dsimp only
  cases hl : (seeFrame s).ring.link with
  | linked => exact ⟨_, rfl, adoptPosition_position _ _⟩
  | acquiring =>
    rw [hl] at hrun
    have hdue := hrun.resolve_left (by decide)
    exact ⟨_, if_pos hdue, takePosition_position _ _⟩
  | lost =>
    rw [hl] at hrun
    have hdue := hrun.resolve_left (by decide)
    exact ⟨_, if_pos hdue, by simp⟩

/-- Any other good frame is passed on and counted (R5, R7). -/
theorem goodFrame_of_not_processes (f : Frame) {s : State} (h : ¬ Processes s) :
    goodFrame f s = passFrame f (seeFrame s) := by
  obtain ⟨hlink, hrun⟩ := not_or.mp h
  unfold goodFrame
  dsimp only
  cases hl : (seeFrame s).ring.link with
  | linked => exact absurd hl hlink
  | acquiring => exact if_neg hrun
  | lost => exact if_neg hrun

/-- The position after a good frame (R3). -/
theorem goodFrame_position (f : Frame) (s : State) :
    (Processes s → (goodFrame f s).ring.position = positionOf f.hop) ∧
    (¬ Processes s → (goodFrame f s).ring.position = s.ring.position) := by
  refine ⟨fun h => ?_, fun h => ?_⟩
  · obtain ⟨u, hu, hp⟩ := goodFrame_of_processes f h
    rw [hu, processFrame_position, hp]
  · rw [goodFrame_of_not_processes f h]
    rfl

/-- Processed or not, a good frame is forwarded with the next hop count (R2, R3). -/
theorem goodFrame_transmitted (f : Frame) (s : State) :
    ∃ g, (goodFrame f s).ring.transmitted = .good g ∧ g.hop = nextHop f.hop := by
  by_cases h : Processes s
  · obtain ⟨u, hu, -⟩ := goodFrame_of_processes f h
    exact ⟨frameForwarded u f, by rw [hu, processFrame_transmitted], rfl⟩
  · exact ⟨framePassed f, by rw [goodFrame_of_not_processes f h]; rfl, rfl⟩

/-- A bad run moves nothing of the transmit link (R5 to R8). -/
@[simp] theorem badTick_transmitted (s : State) : (badTick s).ring.transmitted = s.ring.transmitted := by
  unfold badTick
  split
  · rfl
  · rfl
  · split
    · rfl
    · simp

theorem badFrame_transmitted (raw : RawFrame) (s : State) : (badFrame raw s).ring.transmitted = .bad raw := by
  simp [badFrame]

/-- Settles O4: a good frame leaves with the next hop count whether or not it is processed, the position being adopted
before the frame is processed and kept by all that follows; a bad frame leaves as received. -/
theorem hopAndPosition : Obligations.HopAndPosition := by
  refine ⟨fun f s => ⟨goodFrame f s, rfl, ?_, ?_⟩, fun raw s => ⟨badFrame raw s, rfl, badFrame_transmitted raw s⟩⟩
  · rw [← nextHop_eq]
    exact goodFrame_transmitted f s
  · obtain ⟨hpos, hkeep⟩ := goodFrame_position f s
    rw [← positionOf_eq]
    split
    · next h => exact hpos h
    · next h => exact hkeep h

end Sys2Proof.Machine

/-! The linear gain of the step targets (spec 04, R70): a target written 16q + k is the mantissa of k shifted by q, and
the bounds on the gain follow from the mantissas filling one octave, 2^20 to 2^21. -/

namespace Sys2Proof.Machine

/-- Every mantissa lies in the octave above unity (R70). -/
theorem mantissa_bounds (k : Nat) : 2 ^ 20 ≤ mantissa k ∧ mantissa k < 2 ^ 21 := by
  unfold mantissa
  split <;> decide

/-! ## A target written 16q + k -/

theorem linearOf_of_nonneg {q : Int} (hq : 0 ≤ q) {k : Nat} (hk : k < 16) :
    linearOf (.steps (16 * q + k)) = mantissa k * 2 ^ q.toNat := by
  have hdiv : (16 * q + k) / 16 = q := by omega
  have hmod : ((16 * q + k) % 16).toNat = k := by omega
  simp only [linearOf, hdiv, hmod, if_pos hq]

theorem linearOf_of_neg {q : Int} (hq : q < 0) {k : Nat} (hk : k < 16) :
    linearOf (.steps (16 * q + k)) = (mantissa k + 2 ^ ((-q).toNat - 1)) / 2 ^ (-q).toNat := by
  have hdiv : (16 * q + k) / 16 = q := by omega
  have hmod : ((16 * q + k) % 16).toNat = k := by omega
  simp only [linearOf, hdiv, hmod, if_neg (not_le.mpr hq)]

/-- Every step value is 16q + k in this way. -/
theorem exists_octave (g : Int) : ∃ (q : Int) (k : Nat), k < 16 ∧ g = 16 * q + k :=
  ⟨g / 16, (g % 16).toNat, by omega, by omega⟩

/-! ## The least and the greatest gain -/

/-- From −320 up no step value is silent: a mantissa is shifted down by at most its own 20 places. -/
theorem linearOf_pos {g : Int} (hg : -320 ≤ g) : 1 ≤ linearOf (.steps g) := by
  obtain ⟨q, k, hk, rfl⟩ := exists_octave g
  have hm := (mantissa_bounds k).1
  rcases le_or_gt 0 q with hq | hq
  · rw [linearOf_of_nonneg hq hk]
    exact Nat.mul_pos (by omega) (by positivity)
  · rw [linearOf_of_neg hq hk, Nat.one_le_div_iff (by positivity)]
    calc 2 ^ (-q).toNat ≤ 2 ^ 20 := Nat.pow_le_pow_right (by decide) (by omega)
      _ ≤ mantissa k := hm
      _ ≤ _ := Nat.le_add_right _ _

/-- Up to +32 no step value exceeds the largest gain: two octaves above unity only k = 0 is left, and a shift down never
leaves more than the mantissa. -/
theorem linearOf_le_maxGain {g : Int} (hg : g ≤ 32) : linearOf (.steps g) ≤ maxGain := by
  obtain ⟨q, k, hk, rfl⟩ := exists_octave g
  have hm := (mantissa_bounds k).2
  rcases le_or_gt 0 q with hq | hq
  · rw [linearOf_of_nonneg hq hk]
    obtain rfl | hq1 : q = 2 ∨ q.toNat ≤ 1 := by omega
    · obtain rfl : k = 0 := by omega
      decide
    · calc mantissa k * 2 ^ q.toNat ≤ 2 ^ 21 * 2 ^ 1 :=
            Nat.mul_le_mul hm.le (Nat.pow_le_pow_right (by decide) hq1)
        _ = maxGain := rfl
  · rw [linearOf_of_neg hq hk]
    have hhalf : 2 ^ ((-q).toNat - 1) ≤ 2 ^ (-q).toNat := Nat.pow_le_pow_right (by decide) (by omega)
    have hone : 1 ≤ 2 ^ (-q).toNat := Nat.one_le_two_pow
    refine Nat.div_le_of_le_mul ?_
    unfold maxGain
    omega

/-- Settles O48: the equations of a target written 16q + k with the table's mantissas, the three end values, and the
bounds between them. -/
theorem linearGain : Obligations.LinearGain := by
  unfold Obligations.LinearGain
  intro M
  have table : ∀ k < 16, M.getD k 0 = mantissa k := by decide
  refine ⟨rfl, fun q k hk _ _ => ⟨fun hq => ?_, fun hq s hs => ?_⟩, by decide, by decide, by decide,
    fun g hlow hhigh => ⟨linearOf_pos hlow, linearOf_le_maxGain hhigh⟩⟩
  · rw [table k hk, linearOf_of_nonneg hq hk]
  · obtain rfl : s = (-q).toNat := by omega
    rw [table k hk, linearOf_of_neg hq hk]

end Sys2Proof.Machine

/-! A biquad stage, the bank of eight and the channel they filter (spec 05, R90 to R93): the fold of `bankStep` is an
induction over the stages, each fed with the output of the one before. -/

namespace Sys2Proof.Machine

/-! ## One stage (R91) -/

/-- A value in the sample range is its own saturation. -/
theorem saturate_of_mem {v : Int} (hlow : -8388608 ≤ v) (hhigh : v ≤ 8388607) : saturate v = v := by
  unfold saturate clampInt
  omega

/-- The stage's equations: its output, and the histories that move on with it. -/
theorem stageStep_eq (c : Stage) (h : StageHistory) (x : Int) :
    stageStep c h x =
      let y := saturate ((c.b0 * x + c.b1 * h.x1 + c.b2 * h.x2 - c.a1 * h.y1 - c.a2 * h.y2 + 2 ^ 21) / 2 ^ 22)
      (⟨x, h.x1, y, h.y1⟩, y) := rfl

/-- With the pass-through coefficients acc is 2^22 · x, and the 2^21 added to it is lost in the division. -/
theorem stageStep_passThrough (h : StageHistory) {x : Int} (hlow : -8388608 ≤ x) (hhigh : x ≤ 8388607) :
    (stageStep ⟨2 ^ 22, 0, 0, 0, 0⟩ h x).2 = x := by
  have hquot : (2 ^ 22 * x + 0 * h.x1 + 0 * h.x2 - 0 * h.y1 - 0 * h.y2 + 2 ^ 21) / 2 ^ 22 = x := by omega
  rw [stageStep_eq]
  dsimp only
  rw [hquot, saturate_of_mem hlow hhigh]

/-! ## The eight stages (R91) -/

/-- The samples along a bank: its input before stage 0, and after each stage that stage's output. -/
def bankSample (b : Bank) (x : Int) (n : Fin 9) : Int :=
  Fin.induction (motive := fun _ => Int) x (fun i y => (stageStep b.stages[i] b.history[i] y).2) n

@[simp] theorem bankSample_zero (b : Bank) (x : Int) : bankSample b x 0 = x := rfl

theorem bankSample_succ (b : Bank) (x : Int) (i : Fin 8) :
    bankSample b x i.succ = (stageStep b.stages[i] b.history[i] (bankSample b x i.castSucc)).2 := rfl

/-- The history a stage is left with by a sample at the bank's input. -/
def stageLeft (b : Bank) (x : Int) (i : Fin 8) : StageHistory :=
  (stageStep b.stages[i] b.history[i] (bankSample b x i.castSucc)).1

/-- A stage answers its new history and the sample for the next one. -/
theorem stageStep_bankSample (b : Bank) (x : Int) (i : Fin 8) :
    stageStep b.stages[i] b.history[i] (bankSample b x i.castSucc) = (stageLeft b x i, bankSample b x i.succ) := rfl

/-- One round of `bankStep`'s fold. -/
def runStage (b : Bank) (a : Vector StageHistory 8 × Int) (i : Fin 8) : Vector StageHistory 8 × Int :=
  let y := stageStep b.stages[i] a.1[i] a.2
  (a.1.set i y.1, y.2)

theorem bankStep_eq_foldl (b : Bank) (x : Int) :
    bankStep b x =
      ({ b with history := ((List.finRange 8).foldl (runStage b) (b.history, x)).1 },
        ((List.finRange 8).foldl (runStage b) (b.history, x)).2) := rfl

/-- The histories once the stages below n have run. -/
def historyAfter (b : Bank) (x : Int) (n : Fin 9) : Vector StageHistory 8 :=
  Vector.ofFn fun i => if i.val < n.val then stageLeft b x i else b.history[i]

/-- A stage's own round meets its history untouched and replaces it alone. -/
theorem runStage_historyAfter (b : Bank) (x : Int) (i : Fin 8) :
    runStage b (historyAfter b x i.castSucc, bankSample b x i.castSucc) i =
      (historyAfter b x i.succ, bankSample b x i.succ) := by
  have hold : (historyAfter b x i.castSucc)[i] = b.history[i] := by simp [historyAfter]
  have hset : (historyAfter b x i.castSucc).set i (stageLeft b x i) = historyAfter b x i.succ := by
    refine Vector.ext fun j hj => ?_
    by_cases hij : i.val = j
    · subst hij
      simp [historyAfter]
    · have hne : (⟨j, hj⟩ : Fin 8) ≠ i := Fin.ne_of_val_ne (Ne.symm hij)
      simp [historyAfter, hij, hne.le_iff_lt]
  unfold runStage
  simp only [hold, stageStep_bankSample, hset]

/-- The first n rounds of the fold, by induction on n. -/
theorem foldl_runStage_take (b : Bank) (x : Int) (n : Fin 9) :
    ((List.finRange 8).take n).foldl (runStage b) (b.history, x) = (historyAfter b x n, bankSample b x n) := by
  induction n using Fin.induction with
  | zero => simp [historyAfter]
  | succ i ih =>
    have htake : (List.finRange 8).take i.succ = (List.finRange 8).take i.castSucc ++ [i] := by
      simp [List.take_add_one]
    rw [htake, List.foldl_append, ih]
    exact runStage_historyAfter b x i

/-- A bank's sample leaves every stage its new history, and its output is that of the last stage. -/
theorem bankStep_eq (b : Bank) (x : Int) :
    bankStep b x = ({ b with history := Vector.ofFn (stageLeft b x) }, bankSample b x (Fin.last 8)) := by
  have hfold := foldl_runStage_take b x (Fin.last 8)
  have hall : historyAfter b x (Fin.last 8) = Vector.ofFn (stageLeft b x) :=
    congrArg Vector.ofFn (funext fun i => if_pos i.isLt)
  rw [List.take_of_length_le (by simp), hall] at hfold
  rw [bankStep_eq_foldl, hfold]

/-! ## The channel (R90, R93, R95) -/

@[simp] theorem Channel.setLive_live (c : Channel) (b : Bank) : (c.setLive b).live = b := by
  cases h : c.liveB <;> simp [Channel.setLive, Channel.live, h]

@[simp] theorem Channel.setLive_spareBank (c : Channel) (b : Bank) : (c.setLive b).spareBank = c.spareBank := by
  cases h : c.liveB <;> simp [Channel.setLive, Channel.spareBank, h]

/-- The sample a channel takes from the buses: its side of its zone's bus, and zero when it is disabled (R90). -/
def channelInput (r : ChannelRecord) (buses : Vector (Int × Int) 5) : Int :=
  match r.zone with
  | none => 0
  | some z => sideOfBus r.side buses[z]

/-- A channel with no fade takes its live bank's new histories and sends the bank's output through its output point. -/
theorem channelStep_unfaded (c : Channel) (gain : Nat) (buses : Vector (Int × Int) 5) :
    let r := bankStep c.live (channelInput c.record buses)
    (channelStep c none gain buses).live = r.1 ∧ (channelStep c none gain buses).spareBank = c.spareBank ∧
      (channelStep c none gain buses).out = saturate (applyGain r.2 gain) :=
  ⟨Channel.setLive_live c _, Channel.setLive_spareBank c _, rfl⟩

/-- Settles O50: the stage's equations, and for the channel the samples along its live bank. -/
theorem stageArithmetic : Obligations.StageArithmetic := by
  refine ⟨fun c h x => ⟨rfl, rfl⟩, fun h x hlow hhigh => stageStep_passThrough h hlow hhigh, fun c gain buses => ?_⟩
  obtain ⟨hlive, hspare, hout⟩ := channelStep_unfaded c gain buses
  rw [bankStep_eq] at hlive hout
  refine ⟨bankSample c.live (channelInput c.record buses), ?_, fun i => ?_, hout, by rw [hlive], hspare⟩
  · rw [bankSample_zero]
    unfold channelInput
    cases c.record.zone with
    | none => rfl
    | some z => cases c.record.side <;> rfl
  · rw [stageStep_bankSample, hlive]
    simp

end Sys2Proof.Machine

/-! The stability test (spec 05, R99) and BANK ACTIVATE on a bank that fails it. -/

namespace Sys2Proof.Machine

/-! ## The test of a stage and of a bank -/

/-- The two absolute values of R99 as four bounds. -/
theorem stageStable_iff (x : Stage) :
    stageStable x = true ↔
      -4194304 < x.a2 ∧ x.a2 < 4194304 ∧ x.a1 < 4194304 + x.a2 ∧ -x.a1 < 4194304 + x.a2 := by
  simp only [stageStable, Bool.and_eq_true, decide_eq_true_eq]
  omega

/-- The failing stage is what a search of the stages in order finds. -/
theorem failingStage_eq_find? (b : Bank) : failingStage b = Fin.find? fun i => !stageStable b.stages[i] :=
  Fin.find?_eq_find?_finRange.symm

theorem failingStage_eq_none_iff (b : Bank) :
    failingStage b = none ↔ ∀ i : Fin 8, stageStable b.stages[i] = true := by
  simp only [failingStage_eq_find?, Fin.find?_eq_none_iff, Bool.not_eq_false']

theorem failingStage_eq_some_iff (b : Bank) (i : Fin 8) :
    failingStage b = some i ↔
      ¬ stageStable b.stages[i] = true ∧ ∀ j : Fin 8, j.val < i.val → stageStable b.stages[j] = true := by
  simp only [failingStage_eq_find?, Fin.find?_eq_some_iff, Bool.not_eq_true', Bool.not_eq_false', Bool.not_eq_true,
    Fin.lt_def]

/-! ## BANK ACTIVATE -/

theorem finOf_val {n : Nat} (i : Fin n) : finOf n i.val = some i := by simp [finOf]

/-- A LOADED spare that fails the test is refused with its failing stage, and nothing changes (R99, R100). -/
theorem handleBankActivate_unstable {r : Request} {s : State} {c : Fin 28} {i : Fin 8}
    (hc : field (argument r 0) 7 0 = c.val) (hloaded : s.chan.channels[c].spare = .loaded)
    (hfail : failingStage s.chan.channels[c].spareBank = some i) :
    handleBankActivate r s = refuse .unstable i.val s := by
  unfold handleBankActivate
  rw [hc, finOf_val]
  simp only [hloaded, hfail, ne_eq, not_true_eq_false, if_false]

/-- Settles O51: the four bounds of a stage, the search for the first stage that breaks one, and the refusal it
leads to. -/
theorem stabilityTest : Obligations.StabilityTest := by
  unfold Obligations.StabilityTest
  simp only [← stageStable_iff]
  refine ⟨fun b => ⟨failingStage_eq_none_iff b, failingStage_eq_some_iff b⟩,
    fun r s c i hready hpass hc hloaded hfail hbelow => ?_, fun b0 b1 b2 => by decide⟩
  have hfirst := (failingStage_eq_some_iff _ i).mpr ⟨hfail, hbelow⟩
  have ⟨_, _, hphase, _, hpath⟩ := hready
  exact congrArg Host.Outcome.next
    (requestStep_passes hready hpass (handleBankActivate_unstable hc hloaded hfirst) hpath hphase)

end Sys2Proof.Machine

/-! What a command can do to the state, said once: every command is a run of moves of single units, each with the facts
that hold where it is made. An invariant that every move keeps is kept by every step. -/

namespace Sys2Proof.Machine

/-! ## The banks of a channel (R92, R95) -/

@[simp] theorem Channel.setSpare_live (c : Channel) (b : Bank) : (c.setSpare b).live = c.live := by
  cases h : c.liveB <;> simp [Channel.setSpare, Channel.live, h]

@[simp] theorem Channel.setSpare_spareBank (c : Channel) (b : Bank) : (c.setSpare b).spareBank = b := by
  cases h : c.liveB <;> simp [Channel.setSpare, Channel.spareBank, h]

@[simp] theorem Channel.setSpare_spare (c : Channel) (b : Bank) : (c.setSpare b).spare = c.spare := by
  cases h : c.liveB <;> simp [Channel.setSpare, h]

@[simp] theorem Channel.setLive_spare (c : Channel) (b : Bank) : (c.setLive b).spare = c.spare := by
  cases h : c.liveB <;> simp [Channel.setLive, h]

@[simp] theorem Channel.setSpare_record (c : Channel) (b : Bank) : (c.setSpare b).record = c.record := by
  cases h : c.liveB <;> simp [Channel.setSpare, h]

@[simp] theorem Channel.setLive_record (c : Channel) (b : Bank) : (c.setLive b).record = c.record := by
  cases h : c.liveB <;> simp [Channel.setLive, h]

@[simp] theorem Channel.exchange_live (c : Channel) : c.exchange.live = c.spareBank := by
  cases h : c.liveB <;> simp [Channel.exchange, Channel.setLive, Channel.live, Channel.spareBank, h]

@[simp] theorem Channel.exchange_spareBank (c : Channel) : c.exchange.spareBank = c.live.rested := by
  cases h : c.liveB <;> simp [Channel.exchange, Channel.setLive, Channel.live, Channel.spareBank, h]

@[simp] theorem Channel.exchange_spare (c : Channel) : c.exchange.spare = .loaded := rfl

@[simp] theorem Channel.exchange_record (c : Channel) : c.exchange.record = c.record :=
  Channel.setLive_record c _

@[simp] theorem Channel.swapNow_live (c : Channel) : c.swapNow.live = c.spareBank.rested := by
  simp [Channel.swapNow]

@[simp] theorem Channel.swapNow_spareBank (c : Channel) : c.swapNow.spareBank = c.live.rested := by
  simp [Channel.swapNow]

@[simp] theorem Channel.swapNow_spare (c : Channel) : c.swapNow.spare = .loaded := rfl

@[simp] theorem Channel.swapNow_record (c : Channel) : c.swapNow.record = c.record := by
  simp [Channel.swapNow]

@[simp] theorem Bank.rested_stages (b : Bank) : b.rested.stages = b.stages := rfl

/-! A channel whose fields beside the banks change keeps its banks. -/

@[simp] theorem Channel.live_withSpare (c : Channel) (x : SpareState) : ({ c with spare := x } : Channel).live = c.live :=
  rfl

@[simp] theorem Channel.spareBank_withSpare (c : Channel) (x : SpareState) :
    ({ c with spare := x } : Channel).spareBank = c.spareBank := rfl

@[simp] theorem Channel.live_withRecord (c : Channel) (r : ChannelRecord) :
    ({ c with record := r } : Channel).live = c.live := rfl

@[simp] theorem Channel.spareBank_withRecord (c : Channel) (r : ChannelRecord) :
    ({ c with record := r } : Channel).spareBank = c.spareBank := rfl

/-! ## One channel of the unit replaced -/

/-- The channel unit with one channel replaced. -/
def ChannelUnit.put (u : ChannelUnit) (c : Fin 28) (x : Channel) : ChannelUnit :=
  { u with channels := u.channels.set c x }

theorem ChannelUnit.put_channels (u : ChannelUnit) (c d : Fin 28) (x : Channel) :
    (u.put c x).channels[d] = if d = c then x else u.channels[d] := by
  by_cases h : d = c
  · subst h; simp [ChannelUnit.put]
  · have hne : c.val ≠ d.val := fun e => h (Fin.ext e.symm)
    simp [ChannelUnit.put, h, hne]

theorem setChannel_eq (c : Fin 28) (x : Channel) (s : State) : setChannel c x s = s.setChan (s.chan.put c x) := rfl

/-! ## Activations completed at once (R106, R107) -/

/-- The channels of a list swapped at once, one after another. -/
def swapAll (cs : List (Fin 28)) (u : ChannelUnit) : ChannelUnit :=
  cs.foldl (fun v c => v.put c v.channels[c].swapNow) u

/-- The channel unit once every activation under way is completed. -/
def completed (u : ChannelUnit) : ChannelUnit :=
  { swapAll (underWay u) u with queue := [], fades := Vector.replicate 4 none }

/-- A post that moves the message unit alone, by what stands there. -/
def MovesMsg (post : NoticeDetail → State → State) : Prop :=
  ∀ d s x, post d (s.setChan x) = (post d s).setChan x

theorem postNotice_movesMsg : MovesMsg postNotice := fun _ _ _ => rfl

theorem deferNotice_movesMsg : MovesMsg deferNotice := fun _ _ _ => rfl

theorem foldl_post_setChan {post : NoticeDetail → State → State} (hp : MovesMsg post) (ds : List NoticeDetail)
    (s : State) (x : ChannelUnit) :
    ds.foldl (fun t d => post d t) (s.setChan x) = (ds.foldl (fun t d => post d t) s).setChan x := by
  induction ds generalizing s with
  | nil => rfl
  | cons d ds ih => rw [List.foldl_cons, hp, ih, List.foldl_cons]

/-- Posting and swapping channel by channel is posting all and swapping all. -/
theorem foldl_post_swap {post : NoticeDetail → State → State} (hp : MovesMsg post)
    (hc : ∀ d s, (post d s).chan = s.chan) (cs : List (Fin 28)) (s : State) :
    cs.foldl (fun t c => post (.bank c .immediate 0) (swapChannel c t)) s =
      ((cs.map fun c => NoticeDetail.bank c .immediate 0).foldl (fun t d => post d t) s).setChan
        (swapAll cs s.chan) := by
  induction cs generalizing s with
  | nil => rfl
  | cons c cs ih =>
    rw [List.foldl_cons, ih, hc, List.map_cons, List.foldl_cons]
    unfold swapChannel
    rw [setChannel_eq, hp, foldl_post_setChan hp]
    rfl

/-- Every activation under way completed: the notices posted in order, the channel unit completed. -/
theorem completeActivations_eq {post : NoticeDetail → State → State} (hp : MovesMsg post)
    (hc : ∀ d s, (post d s).chan = s.chan) (s : State) :
    completeActivations post s =
      (((underWay s.chan).map fun c => NoticeDetail.bank c .immediate 0).foldl (fun t d => post d t) s).setChan
        (completed s.chan) := by
  unfold completeActivations
  rw [foldl_post_swap hp hc]
  rfl

/-- A channel after the swaps of a list that names each channel at most once. -/
theorem swapAll_channels {cs : List (Fin 28)} (hn : cs.Nodup) (u : ChannelUnit) (c : Fin 28) :
    (swapAll cs u).channels[c] = if c ∈ cs then u.channels[c].swapNow else u.channels[c] := by
  induction cs generalizing u with
  | nil => rfl
  | cons d cs ih =>
    obtain ⟨hd, hcs⟩ := List.nodup_cons.mp hn
    have hstep : swapAll (d :: cs) u = swapAll cs (u.put d u.channels[d].swapNow) := rfl
    rw [hstep, ih hcs, ChannelUnit.put_channels]
    by_cases h : c = d
    · subst h
      simp [hd]
    · simp [h]

theorem insertFade_perm (f : BankFade) (l : List BankFade) : (insertFade f l).Perm (f :: l) := by
  induction l with
  | nil => exact .refl _
  | cons g gs ih =>
    unfold insertFade
    split
    · exact .refl _
    · exact (ih.cons g).trans (.swap f g gs)

theorem foldl_insertFade_perm (l a : List BankFade) :
    (l.foldl (fun a f => insertFade f a) a).Perm (l ++ a) := by
  induction l generalizing a with
  | nil => exact .refl _
  | cons f l ih =>
    refine (ih (insertFade f a)).trans ?_
    exact ((insertFade_perm f a).append_left l).trans List.perm_middle

/-- The channels under way are those of the busy units and those of the queue (R106). -/
theorem underWay_perm (u : ChannelUnit) :
    (underWay u).Perm ((u.fades.toList.filterMap id).map (fun f => f.channel) ++ u.queue) := by
  unfold underWay
  refine List.Perm.append_right _ (List.Perm.map _ ?_)
  simpa using foldl_insertFade_perm (u.fades.toList.filterMap id) []

/-- A channel stands among the busy units' when some unit fades it. -/
theorem mem_fading_iff (u : ChannelUnit) (c : Fin 28) :
    c ∈ (u.fades.toList.filterMap id).map (fun f => f.channel) ↔
      ∃ (n : Fin 4) (f : BankFade), u.fades[n] = some f ∧ f.channel = c := by
  simp only [List.mem_map, List.mem_filterMap, id_eq, Vector.mem_toList_iff]
  constructor
  · rintro ⟨f, ⟨x, hx, rfl⟩, rfl⟩
    obtain ⟨i, hi, he⟩ := Vector.mem_iff_getElem.mp hx
    exact ⟨⟨i, hi⟩, f, he, rfl⟩
  · rintro ⟨n, f, hf, rfl⟩
    exact ⟨f, ⟨some f, Vector.mem_iff_getElem.mpr ⟨n.val, n.isLt, hf⟩, rfl⟩, rfl⟩

theorem mem_underWay_iff (u : ChannelUnit) (c : Fin 28) :
    c ∈ underWay u ↔ (∃ (n : Fin 4) (f : BankFade), u.fades[n] = some f ∧ f.channel = c) ∨ c ∈ u.queue := by
  rw [(underWay_perm u).mem_iff, List.mem_append, mem_fading_iff]

/-! ## Moves of single units -/

/-- What the gain unit can become. -/
inductive GainMove (s : State) : GainUnit → Prop
  | step : s.running = true → GainMove s (gainStep s)
  | record : s.running = false → GainMove s (gainRecord s).gain
  | silence {x : GainUnit} : (∀ i, x.point i = s.point i ∨ x.point i = (s.point i).silenced) → GainMove s x
  | advance (p : GainId) : s.running = true → GainMove s (s.gain.setPoint (s.point p).advance p)

/-- The claims of a seat's own that give way to a new one (R60). -/
def clearedClaims (m : MixUnit) (z : Fin 2) : List Claim :=
  match claimOf m z with
  | none => m.claims
  | some c =>
    if c.state = ClaimState.pending then m.claims.filter fun x => !(x.zone == z && x.state == .pending)
    else m.claims.map fun x => if x.zone = z ∧ x.state = .held then { x with state := .releasing } else x

/-- What the mix unit can become. -/
inductive MixMove (s : State) : MixUnit → Prop
  | records {x : MixUnit} : x.claims = s.mix.claims → MixMove s x
  | drop {x : MixUnit} (p : Claim → Bool) : x.claims = s.mix.claims.filter p → MixMove s x
  | release {x : MixUnit} (z : Fin 2) :
      x.claims = (s.mix.claims.map fun y =>
        if y.zone = z ∧ y.state = .held then { y with state := .releasing } else y) → MixMove s x
  | hold {x : MixUnit} (z : Fin 2) : releasingOf s.mix z = none →
      x.claims = (s.mix.claims.map fun y =>
        if y.zone = z ∧ y.state = .pending then { y with state := .held } else y) → MixMove s x
  | claim {x : MixUnit} (z : Fin 2) (y : Source) : claims s.mix (otherSeat z) y = false → y.claimable = true →
      x.claims = clearedClaims s.mix z ++ [⟨z, y, .pending⟩] → MixMove s x

/-- Two channel units with the same coefficients, spare states, queue and channels in the crossfade units. -/
def SameBanks (u v : ChannelUnit) : Prop :=
  v.queue = u.queue ∧ (∀ n : Fin 4, v.fades[n].map (·.channel) = u.fades[n].map (·.channel)) ∧
  ∀ c : Fin 28, v.channels[c].live.stages = u.channels[c].live.stages ∧
    v.channels[c].spareBank.stages = u.channels[c].spareBank.stages ∧ v.channels[c].spare = u.channels[c].spare

/-- What the channel unit can become while the cursor stays. -/
inductive ChanMove (s : State) : ChannelUnit → Prop
  | same {x : ChannelUnit} : SameBanks s.chan x → ChanMove s x
  | stage (k : Cursor) (i : Nat) (ws : List Word) : s.msg.cursor = some k → k.table = .coef → k.index ≤ i →
      i < k.chan.val * 8 + 8 → ChanMove s (writeStage (finWrap 27 (i / 8)) (finWrap 7 i) ws s).chan
  | swap (c : Fin 28) : s.chan.channels[c].spare = .loaded → failingStage s.chan.channels[c].spareBank = none →
      ChanMove s (s.chan.put c s.chan.channels[c].swapNow)
  | queue (c : Fin 28) : s.chan.channels[c].spare = .loaded → failingStage s.chan.channels[c].spareBank = none →
      ChanMove s { s.chan.put c { s.chan.channels[c] with spare := .queued } with queue := s.chan.queue ++ [c] }
  | serve (u : Fin 4) (c : Fin 28) (rest : List (Fin 28)) : s.chan.fades[u] = none → s.chan.queue = c :: rest →
      ChanMove s { s.chan.put c { s.chan.channels[c].setSpare s.chan.channels[c].spareBank.rested with spare := .fading }
        with queue := rest, fades := s.chan.fades.set u (some ⟨c, 0⟩) }
  | fadeEnd (u : Fin 4) (f : BankFade) : s.chan.fades[u] = some f →
      ChanMove s { s.chan.put f.channel s.chan.channels[f.channel].exchange with fades := s.chan.fades.set u none }
  | complete : ChanMove s (completed s.chan)

/-- What the message unit can become beside its queue, its sending and its cursor. An operating state that ends the
units' running is taken where every point is silent. -/
inductive MsgMove (s : State) : MessageUnit → Prop
  | post (d : NoticeDetail) : MsgMove s { s.msg with notices := postTo s.msg.notices d }
  | defer (ds : List NoticeDetail) : MsgMove s { s.msg with deferred := ds }
  | op (o p : OpState) :
      ((∀ i, (s.point i).Silent) ∨ s.running = false ∨ (s.setMsg { s.msg with op := o, patternFrom := p }).running = true) →
      MsgMove s { s.msg with op := o, patternFrom := p }
  | phase (x : ResetPhase) : MsgMove s { s.msg with resetPhase := x }
  | assembly (a : Assembly) : (s.msg.assembly.Fits → a.Fits) → MsgMove s { s.msg with assembly := a }
  | broken : MsgMove s { s.msg with broken := incSat s.msg.broken }
  | checkFailed : MsgMove s { s.msg with checkFailed := incSat s.msg.checkFailed }
  | dropped : MsgMove s { s.msg with dropped := incSat s.msg.dropped }

/-- A cursor that is none or on a table other than COEF. -/
def offCoef (k : Option Cursor) : Prop := ∀ c, k = some c → c.table ≠ .coef

/-- One move of the state: one unit's, or the cursor's with the spare bank it holds. -/
inductive Quiet : State → State → Prop
  | ring (s : State) (x : RingUnit) : Quiet s (s.setRing x)
  | prot (s : State) (x : ProtectUnit) : Quiet s (s.setProt x)
  | ant (s : State) (x : AntennaUnit) : Quiet s (s.setAnt x)
  | radio (s : State) (x : RadioUnit) : Quiet s (s.setRadio x)
  | call (s : State) (x : CallUnit) : Quiet s (s.setCall x)
  | uplink (s : State) (x : UplinkUnit) : Quiet s (s.setUplink x)
  | drawn (s : State) : Quiet s s.drawn
  | gain {s : State} {x : GainUnit} : GainMove s x → Quiet s (s.setGain x)
  | mix {s : State} {x : MixUnit} : MixMove s x → Quiet s (s.setMix x)
  | chan {s : State} {x : ChannelUnit} : ChanMove s x → Quiet s (s.setChan x)
  | msg {s : State} {x : MessageUnit} : MsgMove s x → Quiet s (s.setMsg x)
  | cursor (s : State) (k : Option Cursor) : offCoef s.msg.cursor → offCoef k →
      Quiet s (s.setMsg { s.msg with cursor := k })
  | closeCoef {s : State} (k : Cursor) : s.msg.cursor = some k → k.table = .coef →
      Quiet s (setSpareState k.chan .loaded (s.setMsg { s.msg with cursor := none }))
  | openCoef {s : State} (k : Cursor) : s.msg.cursor = none → k.table = .coef →
      s.chan.channels[k.chan].spare ≠ .queued → s.chan.channels[k.chan].spare ≠ .fading →
      k.chan.val * 8 ≤ k.index → k.index ≤ k.chan.val * 8 + 8 →
      Quiet s (setSpareState k.chan .open_ (s.setMsg { s.msg with cursor := some k }))
  | moveCoef {s : State} (k : Cursor) (n : Nat) : s.msg.cursor = some k → k.table = .coef →
      n = 0 ∨ k.index + n ≤ k.chan.val * 8 + 8 →
      Quiet s (s.setMsg { s.msg with cursor := some { k with index := k.index + n } })

/-- A run of such moves. -/
abbrev QuietRun : State → State → Prop := Relation.ReflTransGen Quiet

end Sys2Proof.Machine

namespace Sys2Proof.Machine

/-! ## Runs of moves: the shared operations -/

theorem QuietRun.ite {s a b : State} {p : Prop} [Decidable p] (ha : p → QuietRun s a) (hb : ¬ p → QuietRun s b) :
    QuietRun s (if p then a else b) := by
  split
  · next h => exact ha h
  · next h => exact hb h

theorem run_ring (s : State) (x : RingUnit) : QuietRun s (s.setRing x) := .single (.ring s x)
theorem run_prot (s : State) (x : ProtectUnit) : QuietRun s (s.setProt x) := .single (.prot s x)
theorem run_ant (s : State) (x : AntennaUnit) : QuietRun s (s.setAnt x) := .single (.ant s x)
theorem run_radio (s : State) (x : RadioUnit) : QuietRun s (s.setRadio x) := .single (.radio s x)
theorem run_call (s : State) (x : CallUnit) : QuietRun s (s.setCall x) := .single (.call s x)
theorem run_uplink (s : State) (x : UplinkUnit) : QuietRun s (s.setUplink x) := .single (.uplink s x)
theorem run_gain {s : State} {x : GainUnit} (h : GainMove s x) : QuietRun s (s.setGain x) := .single (.gain h)
theorem run_mix {s : State} {x : MixUnit} (h : MixMove s x) : QuietRun s (s.setMix x) := .single (.mix h)
theorem run_chan {s : State} {x : ChannelUnit} (h : ChanMove s x) : QuietRun s (s.setChan x) := .single (.chan h)
theorem run_msg {s : State} {x : MessageUnit} (h : MsgMove s x) : QuietRun s (s.setMsg x) := .single (.msg h)

/-- A way of posting that is a run of moves. -/
def PostRun (post : NoticeDetail → State → State) : Prop := ∀ d s, QuietRun s (post d s)

theorem postNotice_run : PostRun postNotice := fun d _ => run_msg (.post d)

theorem deferNotice_run : PostRun deferNotice := fun d s => run_msg (.defer (s.msg.deferred ++ [d]))

theorem foldl_run {α : Type} {f : State → α → State} (h : ∀ s a, QuietRun s (f s a)) (l : List α) (s : State) :
    QuietRun s (l.foldl f s) := by
  induction l generalizing s with
  | nil => exact .refl
  | cons a l ih => exact (h s a).trans (ih (f s a))

theorem postNotices_run (ds : List NoticeDetail) (s : State) : QuietRun s (postNotices ds s) :=
  foldl_run (fun t d => postNotice_run d t) ds s

theorem setEcho_run (e : EchoState) (s : State) : QuietRun s (setEcho e s) := by
  unfold setEcho
  exact .ite (fun _ => run_uplink _ _) fun _ => (run_uplink _ _).trans (postNotice_run _ _)

theorem callEcho_run (e : EchoState) (s : State) : QuietRun s (callEcho e s) :=
  (setEcho_run e s).trans (run_uplink _ _)

theorem raisePath_run (s : State) : QuietRun s (raisePath s) := run_uplink _ _

theorem clearPath_run (s : State) : QuietRun s (clearPath s) := run_uplink _ _

theorem takePath_run (s : State) : QuietRun s (takePath s) := by
  unfold takePath
  refine .ite (fun _ => ?_) fun _ => .refl
  dsimp only
  split
  · exact run_uplink _ _
  · exact (run_uplink _ _).trans (run_uplink _ _)
  · exact ((run_uplink _ _).trans (run_uplink _ _)).trans (setEcho_run _ _)

/-! ## The gain unit -/

/-- The gain unit with fields beside its points changed. -/
theorem run_gain_points {s : State} {x : GainUnit} (h : ∀ i, x.point i = s.point i) : QuietRun s (s.setGain x) :=
  run_gain (.silence fun i => .inl (h i))

theorem GainUnit.point_mapPoints (g : GainUnit) (f : GainPoint → GainPoint) (i : GainId) :
    (g.mapPoints f).point i = f (g.point i) := by
  cases i <;> simp [GainUnit.point, GainUnit.mapPoints]

theorem GainUnit.point_setPoint (g : GainUnit) (p : GainPoint) (i j : GainId) :
    (g.setPoint p i).point j = if j = i then p else g.point j := by
  cases i <;> cases j <;>
    simp [GainUnit.point, GainUnit.setPoint, Vector.getElem_set, Fin.ext_iff, eq_comm]

theorem silenceAll_run (s : State) : QuietRun s (silenceAll s) :=
  run_gain (.silence fun i => .inr (GainUnit.point_mapPoints s.gain _ i))

theorem silencePoint_run (i : GainId) (s : State) : QuietRun s (silencePoint i s) := by
  refine run_gain (.silence fun j => ?_)
  rw [GainUnit.point_setPoint]
  split
  · next h => subst h; exact .inr rfl
  · exact .inl rfl

theorem silenceCall_run (s : State) : QuietRun s (silenceCall s) := by
  refine run_gain (.silence fun i => ?_)
  cases i with
  | feed z => exact .inr (by simp [GainUnit.point, State.point])
  | uplink => exact .inr rfl
  | route i | seat i | beam i | out i => exact .inl rfl
  | radio => exact .inl rfl

theorem silenceShared_run (x : Source) (s : State) : QuietRun s (silenceShared x s) := by
  refine run_gain (.silence fun i => ?_)
  cases i with
  | route i =>
    simp only [GainUnit.point, State.point, Fin.getElem_fin, Vector.getElem_ofFn]
    split
    · exact .inr rfl
    · exact .inl rfl
  | seat i | beam i | out i | feed i => simp [GainUnit.point, State.point]
  | radio | uplink => simp [GainUnit.point, State.point]

theorem gainFrame_run {s : State} (h : s.running = true) : QuietRun s (gainFrame s) := by
  have hstep : QuietRun s (s.setGain (gainStep s)) := run_gain (.step h)
  unfold gainFrame
  dsimp only
  split
  · exact (hstep.trans (raisePath_run _)).trans (takePath_run _)
  · exact hstep

theorem gainRecord_run {s : State} (h : s.running = false) : QuietRun s (gainRecord s) := run_gain (.record h)

/-! ## The mix unit -/

theorem setSeatMode_run (z : Fin 2) (on : Bool) (s : State) : QuietRun s (setSeatMode z on s) :=
  run_mix (.records rfl)

theorem endPending_run (z : Fin 2) (c : Claim) (s : State) : QuietRun s (endPending z c s) :=
  (run_mix (.drop (fun x => !(x.zone == z && x.state == .pending)) rfl)).trans (postNotice_run _ _)

theorem releaseHeld_run (z : Fin 2) (s : State) : QuietRun s (releaseHeld z s) := run_mix (.release z rfl)

theorem claimReachesNone_run (z : Fin 2) (s : State) : QuietRun s (claimReachesNone z s) := by
  unfold claimReachesNone
  split
  · exact .refl
  · exact (run_mix (.drop (fun x => !(x.zone == z && x.state == .releasing)) rfl)).trans (postNotice_run _ _)

theorem claimBecomesHeld_run {z : Fin 2} {s : State} (h : releasingOf s.mix z = none) :
    QuietRun s (claimBecomesHeld z s) := by
  unfold claimBecomesHeld
  split
  · exact .refl
  · exact (run_mix (.hold z h rfl)).trans (postNotice_run _ _)

/-- After a seat's RELEASING claim has reached NONE the seat has none. -/
theorem releasingOf_claimReachesNone (z : Fin 2) (s : State) :
    releasingOf (claimReachesNone z s).mix z = none := by
  unfold claimReachesNone
  split
  · next h => exact h
  · simp only [releasingOf, postNotice_frame, State.setMix_mix, List.find?_eq_none, List.mem_filter]
    rintro x ⟨-, hx⟩
    cases hz : x.zone == z <;> simp_all

theorem releasingOf_none_of_heldDue {s : State} {z : Fin 2} (h : heldDue s z = true) :
    releasingOf s.mix z = none := by
  unfold heldDue at h
  split at h
  · cases h
  · simpa using (Bool.and_eq_true_iff.mp h).2

theorem settleClaims_run (s : State) : QuietRun s (settleClaims s) := by
  have hnone (z : Fin 2) (t : State) : QuietRun t (if noneDue t z then claimReachesNone z t else t) :=
    .ite (fun _ => claimReachesNone_run z t) fun _ => .refl
  have hheld (z : Fin 2) (t : State) : QuietRun t (if heldDue t z then claimBecomesHeld z t else t) :=
    .ite (fun h => claimBecomesHeld_run (releasingOf_none_of_heldDue h)) fun _ => .refl
  exact (((hnone 0 s).trans (hnone 1 _)).trans (hheld 0 _)).trans (hheld 1 _)

/-- A new claim is one move of the mix unit, with the notice of a PENDING claim that gives way. -/
theorem newClaim_run {z : Fin 2} {x : Source} {s : State} (ho : claims s.mix (otherSeat z) x = false)
    (hx : x.claimable = true) : QuietRun s (newClaim z x s) := by
  unfold newClaim
  cases hc : claimOf s.mix z with
  | none =>
    exact run_mix (.claim z x ho hx (by simp [clearedClaims, hc]))
  | some c =>
    dsimp only
    by_cases hp : c.state = .pending
    · rw [if_pos hp]
      refine (postNotice_run (.claim z c.source false) s).trans ?_
      exact run_mix (.claim z x ho hx (by simp [clearedClaims, hc, hp, endPending, postNotice]))
    · rw [if_neg hp]
      exact run_mix (.claim z x ho hx (by simp [clearedClaims, hc, hp, releaseHeld]))

theorem releaseAtOnce_run (z : Fin 2) (s : State) : QuietRun s (releaseAtOnce z s) :=
  ((releaseHeld_run z s).trans (silencePoint_run _ _)).trans (claimReachesNone_run z _)

theorem claimAtOnce_run {z : Fin 2} {x : Source} {s : State} (ho : claims s.mix (otherSeat z) x = false)
    (hx : x.claimable = true) : QuietRun s (claimAtOnce z x s) := by
  have hclaim := (newClaim_run ho hx).trans ((silenceShared_run x _).trans (silencePoint_run (.seat z) _))
  exact (hclaim.trans (claimReachesNone_run z _)).trans
    (claimBecomesHeld_run (releasingOf_claimReachesNone z _))

theorem releaseAll_run (s : State) : QuietRun s (releaseAll s) := by
  have hone (z : Fin 2) (t : State) : QuietRun t (setSeatMode z false (releaseHeld z
      (match pendingOf t.mix z with
        | some c => endPending z c t
        | none => t))) := by
    refine Relation.ReflTransGen.trans ?_ ((releaseHeld_run z _).trans (setSeatMode_run z false _))
    split
    · exact endPending_run _ _ _
    · exact .refl
  exact (hone 0 s).trans (hone 1 _)

theorem dropReleasing_run (s : State) : QuietRun s (dropReleasing s) :=
  (claimReachesNone_run 0 s).trans (claimReachesNone_run 1 _)

/-! ## The channel unit -/

@[simp] theorem bankStep_stages (b : Bank) (x : Int) : (bankStep b x).1.stages = b.stages := rfl

theorem SameBanks.refl (u : ChannelUnit) : SameBanks u u := ⟨rfl, fun _ => rfl, fun _ => ⟨rfl, rfl, rfl⟩⟩

/-- A channel replaced by one with the same coefficients and spare state. -/
theorem SameBanks.put {u : ChannelUnit} {c : Fin 28} {x : Channel} (hl : x.live.stages = u.channels[c].live.stages)
    (hs : x.spareBank.stages = u.channels[c].spareBank.stages) (hp : x.spare = u.channels[c].spare) :
    SameBanks u (u.put c x) := by
  refine ⟨rfl, fun _ => rfl, fun d => ?_⟩
  rw [ChannelUnit.put_channels]
  split
  · next h => subst h; exact ⟨hl, hs, hp⟩
  · exact ⟨rfl, rfl, rfl⟩

/-- A frame of a channel moves its histories alone. -/
theorem filterChannel_banks (c : Channel) (f : Option BankFade) (x : Int) :
    (filterChannel c f x).1.live.stages = c.live.stages ∧
      (filterChannel c f x).1.spareBank.stages = c.spareBank.stages ∧ (filterChannel c f x).1.spare = c.spare := by
  cases f <;> simp [filterChannel]

theorem channelFrame_run (buses : Vector (Int × Int) 5) (s : State) : QuietRun s (channelFrame buses s) := by
  refine run_chan (.same ⟨rfl, fun n => ?_, fun c => ?_⟩)
  · simp [Function.comp_def]
  · simp only [Fin.getElem_fin, Vector.getElem_ofFn]
    exact filterChannel_banks _ _ _

theorem clearPeaks_run (s : State) : QuietRun s (clearPeaks s) := by
  refine run_chan (.same ⟨rfl, fun _ => rfl, fun c => ?_⟩)
  have hc : (clearPeaks s).chan.channels[c] = { s.chan.channels[c] with peak := 0 } := by simp [clearPeaks]
  exact hc ▸ ⟨rfl, rfl, rfl⟩

theorem startChannels_run (s : State) : QuietRun s (startChannels s) := by
  refine run_chan (.same ⟨rfl, fun _ => rfl, fun c => ?_⟩)
  have hc : (startChannels s).chan.channels[c] =
      { s.chan.channels[c].setLive s.chan.channels[c].live.rested with peak := 0, out := 0 } := by
    simp [startChannels]
  have hl := congrArg Bank.stages (Channel.setLive_live s.chan.channels[c] s.chan.channels[c].live.rested)
  have hs := congrArg Bank.stages (Channel.setLive_spareBank s.chan.channels[c] s.chan.channels[c].live.rested)
  have hp := Channel.setLive_spare s.chan.channels[c] s.chan.channels[c].live.rested
  exact hc ▸ ⟨hl, hs, hp⟩

theorem swapChannel_run {c : Fin 28} {s : State} (hl : s.chan.channels[c].spare = .loaded)
    (hf : failingStage s.chan.channels[c].spareBank = none) : QuietRun s (swapChannel c s) := run_chan (.swap c hl hf)

theorem queueActivation_run {c : Fin 28} {s : State} (hl : s.chan.channels[c].spare = .loaded)
    (hf : failingStage s.chan.channels[c].spareBank = none) : QuietRun s (queueActivation c s) :=
  run_chan (.queue c hl hf)

theorem activateOnClose_run {c : Fin 28} {s : State} (hl : s.chan.channels[c].spare = .loaded) :
    QuietRun s (activateOnClose c s) := by
  unfold activateOnClose
  split
  · exact postNotice_run _ _
  · next hf =>
    exact .ite (fun _ => (swapChannel_run hl hf).trans (postNotice_run _ _)) fun _ => queueActivation_run hl hf

theorem serveUnit_run (u : Fin 4) (s : State) : QuietRun s (serveUnit u s) := by
  unfold serveUnit
  split
  · next hf hq => exact run_chan (.serve u _ _ hf hq)
  · exact .refl

theorem serveQueue_run (s : State) : QuietRun s (serveQueue s) :=
  (((serveUnit_run 0 s).trans (serveUnit_run 1 _)).trans (serveUnit_run 2 _)).trans (serveUnit_run 3 _)

theorem endFade_run (u : Fin 4) (s : State) : QuietRun s (endFade u s) := by
  unfold endFade
  split
  · exact .refl
  · next f hf => exact ((run_chan (.fadeEnd u f hf)).trans (postNotice_run _ _)).trans (raisePath_run _)

theorem endFades_run (s : State) : QuietRun s (endFades s) :=
  foldl_run (fun t u => .ite (fun _ => endFade_run u t) fun _ => .refl) _ s

theorem completeActivations_run {post : NoticeDetail → State → State} (hr : PostRun post) (hp : MovesMsg post)
    (hc : ∀ d s, (post d s).chan = s.chan) (s : State) : QuietRun s (completeActivations post s) := by
  have hposts (ds : List NoticeDetail) (t : State) : (ds.foldl (fun t d => post d t) t).chan = t.chan := by
    induction ds generalizing t with
    | nil => rfl
    | cons d ds ih => rw [List.foldl_cons, ih, hc]
  rw [completeActivations_eq hp hc]
  set t := ((underWay s.chan).map fun c => NoticeDetail.bank c .immediate 0).foldl (fun t d => post d t) s with ht
  have hst : QuietRun s t := foldl_run (fun t d => hr d t) _ s
  have hchan : t.chan = s.chan := hposts _ s
  rw [← hchan]
  exact hst.trans (run_chan .complete)

/-! ## The protection unit -/

theorem setProtection_run (c : Fin 28) (r : ProtectRecord) (s : State) : QuietRun s (setProtection c r s) := by
  unfold setProtection
  exact .ite (fun _ => run_prot _ _) fun _ => (run_prot _ _).trans (raisePath_run _)

theorem moveProtection_run (c : Fin 28) (a b : Tier) (f : Bool × Nat) (s : State) :
    QuietRun s (moveProtection c a b f s) :=
  (setProtection_run c _ s).trans (postNotices_run _ _)

theorem evaluateChannel_run (s : State) (c : Fin 28) : QuietRun s (evaluateChannel s c) :=
  .ite (fun _ => (moveProtection_run c _ _ _ s).trans (run_prot _ _)) fun _ => .refl

theorem protectEvaluate_run (s : State) : QuietRun s (protectEvaluate s) :=
  (((run_prot s _).trans (foldl_run evaluateChannel_run _ _)).trans (run_prot _ _)).trans (clearPeaks_run _)

theorem clearProtection_run (c : Fin 28) (s : State) : QuietRun s (clearProtection c s) := by
  unfold clearProtection
  exact .ite (fun _ => (run_prot _ _).trans (raisePath_run _)) fun _ => run_prot _ _

/-! ## The antenna unit -/

theorem applyPendingMode_run {post : NoticeDetail → State → State} (hp : PostRun post) (s : State) :
    QuietRun s (applyPendingMode post s) := by
  unfold applyPendingMode
  split
  · exact .refl
  · exact (run_ant _ _).trans (hp _ _)

theorem endSwitchFade_run {post : NoticeDetail → State → State} (hp : PostRun post) (s : State) :
    QuietRun s (endSwitchFade post s) :=
  .ite (fun _ => (run_ant _ _).trans (applyPendingMode_run hp _)) fun _ => .refl

theorem evaluateAntenna_run (s : State) (a : Fin 4) : QuietRun s (evaluateAntenna s a) := by
  unfold evaluateAntenna
  exact .ite (fun _ => .ite (fun _ => run_ant _ _) fun _ => (run_ant _ _).trans (postNotice_run _ _)) fun _ => .refl

theorem antennaEvaluate_run (s : State) : QuietRun s (antennaEvaluate s) :=
  (foldl_run evaluateAntenna_run _ s).trans (run_ant _ _)

/-! ## The radio unit -/

theorem moveRadio_run (u : RadioUnit) (s : State) : QuietRun s (moveRadio u s) := by
  unfold moveRadio
  exact .ite (fun _ => run_radio _ _) fun _ => (run_radio _ _).trans (postNotice_run _ _)

theorem evaluateReception_run (h : HandOver) (s : State) : QuietRun s (evaluateReception h s) :=
  .ite (fun _ => .refl) fun _ => moveRadio_run _ _

theorem radioEvaluate_run (s : State) : QuietRun s (radioEvaluate s) :=
  ((Relation.ReflTransGen.single (.drawn s)).trans (run_radio _ _)).trans (evaluateReception_run _ _)

theorem tuneRadio_run (f : Nat) (i : Option (BitVec 16)) (s : State) : QuietRun s (tuneRadio f i s) :=
  .ite (fun _ => .refl) fun _ => moveRadio_run _ _

/-! ## The uplink unit -/

theorem startBeamFade_run (s : State) : QuietRun s (startBeamFade s) := (run_uplink _ _).trans (raisePath_run _)

theorem changeBeams_run (s : State) : QuietRun s (changeBeams s) :=
  .ite (fun _ => run_uplink _ _) fun _ => startBeamFade_run s

theorem endBeamFade_run (s : State) : QuietRun s (endBeamFade s) := by
  unfold endBeamFade
  exact .ite (fun _ => (run_uplink _ _).trans (startBeamFade_run _)) fun _ => run_uplink _ _

theorem uplinkFrame_run (f : Frame) (buses : Vector (Int × Int) 5) (s : State) :
    QuietRun s (uplinkFrame f buses s) := (run_uplink _ _).trans (run_uplink _ _)

theorem commitUpdate_run (s : State) : QuietRun s (commitUpdate s) := .ite (fun _ => run_uplink _ _) fun _ => .refl

theorem convergingMove_run (s : State) : QuietRun s (convergingMove s) := by
  unfold convergingMove
  exact .ite (fun _ => ((run_uplink _ _).trans (setEcho_run _ _)).trans (run_uplink _ _)) fun _ => run_uplink _ _

theorem convergedMove_run (s : State) : QuietRun s (convergedMove s) := by
  unfold convergedMove
  exact .ite (fun _ => ((run_uplink _ _).trans (setEcho_run _ _)).trans (run_uplink _ _)) fun _ => run_uplink _ _

theorem echoMove_run (s : State) : QuietRun s (echoMove s) := by
  unfold echoMove
  split
  · exact (commitUpdate_run s).trans (convergingMove_run _)
  · exact .ite (fun _ => (convergedMove_run s).trans (commitUpdate_run _)) fun _ => convergedMove_run s
  · exact .refl

theorem uplinkEvaluate_run (s : State) : QuietRun s (uplinkEvaluate s) :=
  ((run_uplink _ _).trans (echoMove_run _)).trans (run_uplink _ _)

theorem evaluateWithPath_run (s : State) : QuietRun s (evaluateWithPath s) := by
  unfold evaluateWithPath
  refine .ite (fun _ => ?_) fun _ => uplinkEvaluate_run s
  refine (Relation.ReflTransGen.single (.drawn s)).trans ?_
  exact QuietRun.ite (fun _ => (uplinkEvaluate_run _).trans (takePath_run _)) fun _ =>
    (takePath_run _).trans (uplinkEvaluate_run _)

/-! ## The call unit -/

theorem placeCall_run (p : Fin 4) (s : State) : QuietRun s (placeCall p s) := by
  unfold placeCall
  exact .ite (fun _ => run_call _ _) fun _ => (run_call _ _).trans (changeBeams_run _)

theorem stopCall_run (s : State) : QuietRun s (stopCall s) := by
  unfold stopCall
  refine .ite (fun _ => .refl) fun _ => ?_
  exact ((((run_call _ _).trans (silenceCall_run _)).trans (callEcho_run _ _)).trans (postNotice_run _ _)).trans
    (run_uplink _ _)

theorem loseCall_run (s : State) : QuietRun s (loseCall s) := by
  unfold loseCall
  refine .ite (fun _ => .refl) fun _ => ?_
  have hcall : QuietRun s (deferNotice (.call .lost) (setCallState .idle s)) :=
    (run_call _ _).trans (deferNotice_run _ _)
  have hecho (t : State) : QuietRun t (if s.uplink.echo = .off then t else deferNotice (.echo .off) t) :=
    .ite (fun _ => .refl) fun _ => deferNotice_run _ _
  exact (hcall.trans (hecho _)).trans (run_uplink _ _)

theorem closeCall_run (s : State) : QuietRun s (closeCall s) := (run_call _ _).trans (postNotice_run _ _)

end Sys2Proof.Machine

namespace Sys2Proof.Machine

/-! ## Runs of moves: the tables -/

theorem cursorEnd_of_coef {k : Cursor} (h : k.table = .coef) : cursorEnd k = k.chan.val * 8 + 8 := by
  simp [cursorEnd, h]

/-- One entry of an open cursor's table written. -/
theorem writeEntry_run {k : Cursor} {i : Nat} {ws : List Word} {s u : State} (hk : s.msg.cursor = some k)
    (hlo : k.index ≤ i) (hhi : i < cursorEnd k) (h : writeEntry k.table i ws s = some u) : QuietRun s u := by
  cases ht : k.table <;> rw [ht] at h
  case slotMap =>
    obtain ⟨r, -, rfl⟩ := Option.map_eq_some_iff.mp h
    exact run_ring _ _
  case channel =>
    obtain ⟨r, -, hr⟩ := Option.bind_eq_some_iff.mp h
    split at hr
    · cases hr
      exact run_chan (.same (.put rfl rfl rfl))
    · cases hr
  case route =>
    obtain ⟨r, -, hr⟩ := Option.bind_eq_some_iff.mp h
    split at hr
    · cases hr
      refine Relation.ReflTransGen.trans ?_ (silencePoint_run _ _)
      exact run_mix (.records rfl)
    · cases hr
  case protect =>
    obtain ⟨r, -, rfl⟩ := Option.map_eq_some_iff.mp h
    exact run_prot _ _
  case coef =>
    cases h
    exact run_chan (.stage k i ws hk ht hlo (cursorEnd_of_coef ht ▸ hhi))
  case radio =>
    cases h
    exact .ite (fun _ => run_ant _ _) fun _ => (run_ant _ _).trans (run_radio _ _)
  case zone => cases h; exact run_mix (.records rfl)
  case curve | ramp =>
    cases h
    refine run_gain_points fun i => ?_
    cases i <;> rfl
  case duck | placement => cases h; exact run_call _ _
  case amp => cases h; exact run_prot _ _
  case beam | echo => cases h; exact run_uplink _ _
  case penalty => cases h; exact run_ant _ _
  case blend => cases h; exact run_radio _ _

/-- Writing an entry leaves the message unit alone. -/
theorem writeEntry_msg {t : Table} {i : Nat} {ws : List Word} {s u : State} (h : writeEntry t i ws s = some u) :
    u.msg = s.msg := by
  cases t with
  | slotMap | protect =>
    obtain ⟨r, -, rfl⟩ := Option.map_eq_some_iff.mp h
    rfl
  | channel | route =>
    obtain ⟨r, -, hr⟩ := Option.bind_eq_some_iff.mp h
    split at hr
    · cases hr; rfl
    · cases hr
  | radio =>
    cases h
    unfold writeRadio
    dsimp only
    split <;> rfl
  | coef | zone | curve | duck | placement | amp | beam | penalty | blend | echo | ramp => cases h; rfl

theorem writeEntries_msg (c : Cursor) (es : List (List Word)) (done : Nat) (s : State) :
    (writeEntries c es done s).state.msg = s.msg := by
  induction es generalizing done s with
  | nil => rfl
  | cons e es ih =>
    unfold writeEntries
    split
    · rfl
    · split
      · rfl
      · next t ht => rw [ih, writeEntry_msg ht]

/-- The entries written end at the last a cursor may write. -/
theorem writeEntries_written_le (c : Cursor) (es : List (List Word)) (done : Nat) (s : State) :
    (writeEntries c es done s).written = done ∨ c.index + (writeEntries c es done s).written ≤ cursorEnd c := by
  induction es generalizing done s with
  | nil => exact .inl rfl
  | cons e es ih =>
    unfold writeEntries
    split
    · exact .inl rfl
    · next hend =>
      split
      · exact .inl rfl
      · next t ht =>
        rcases ih (done + 1) t with h | h
        · rw [h]
          exact .inr (by omega)
        · exact .inr h

theorem writeEntries_run {c : Cursor} (es : List (List Word)) (done : Nat) {s : State}
    (hc : s.msg.cursor = some c) : QuietRun s (writeEntries c es done s).state := by
  induction es generalizing done s with
  | nil => exact .refl
  | cons e es ih =>
    unfold writeEntries
    split
    · exact .refl
    · next hend =>
      split
      · exact .refl
      · next t ht =>
        refine (writeEntry_run hc (Nat.le_add_right _ _) (by omega) ht).trans (ih _ ?_)
        rw [writeEntry_msg ht, hc]

/-! ## Runs of moves: the cursor -/

theorem setSpareState_channels (c d : Fin 28) (x : SpareState) (s : State) :
    (setSpareState c x s).chan.channels[d] =
      if d = c then { s.chan.channels[c] with spare := x } else s.chan.channels[d] :=
  ChannelUnit.put_channels _ _ _ _

theorem offCoef_none : offCoef none := fun _ h => nomatch h

theorem offCoef_some {c : Cursor} (h : c.table ≠ .coef) : offCoef (some c) := fun _ hk => Option.some.inj hk ▸ h

theorem closeCursor_run (clean : Bool) (s : State) : QuietRun s (closeCursor clean s) := by
  unfold closeCursor
  split
  · exact .refl
  · next c hc =>
    dsimp only
    split
    · next ht =>
      have hclose := Relation.ReflTransGen.single (Quiet.closeCoef c hc ht)
      split
      · refine hclose.trans (activateOnClose_run ?_)
        rw [setSpareState_channels, if_pos rfl]
      · exact hclose
    · next ht => exact .single (.cursor s none (hc ▸ offCoef_some ht) offCoef_none)

/-- An aborted close leaves no cursor. -/
theorem closeCursor_false_cursor (s : State) : (closeCursor false s).msg.cursor = none := by
  unfold closeCursor
  split
  · next h => exact h
  · dsimp only
    split <;> simp

/-- An aborted close takes a spare at most to LOADED. -/
theorem closeCursor_false_spare (s : State) (d : Fin 28) :
    (closeCursor false s).chan.channels[d].spare = s.chan.channels[d].spare ∨
      (closeCursor false s).chan.channels[d].spare = .loaded := by
  unfold closeCursor
  split
  · exact .inl rfl
  · dsimp only
    split
    · simp only [Bool.false_and, Bool.false_eq_true, if_false, setSpareState_channels]
      split
      · exact .inr rfl
      · exact .inl rfl
    · exact .inl rfl

theorem openCursor_run {c : Cursor} {s : State}
    (hc : c.table = .coef → spareInTransition s c.chan = false ∧ c.chan.val * 8 ≤ c.index ∧
      c.index ≤ c.chan.val * 8 + 8) : QuietRun s (openCursor c s) := by
  have hnone := closeCursor_false_cursor s
  refine (closeCursor_run false s).trans ?_
  unfold openCursor
  dsimp only
  split
  · next ht =>
    obtain ⟨hspare, hlo, hhi⟩ := hc ht
    simp only [spareInTransition, Bool.or_eq_false_iff, beq_eq_false_iff_ne] at hspare
    have hsame := closeCursor_false_spare s c.chan
    refine .single (.openCoef c hnone ht ?_ ?_ hlo hhi)
    · rcases hsame with h | h
      · exact h ▸ hspare.1
      · exact h ▸ nofun
    · rcases hsame with h | h
      · exact h ▸ hspare.2
      · exact h ▸ nofun
  · next ht => exact .single (.cursor _ _ (hnone ▸ offCoef_none) (offCoef_some ht))

/-- The cursor moves on by no more entries than stand before its end. -/
theorem advanceCursor_run {c : Cursor} {n : Nat} {s : State} (hc : s.msg.cursor = some c)
    (hn : n = 0 ∨ c.index + n ≤ cursorEnd c) : QuietRun s (advanceCursor c n s) := by
  by_cases ht : c.table = .coef
  · rw [cursorEnd_of_coef ht] at hn
    exact .single (.moveCoef c n hc ht hn)
  · exact .single (.cursor s _ (hc ▸ offCoef_some ht) (offCoef_some ht))

theorem writeTable_run {c : Cursor} (payload : List Word) {s : State} (hc : s.msg.cursor = some c) :
    QuietRun s (writeTable c payload s).state := by
  let o := writeEntries c (entriesOf (entryWords c.table) payload.length payload) 0 s
  let t := advanceCursor c o.written o.state
  have hmsg : o.state.msg = s.msg := writeEntries_msg c _ 0 s
  have ht : QuietRun s t :=
    (writeEntries_run _ 0 hc).trans (advanceCursor_run (hmsg ▸ hc) (writeEntries_written_le c _ 0 s))
  have hu : QuietRun s (if beamsTouched c o.written s then changeBeams t else t) :=
    .ite (fun _ => ht.trans (changeBeams_run t)) fun _ => ht
  unfold writeTable
  dsimp only
  split
  · exact QuietRun.ite (fun _ => hu) fun _ => hu.trans (closeCursor_run true _)
  · exact hu.trans (closeCursor_run false _)
  · exact hu.trans (closeCursor_run false _)

/-! ## Runs of moves: the handlers -/

/-- A request that passes is taken in its operating state. -/
theorem takenIn_of_passes {k : RequestKind} {r : Request} {s : State} (h : Passes k r s) :
    takenIn k s.msg.op = true := by
  unfold Passes refusalOf at h
  split_ifs at h with hlength hpattern hpermitted htaken
  simpa using htaken

theorem setOp_run {o : OpState} {s : State}
    (h : (∀ i, (s.point i).Silent) ∨ s.running = false ∨ (setOp o s).running = true) : QuietRun s (setOp o s) :=
  run_msg (.op o s.msg.patternFrom h)

theorem onZone_run {r : Request} {s : State} {f : Fin 5 → Answer} (h : ∀ z, QuietRun s (f z).state) :
    QuietRun s (onZone r s f).state := by
  unfold onZone
  split
  · exact .refl
  · exact h _

theorem enterRun_run (s : State) : QuietRun s (enterRun s) := by
  have hop : QuietRun s (setOp .run s) := setOp_run (.inr (.inr rfl))
  have hpoints (t : State) : QuietRun t (startPoints t) := run_gain_points fun i => by cases i <;> rfl
  have hstart := ((hop.trans (silenceAll_run _)).trans (hpoints _)).trans (startChannels_run _)
  have hant : QuietRun s (startAntennas (startAmps (startChannels (startPoints (silenceAll (setOp .run s)))))) :=
    (hstart.trans (run_prot _ _)).trans (run_ant _ _)
  exact (hant.trans (moveRadio_run _ _)).trans (run_uplink _ _)

theorem handlePatternEnter_run {r : Request} {s : State} (hp : Passes .patternEnter r s) :
    QuietRun s (handlePatternEnter r s).state := by
  have htaken := (takenIn_of_passes hp)
  unfold handlePatternEnter
  split
  · exact .refl
  · split
    · exact .refl
    · refine (run_ring _ _).trans (run_msg (.op .pattern _ ?_))
      cases hop : s.msg.op with
      | stopping => simp [takenIn, hop] at htaken
      | config => exact .inr (.inl (by simp [State.running, hop]))
      | run => exact .inr (.inr (by simp [State.running]))
      | pattern =>
        cases hrun : s.running with
        | false => exact .inr (.inl hrun)
        | true =>
          simp only [State.running, hop] at hrun
          exact .inr (.inr (by simpa [State.running, hop] using hrun))

theorem handlePatternExit_run {r : Request} {s : State} (hp : Passes .patternExit r s) :
    QuietRun s (handlePatternExit r s).state := by
  have hop : s.msg.op = .pattern := by simpa [takenIn] using (takenIn_of_passes hp)
  refine setOp_run (.inr ?_)
  cases hrun : s.running with
  | false => exact .inl rfl
  | true =>
    have hfrom : s.msg.patternFrom = .run := by simpa [State.running, hop] using hrun
    exact .inr (by simp [hfrom, setOp, State.running])

theorem handleTableOpen_run (r : Request) (s : State) : QuietRun s (handleTableOpen r s).state := by
  unfold handleTableOpen
  dsimp only
  split
  · exact .refl
  · next hfault =>
    split
    · exact .refl
    · split
      · exact .refl
      · next hbusy =>
        refine openCursor_run fun ht => ?_
        have hindex : (cursorOfWord (argument r 0)).index < 224 ∧ (cursorOfWord (argument r 0)).spare = true := by
          simp only [openFault, ht, tableEntries] at hfault
          simpa using And.left (by simpa using hfault)
        have hchan : (cursorOfWord (argument r 0)).chan.val = (cursorOfWord (argument r 0)).index / 8 % 28 := rfl
        refine ⟨by simpa [hindex.2] using hbusy, ?_, ?_⟩ <;> omega

theorem handleZoneSource_run (r : Request) (s : State) : QuietRun s (handleZoneSource r s).state := by
  unfold handleZoneSource
  split
  · exact .refl
  · next z _ =>
    split
    · unfold releaseZone
      split
      · exact setSeatMode_run _ _ _
      · split
        · exact (endPending_run _ _ _).trans (setSeatMode_run _ _ _)
        · split
          · exact (releaseAtOnce_run _ _).trans (setSeatMode_run _ _ _)
          · exact (releaseHeld_run _ _).trans (setSeatMode_run _ _ _)
    · next x _ =>
      split
      · next hx =>
        unfold claimZone
        split
        · exact .refl
        · next ho =>
          have hfree : claims s.mix (otherSeat z) x = false := by simpa using ho
          split
          · exact .refl
          · split
            · exact claimAtOnce_run hfree hx
            · exact newClaim_run hfree hx
      · exact .refl

theorem handleBankActivate_run (r : Request) (s : State) : QuietRun s (handleBankActivate r s).state := by
  unfold handleBankActivate
  split
  · exact .refl
  · next c _ =>
    split
    · exact .refl
    · next hl =>
      have hloaded : s.chan.channels[c].spare = .loaded := by simpa using hl
      split
      · exact .refl
      · next hf =>
        split
        · exact swapChannel_run hloaded hf
        · exact queueActivation_run hloaded hf

theorem handleProtectClear_run (r : Request) (s : State) : QuietRun s (handleProtectClear r s).state := by
  have hall (cs : List (Fin 28)) : QuietRun s (answerOk (cs.foldl (fun t c => clearProtection c t) s)).state :=
    foldl_run (fun t c => clearProtection_run c t) cs s
  unfold handleProtectClear
  dsimp only
  split
  · exact hall _
  · split
    · exact .refl
    · exact clearProtection_run _ _

/-- The handlers of the call requests. -/
theorem handleCall_run (r : Request) (s : State) :
    QuietRun s (handleCallAlert r s).state ∧ QuietRun s (handleCallConnect r s).state ∧
      QuietRun s (handleCallHold r s).state ∧ QuietRun s (handleCallResume r s).state ∧
      QuietRun s (handleCallMove r s).state ∧ QuietRun s (handleCallEnd r s).state := by
  have halert (p : Fin 4) : QuietRun s (alertCall p s) := (run_call _ _).trans (placeCall_run _ _)
  have hconnect (g : Int) : QuietRun s (connectCall g s) :=
    ((run_call _ _).trans (run_uplink _ _)).trans (callEcho_run _ _)
  have hhold : QuietRun s (holdCall s) := (run_call _ _).trans (callEcho_run _ _)
  have hresume : QuietRun s (resumeCall s) := (run_call _ _).trans (callEcho_run _ _)
  have hclosing : QuietRun s (beginClosing s) := (run_call _ _).trans (callEcho_run _ _)
  refine ⟨?_, ?_, ?_, ?_, ?_, ?_⟩
  · unfold handleCallAlert
    split <;> first | exact halert _ | exact .refl
  · unfold handleCallConnect
    split <;> first | exact hconnect _ | exact .refl
  · unfold handleCallHold
    split <;> first | exact hhold | exact .refl
  · unfold handleCallResume
    split <;> first | exact hresume | exact .refl
  · unfold handleCallMove
    split <;> first | exact placeCall_run _ _ | exact .refl
  · unfold handleCallEnd
    split <;> first | exact hclosing | exact .refl

/-- What a request that passes does, whatever its kind. -/
theorem handlerOf_run {k : RequestKind} {r : Request} {s : State} (hp : Passes k r s) :
    QuietRun s (handlerOf k r s).state := by
  obtain ⟨halert, hconnect, hhold, hresume, hmove, hend⟩ := handleCall_run r s
  cases k with
  | state => exact QuietRun.ite (fun _ => .single (.drawn s)) fun _ => .refl
  | start =>
    simp only [handlerOf, handleStart]
    split
    · exact .refl
    · exact enterRun_run s
  | stop => exact ((setOp_run (.inr (.inr rfl))).trans (stopCall_run _)).trans (releaseAll_run _)
  | reset => exact run_msg (.phase _)
  | patternEnter => exact handlePatternEnter_run hp
  | patternExit => exact handlePatternExit_run hp
  | tableOpen => exact handleTableOpen_run r s
  | tableWrite =>
    simp only [handlerOf, handleTableWrite]
    split
    · exact .refl
    · next c hc =>
      split
      · exact closeCursor_run false s
      · split
        · exact closeCursor_run false s
        · exact writeTable_run _ hc
  | tableClose => exact closeCursor_run true s
  | tableRead => simp only [handlerOf, handleTableRead]; split <;> exact .refl
  | routeSet =>
    simp only [handlerOf, handleRouteSet]
    split
    · split
      · exact .refl
      · exact run_mix (.records rfl)
    · exact .refl
  | zoneSet | zoneMute | zoneLock => exact onZone_run fun _ => run_mix (.records rfl)
  | zoneSource => exact handleZoneSource_run r s
  | bankActivate => exact handleBankActivate_run r s
  | protectClear => exact handleProtectClear_run r s
  | radioMode =>
    simp only [handlerOf, handleRadioMode]
    (repeat' split) <;> first | exact .refl | exact run_ant _ _
  | radioTune =>
    simp only [handlerOf, handleRadioTune]
    split
    · exact .refl
    · exact (tuneRadio_run _ _ _).trans (run_ant _ _)
  | callAlert => exact halert
  | callConnect => exact hconnect
  | callHold => exact hhold
  | callResume => exact hresume
  | callMove => exact hmove
  | callEnd => exact hend

theorem judge_run (k : RequestKind) (r : Request) (s : State) :
    QuietRun s (judge k (handlerOf k) r s).state := by
  unfold judge
  split
  · exact .refl
  · next hp => exact handlerOf_run hp

theorem answerCode_run (code : BitVec 6) (r : Request) (s : State) : QuietRun s (answerCode code r s).state := by
  unfold answerCode
  split
  · exact .refl
  · exact judge_run _ r s

end Sys2Proof.Machine

namespace Sys2Proof.Machine

/-! ## What a run of moves leaves of the outgoing queue -/

/-- No move of a unit touches the outgoing queue, how far its head is sent, or the waiting commands. -/
theorem Quiet.sending {s t : State} (h : Quiet s t) :
    t.msg.queue = s.msg.queue ∧ t.msg.sent = s.msg.sent ∧ t.pending = s.pending := by
  cases h with
  | msg h => cases h <;> exact ⟨rfl, rfl, rfl⟩
  | ring | prot | ant | radio | call | uplink | drawn | gain | mix | chan | cursor => exact ⟨rfl, rfl, rfl⟩
  | closeCoef | openCoef | moveCoef => exact ⟨rfl, rfl, rfl⟩

theorem QuietRun.sending {s t : State} (h : QuietRun s t) :
    t.msg.queue = s.msg.queue ∧ t.msg.sent = s.msg.sent ∧ t.pending = s.pending := by
  induction h with
  | refl => exact ⟨rfl, rfl, rfl⟩
  | tail _ h ih =>
    obtain ⟨hq, hs, hp⟩ := h.sending
    exact ⟨hq.trans ih.1, hs.trans ih.2.1, hp.trans ih.2.2⟩

/-- Between two states of one frame at most one message has joined the queue, and no word has been sent. -/
def Brief (s t : State) : Prop :=
  t.msg.queue.length ≤ s.msg.queue.length + 1 ∧ (t.msg.sent = s.msg.sent ∨ t.msg.sent = 0)

theorem QuietRun.brief {s t : State} (h : QuietRun s t) : Brief s t := by
  obtain ⟨hq, hs, -⟩ := h.sending
  exact ⟨by rw [hq]; omega, .inl hs⟩

theorem Brief.after {s t u : State} (h : Brief t u) (hst : QuietRun s t) : Brief s u := by
  obtain ⟨hq, hs, -⟩ := hst.sending
  obtain ⟨hlength, hsent⟩ := h
  exact ⟨by rw [← hq]; exact hlength, by rw [← hs]; exact hsent⟩

theorem Brief.before {s t u : State} (h : Brief s t) (htu : QuietRun t u) : Brief s u := by
  obtain ⟨hq, hs, -⟩ := htu.sending
  obtain ⟨hlength, hsent⟩ := h
  exact ⟨by rw [hq]; exact hlength, by rw [hs]; exact hsent⟩

/-! ## What a command can do -/

/-- A command's run: moves of units, a reply that joins the queue, a word sent, a message to be sent again, a reset, and
the notice that enters a queue that was empty when the frame's command word was taken. -/
inductive Moves : State → State → Prop
  | refl (s : State) : Moves s s
  | trans {s t u : State} : Moves s t → Moves t u → Moves s u
  | quiet {s t : State} : Quiet s t → Moves s t
  | reply (s : State) (m : OutMessage) : s.msg.queue.length < 4 → Moves s (enqueue m s)
  | word (s : State) : Moves s (s.setMsg s.msg.wordSent)
  | unsent (s : State) : Moves s (s.setMsg { s.msg with sent := 0 })
  | reset (s : State) : Moves s (resetPart s)
  | pin (s : State) : Moves s (resetByPin s)
  | enter {t v : State} : Moves t v → Brief t v → Moves t (enterNotice t.msg.queue.isEmpty v)

theorem QuietRun.moves {s t : State} (h : QuietRun s t) : Moves s t := by
  induction h with
  | refl => exact .refl _
  | tail _ h ih => exact ih.trans (.quiet h)

/-! ## Requests -/

/-- An answer is a run of moves of the units. -/
def AnswerRun (answer : Request → State → Answer) : Prop := ∀ r s, QuietRun s (answer r s).state

theorem takeRequest_moves {code : BitVec 6} {answer : Request → State → Answer} (ha : AnswerRun answer) (r : Request)
    (s : State) : Moves s (takeRequest code answer r s) ∧ Brief s (takeRequest code answer r s) := by
  have hidle : Moves s s ∧ Brief s s := ⟨.refl s, QuietRun.brief .refl⟩
  have hrun := ha r s
  have hdrop : QuietRun s (dropRequest s) := (run_msg .dropped).trans (postNotice_run _ _)
  unfold takeRequest answerRequest
  split
  · exact hidle
  · split
    · exact hidle
    · split
      · exact ⟨hrun.moves, hrun.brief⟩
      · split
        · exact ⟨hdrop.moves, hdrop.brief⟩
        · next hfull =>
          obtain ⟨hq, hs, -⟩ := hrun.sending
          refine ⟨hrun.moves.trans (.reply _ _ (by rw [hq]; omega)), ?_, .inl hs⟩
          simp [enqueue, hq]

theorem settleReset_moves (s : State) : Moves s (settleReset s) := by
  unfold settleReset
  split
  · exact .reset s
  · exact .refl s

theorem requestStep_moves {code : BitVec 6} {answer : Request → State → Answer} (ha : AnswerRun answer) (r : Request)
    (s : State) : Moves s (requestStep code answer r s) := by
  unfold requestStep
  split
  · exact ((takeRequest_moves ha r s).1.trans (takePath_run _).moves).trans (settleReset_moves _)
  · exact .refl s

/-! ## A processed frame -/

theorem setAssembly_run {a : Assembly} {s : State} (h : s.msg.assembly.Fits → a.Fits) : QuietRun s (setAssembly a s) :=
  run_msg (.assembly a h)

theorem countBroken_run (s : State) : QuietRun s (countBroken s) := run_msg .broken

theorem gapTick_run (s : State) : QuietRun s (gapTick s) := by
  unfold gapTick
  split
  · exact .refl
  · next ha =>
    split
    · exact (countBroken_run s).trans (setAssembly_run fun _ => trivial)
    · exact setAssembly_run fun hfits => by
        rw [ha] at hfits
        exact ⟨hfits.1, by omega⟩
  · split
    · exact setAssembly_run fun _ => trivial
    · refine setAssembly_run fun _ => ?_
      unfold Assembly.Fits
      dsimp only
      omega

theorem takeHead_run (h : Word) (s : State) : QuietRun s (takeHead h s) := by
  unfold takeHead
  have hfits (t : State) : QuietRun t
      (setAssembly (if forUs (headDest h) s then .assembling h [] false 0 else .skipping 0) t) := by
    refine setAssembly_run fun _ => ?_
    split
    · exact ⟨Nat.zero_le _, Nat.zero_le _⟩
    · exact Nat.zero_le 64
  refine Relation.ReflTransGen.trans ?_ (hfits _)
  cases s.msg.assembly with
  | assembling => exact countBroken_run s
  | empty | skipping => exact .refl

theorem takeBody_run (w : Word) (s : State) : QuietRun s (takeBody w s) := by
  unfold takeBody
  split
  · exact .refl
  · exact setAssembly_run fun _ => Nat.zero_le 64
  · next ha =>
    split
    · next hroom =>
      refine setAssembly_run fun _ => ⟨?_, Nat.zero_le _⟩
      simp only [List.length_append, List.length_singleton]
      omega
    · exact setAssembly_run fun hfits => by
        rw [ha] at hfits
        exact ⟨hfits.1, Nat.zero_le _⟩

/-- The command word of a frame: moves, and at most one reply. -/
theorem takeCommand_moves (f : Frame) (s : State) : Moves s (takeCommand f s) ∧ Brief s (takeCommand f s) := by
  have hquiet {t : State} (h : QuietRun s t) : Moves s t ∧ Brief s t := ⟨h.moves, h.brief⟩
  unfold takeCommand
  split
  · exact hquiet (gapTick_run s)
  · exact hquiet (takeHead_run _ s)
  · exact hquiet (takeBody_run _ s)
  · unfold takeCheck
    have hempty : QuietRun s (setAssembly .empty s) := setAssembly_run fun _ => trivial
    split
    · exact hquiet .refl
    · exact hquiet hempty
    · dsimp only
      split
      · obtain ⟨hm, hb⟩ := takeRequest_moves (code := headKind _) (fun r s => answerCode_run _ r s) _ _
        exact ⟨hempty.moves.trans hm, hb.after hempty⟩
      · exact hquiet (hempty.trans (run_msg .checkFailed))

theorem ampFrame_run (f : Frame) (s : State) : QuietRun s (ampFrame f s) := run_prot _ _

theorem antennaFrame_run (f : Frame) (s : State) : QuietRun s (antennaFrame f s) := run_ant _ _

theorem radioFrame_run (zs : List Complex24) (s : State) : QuietRun s (radioFrame zs s) := run_radio _ _

theorem armClosing_run (s : State) : QuietRun s (armClosing s) := run_call _ _

theorem unitsFrame_run {f : Frame} {b : Bool} {s : State} (h : s.running = b) : QuietRun s (unitsFrame f b s) := by
  subst h
  cases hr : s.running with
  | false => exact gainRecord_run hr
  | true =>
    have hamp : (ampFrame f s).running = true := hr
    have hgain := (ampFrame_run f s).trans (gainFrame_run hamp)
    have hant := hgain.trans (antennaFrame_run f _)
    exact (((hant.trans (radioFrame_run _ _)).trans (channelFrame_run _ _)).trans (uplinkFrame_run _ _ _)).trans
      (armClosing_run _)

theorem blockEvaluations_run (s : State) : QuietRun s (blockEvaluations s) :=
  ((protectEvaluate_run s).trans (antennaEvaluate_run _)).trans (radioEvaluate_run _)

theorem endCrossfades_run (s : State) : QuietRun s (endCrossfades s) := by
  unfold endCrossfades
  have hbeam (t : State) : QuietRun t (if beamFadeOver t then endBeamFade t else t) :=
    .ite (fun _ => endBeamFade_run t) fun _ => .refl
  have hswitch (t : State) : QuietRun t (if switchFadeOver t then endSwitchFade postNotice t else t) :=
    .ite (fun _ => endSwitchFade_run postNotice_run t) fun _ => .refl
  exact (((endFades_run s).trans (serveQueue_run _)).trans (hbeam _)).trans (hswitch _)

theorem settlePath_run (b e : Bool) (s : State) : QuietRun s (settlePath b e s) := by
  have hearly : QuietRun s (if e then clearPath s else s) := .ite (fun _ => clearPath_run s) fun _ => .refl
  unfold settlePath
  exact .ite (fun _ => hearly.trans (evaluateWithPath_run _)) fun _ => hearly.trans (takePath_run _)

/-! Reaching CONFIG silences every point last; as nothing in between reads or moves a gain, it may as well come first,
before the operating state changes. -/

theorem claimReachesNone_setGain (z : Fin 2) (s : State) (g : GainUnit) :
    claimReachesNone z (s.setGain g) = (claimReachesNone z s).setGain g := by
  unfold claimReachesNone
  cases h : releasingOf s.mix z with
  | none => simp only [State.setGain_mix, h]
  | some c => simp only [State.setGain_mix, h]; rfl

theorem endSwitchFade_setGain (s : State) (g : GainUnit) :
    endSwitchFade postNotice (s.setGain g) = (endSwitchFade postNotice s).setGain g := by
  unfold endSwitchFade
  cases hf : s.ant.fade with
  | none => simp [hf]
  | some f =>
    cases hm : s.ant.pendingMode <;>
      (simp only [applyPendingMode, State.setGain_ant, State.setAnt_ant, hf, hm]; rfl)

theorem completeActivations_setGain (s : State) (g : GainUnit) :
    completeActivations postNotice (s.setGain g) = (completeActivations postNotice s).setGain g := by
  have hposts (ds : List NoticeDetail) (t : State) :
      ds.foldl (fun t d => postNotice d t) (t.setGain g) = (ds.foldl (fun t d => postNotice d t) t).setGain g := by
    induction ds generalizing t with
    | nil => rfl
    | cons d ds ih => exact ih (postNotice d t)
  rw [completeActivations_eq postNotice_movesMsg (fun d s => (postNotice_frame d s).2.2.2.1),
    completeActivations_eq postNotice_movesMsg (fun d s => (postNotice_frame d s).2.2.2.1), State.setGain_chan, hposts]
  rfl

theorem resolveBeams_run (s : State) : QuietRun s (resolveBeams s) := run_uplink _ _

/-- Everything but the silence that comes with CONFIG (R34, R65, R106, R148, R182). -/
def enterConfig (s : State) : State :=
  resolveBeams (endSwitchFade postNotice
    (dropReleasing (completeActivations postNotice (postNotice (.state .config) (setOp .config s)))))

theorem reachConfig_eq (s : State) : reachConfig s = silenceAll (enterConfig s) := rfl

theorem enterConfig_setGain (s : State) (g : GainUnit) : enterConfig (s.setGain g) = (enterConfig s).setGain g := by
  have hop : postNotice (.state .config) (setOp .config (s.setGain g)) =
      (postNotice (.state .config) (setOp .config s)).setGain g := rfl
  unfold enterConfig dropReleasing
  rw [hop, completeActivations_setGain, claimReachesNone_setGain, claimReachesNone_setGain, endSwitchFade_setGain]
  rfl

theorem enterConfig_gain (s : State) : (enterConfig s).gain = s.gain := by simp [enterConfig, setOp]

theorem reachConfig_silence_first (s : State) : reachConfig s = enterConfig (silenceAll s) := by
  unfold silenceAll
  rw [reachConfig_eq, enterConfig_setGain, silenceAll, enterConfig_gain]

theorem silenceAll_silent (s : State) (i : GainId) : ((silenceAll s).point i).Silent := by
  show ((s.gain.mapPoints GainPoint.silenced).point i).Silent
  rw [GainUnit.point_mapPoints]
  exact ⟨rfl, rfl⟩

theorem reachConfig_run (s : State) : QuietRun s (reachConfig s) := by
  rw [reachConfig_silence_first]
  have hop : QuietRun (silenceAll s) (postNotice (.state .config) (setOp .config (silenceAll s))) :=
    (setOp_run (.inl (silenceAll_silent s))).trans (postNotice_run _ _)
  have hbanks := (hop.trans (completeActivations_run postNotice_run postNotice_movesMsg
    (fun d s => (postNotice_frame d s).2.2.2.1) _)).trans (dropReleasing_run _)
  exact (silenceAll_run s).trans ((hbanks.trans (endSwitchFade_run postNotice_run _)).trans (resolveBeams_run _))

theorem endOfFrame_run (f : Frame) (e : Bool) (s : State) : QuietRun s (endOfFrame f e s) := by
  have hblock (t : State) : QuietRun t (if f.index == 63 then blockEvaluations t else t) :=
    .ite (fun _ => blockEvaluations_run t) fun _ => .refl
  have hclose (t : State) : QuietRun t (if closingDue t then closeCall t else t) :=
    .ite (fun _ => closeCall_run t) fun _ => .refl
  have hconfig (t : State) : QuietRun t (if configDue t then reachConfig t else t) :=
    .ite (fun _ => reachConfig_run t) fun _ => .refl
  have hclaims := ((endCrossfades_run s).trans (hblock _)).trans (settleClaims_run _)
  exact ((hclaims.trans (hclose _)).trans (settlePath_run _ e _)).trans (hconfig _)

theorem sendWord_moves (s : State) : Moves s (sendWord s) := by
  unfold sendWord
  split
  · exact .refl s
  · exact (Moves.quiet (.ring s _)).trans (.word _)

theorem sendWord_op (s : State) :
    (sendWord s).msg.op = s.msg.op ∧ (sendWord s).msg.patternFrom = s.msg.patternFrom := by
  unfold sendWord
  split
  · exact ⟨rfl, rfl⟩
  · simp only [State.setMsg_msg, MessageUnit.wordSent]
    (repeat' split) <;> exact ⟨rfl, rfl⟩

theorem running_congr {s t : State} (ho : t.msg.op = s.msg.op) (hp : t.msg.patternFrom = s.msg.patternFrom) :
    t.running = s.running := by
  unfold State.running
  rw [ho, hp]

theorem Brief.reset {s t : State} (h : Brief s t) : Brief s (settleReset t) := by
  unfold settleReset
  split
  · exact ⟨Nat.zero_le _, .inr rfl⟩
  · exact h

/-- A frame with its reply word written and itself forwarded, before the units see it. -/
def frameSent (f : Frame) (s : State) : State :=
  transmit (.good (frameForwarded s f)) (if f.reply.wtype = .idle then sendWord s else s)

theorem frameSent_moves (f : Frame) (s : State) : Moves s (frameSent f s) := by
  unfold frameSent
  split
  · exact (sendWord_moves s).trans (.quiet (.ring _ _))
  · exact .quiet (.ring _ _)

theorem frameSent_running (f : Frame) (s : State) : (frameSent f s).running = s.running := by
  unfold frameSent
  split
  · exact running_congr (sendWord_op s).1 (sendWord_op s).2
  · rfl

/-- What a processed frame comes to before a notice enters the queue. -/
def frameSettled (f : Frame) (s : State) : State :=
  settleReset (if s.running then
      endOfFrame f (gainEvent (frameSent f s)) (takeCommand f (unitsFrame f s.running (frameSent f s)))
    else takePath (takeCommand f (unitsFrame f s.running (frameSent f s))))

theorem processFrame_eq (f : Frame) (s : State) :
    processFrame f s = enterNotice (frameSent f s).msg.queue.isEmpty (frameSettled f s) := rfl

theorem processFrame_moves (f : Frame) (s : State) : Moves s (processFrame f s) := by
  rw [processFrame_eq]
  have hunits : QuietRun (frameSent f s) (unitsFrame f s.running (frameSent f s)) :=
    unitsFrame_run (frameSent_running f s)
  obtain ⟨hcommand, hbrief⟩ := takeCommand_moves f (unitsFrame f s.running (frameSent f s))
  have hend (u : State) : QuietRun u (if s.running then endOfFrame f (gainEvent (frameSent f s)) u else takePath u) :=
    .ite (fun _ => endOfFrame_run f _ u) fun _ => takePath_run u
  refine (frameSent_moves f s).trans (.enter ?_ ?_)
  · exact ((hunits.moves.trans hcommand).trans (hend _).moves).trans (settleReset_moves _)
  · exact ((hbrief.after hunits).before (hend _)).reset

/-! ## Frames and the link -/

theorem takePosition_moves (p : Option Node) (s : State) : Moves s (takePosition p s) := by
  unfold takePosition
  split
  · exact .refl s
  · exact (Moves.quiet (.ring s _)).trans (.unsent _)

theorem adoptPosition_moves (p : Option Node) (s : State) : Moves s (adoptPosition p s) := by
  unfold adoptPosition
  split
  · exact .refl s
  · exact (takePosition_moves p s).trans (postNotice_run _ _).moves

theorem acquireLink_moves (f : Frame) (s : State) : Moves s (acquireLink f s) :=
  ((Moves.quiet (.ring s _)).trans (takePosition_moves _ _)).trans (processFrame_moves f _)

theorem postDeferred_run (s : State) : QuietRun s (postDeferred s) :=
  (postNotices_run _ s).trans (run_msg (.defer []))

theorem relinkFrame_moves (f : Frame) (s : State) : Moves s (relinkFrame f s) := by
  have hlink := (Moves.quiet (.ring s _)).trans (takePosition_moves (positionOf f.hop) (linkUp s))
  exact (hlink.trans (QuietRun.moves ((postNotice_run _ _).trans (postDeferred_run _)))).trans (processFrame_moves f _)

theorem goodFrame_moves (f : Frame) (s : State) : Moves s (goodFrame f s) := by
  have hsee : Moves s (seeFrame s) := .quiet (.ring s _)
  have hpass : Moves (seeFrame s) (passFrame f (seeFrame s)) := .quiet (.ring _ _)
  refine hsee.trans ?_
  unfold goodFrame
  dsimp only
  split
  · exact ((Moves.quiet (.ring _ _)).trans (adoptPosition_moves _ _)).trans (processFrame_moves f _)
  · split
    · exact acquireLink_moves f _
    · exact hpass
  · split
    · exact relinkFrame_moves f _
    · exact hpass

theorem loseLink_moves (s : State) : Moves s (loseLink s) := by
  have hempty (t : State) : QuietRun t (setAssembly .empty t) := setAssembly_run fun _ => trivial
  exact (QuietRun.moves ((run_ring s _).trans (hempty _))).trans (.unsent _)

theorem badTick_moves (s : State) : Moves s (badTick s) := by
  unfold badTick
  split
  · exact .quiet (.ring s _)
  · exact .quiet (.ring s _)
  · split
    · exact loseLink_moves s
    · exact QuietRun.moves ((run_ring s _).trans (gapTick_run _))

theorem loseRadio_run (s : State) : QuietRun s (loseRadio s) := run_radio _ _

theorem longLossEffects_run (s : State) : QuietRun s (longLossEffects s) := by
  have hpoints (t : State) : QuietRun t (startPoints t) := run_gain_points fun i => by cases i <;> rfl
  have hbanks (t : State) : QuietRun t (completeActivations deferNotice t) :=
    completeActivations_run deferNotice_run deferNotice_movesMsg (fun d s => (deferNotice_frame d s).2.2.2.1) t
  have hcall := (((silenceAll_run s).trans (hpoints _)).trans (hbanks _)).trans (loseCall_run _)
  exact ((hcall.trans (endSwitchFade_run deferNotice_run _)).trans (loseRadio_run _)).trans (resolveBeams_run _)

theorem longLoss_run (s : State) : QuietRun s (longLoss s) :=
  .ite (fun _ => (run_ring s _).trans (longLossEffects_run _)) fun _ => .refl

/-! ## Every command -/

/-- An event command is its effect where it is due. -/
theorem eventStep_run {due : Bool} {effect : State → State} {s : State}
    (h : s.running = true → due = true → QuietRun s (effect s)) : QuietRun s (eventStep due effect s) := by
  unfold eventStep
  refine .ite (fun hd => ?_) fun _ => .refl
  obtain ⟨hactive, hdue⟩ := Bool.and_eq_true_iff.mp hd
  exact (h (Bool.and_eq_true_iff.mp hactive).2 hdue).trans (takePath_run _)

theorem moveTier_run (c : Fin 28) (t : TierNo) (s : State) : QuietRun s (moveTier c t s) := by
  cases t <;> exact moveProtection_run c _ _ _ s

/-- Every command answers a next state, which a run of moves has reached. -/
theorem exec_moves (c : Instr) (s : State) : ∃ t, exec c s = .next t ∧ Moves s t := by
  have hrow (k : RequestKind) (r : Request) :
      Moves s (requestStep (requestCode k) (judge k (handlerOf k)) r s) := requestStep_moves (judge_run k) r s
  have hevent {due : Bool} {effect : State → State} (h : s.running = true → due = true → QuietRun s (effect s)) :
      Moves s (eventStep due effect s) := (eventStep_run h).moves
  cases c with
  | resetPin => exact ⟨_, rfl, .pin s⟩
  | goodFrame f => exact ⟨_, rfl, goodFrame_moves f s⟩
  | badFrame raw => exact ⟨_, rfl, (QuietRun.moves ((run_ring s _).trans (run_ring _ _))).trans (badTick_moves _)⟩
  | missingFrame =>
    refine ⟨_, rfl, ?_⟩
    unfold missingFrame
    split
    · exact (run_ring s _).moves.trans (badTick_moves _)
    · exact .refl s
  | linkAcquired f =>
    refine ⟨_, rfl, ?_⟩
    split
    · exact (run_ring s _).moves.trans (acquireLink_moves f _)
    · exact .refl s
  | enterLost raw =>
    refine ⟨_, rfl, ?_⟩
    split
    · split <;> exact (run_ring s _).moves.trans (loseLink_moves _)
    · exact .refl s
  | relink f =>
    refine ⟨_, rfl, ?_⟩
    split
    · exact (run_ring s _).moves.trans (relinkFrame_moves f _)
    · exact .refl s
  | longLoss => exact ⟨_, rfl, (longLoss_run s).moves⟩
  | messageGapTimeout =>
    refine ⟨_, rfl, ?_⟩
    split
    · exact (gapTick_run s).moves
    · exact .refl s
  | badKindRequest kind r => exact ⟨_, rfl, requestStep_moves (answerCode_run kind) r s⟩
  | state r => exact ⟨_, rfl, hrow .state r⟩
  | start r => exact ⟨_, rfl, hrow .start r⟩
  | stop r => exact ⟨_, rfl, hrow .stop r⟩
  | reset r => exact ⟨_, rfl, hrow .reset r⟩
  | resetTakesEffect => exact ⟨_, rfl, settleReset_moves s⟩
  | patternEnter r => exact ⟨_, rfl, hrow .patternEnter r⟩
  | patternExit r => exact ⟨_, rfl, hrow .patternExit r⟩
  | tableOpen r => exact ⟨_, rfl, hrow .tableOpen r⟩
  | tableWrite r => exact ⟨_, rfl, hrow .tableWrite r⟩
  | tableClose r => exact ⟨_, rfl, hrow .tableClose r⟩
  | tableRead r => exact ⟨_, rfl, hrow .tableRead r⟩
  | routeSet r => exact ⟨_, rfl, hrow .routeSet r⟩
  | zoneSet r => exact ⟨_, rfl, hrow .zoneSet r⟩
  | zoneMute r => exact ⟨_, rfl, hrow .zoneMute r⟩
  | zoneLock r => exact ⟨_, rfl, hrow .zoneLock r⟩
  | zoneSource r => exact ⟨_, rfl, hrow .zoneSource r⟩
  | claimHeld z => exact ⟨_, rfl, hevent fun _ hdue => claimBecomesHeld_run (releasingOf_none_of_heldDue hdue)⟩
  | claimNone z => exact ⟨_, rfl, hevent fun _ _ => claimReachesNone_run z s⟩
  | bankActivate r => exact ⟨_, rfl, hrow .bankActivate r⟩
  | activationQueueServed => exact ⟨_, rfl, hevent fun _ _ => serveQueue_run s⟩
  | bankFadeEnd u => exact ⟨_, rfl, hevent fun _ _ => (endFade_run u s).trans (serveQueue_run _)⟩
  | protectClear r => exact ⟨_, rfl, hrow .protectClear r⟩
  | radioMode r => exact ⟨_, rfl, hrow .radioMode r⟩
  | radioTune r => exact ⟨_, rfl, hrow .radioTune r⟩
  | callAlert r => exact ⟨_, rfl, hrow .callAlert r⟩
  | callConnect r => exact ⟨_, rfl, hrow .callConnect r⟩
  | callHold r => exact ⟨_, rfl, hrow .callHold r⟩
  | callResume r => exact ⟨_, rfl, hrow .callResume r⟩
  | callMove r => exact ⟨_, rfl, hrow .callMove r⟩
  | callEnd r => exact ⟨_, rfl, hrow .callEnd r⟩
  | closingEnds => exact ⟨_, rfl, hevent fun _ _ => closeCall_run s⟩
  | stoppingReachesConfig => exact ⟨_, rfl, hevent fun _ _ => reachConfig_run s⟩
  | noticeEntersQueue =>
    refine ⟨_, rfl, ?_⟩
    split
    · exact .enter (.refl s) (QuietRun.brief .refl)
    · exact .refl s
  | messageWordSent =>
    refine ⟨_, rfl, ?_⟩
    split
    · exact sendWord_moves s
    · exact .refl s
  | gainRampEnd p => exact ⟨_, rfl, hevent fun hrun _ => run_gain (.advance p hrun)⟩
  | tierTrip c t => exact ⟨_, rfl, hevent fun _ _ => moveTier_run c t s⟩
  | tierRecovered c t => exact ⟨_, rfl, hevent fun _ _ => moveTier_run c t s⟩
  | fastHoldExpiry c => exact ⟨_, rfl, hevent fun _ _ => moveProtection_run c _ _ _ s⟩
  | dwellExpiry | pairReplacement => exact ⟨_, rfl, hevent fun _ _ => run_ant s _⟩
  | switchCrossfadeEnd => exact ⟨_, rfl, hevent fun _ _ => endSwitchFade_run postNotice_run s⟩
  | pilotChange => exact ⟨_, rfl, hevent fun _ _ => run_radio s _⟩
  | tuneSettleEnd => exact ⟨_, rfl, hevent fun _ _ => (run_radio s _).trans (evaluateReception_run _ _)⟩
  | receptionPoor | receptionRecovered => exact ⟨_, rfl, hevent fun _ _ => moveRadio_run _ s⟩
  | beamCrossfadeEnd => exact ⟨_, rfl, hevent fun _ _ => endBeamFade_run s⟩
  | nearRelaxExpiry | farRelaxExpiry => exact ⟨_, rfl, hevent fun _ _ => run_uplink s _⟩
  | echoConverged | echoDiverged => exact ⟨_, rfl, hevent fun _ _ => echoMove_run s⟩

/-! ## Invariants -/

/-- A predicate that every move keeps is kept by every command. -/
theorem Moves.keeps {P : State → Prop} (hquiet : ∀ s t, Quiet s t → P s → P t)
    (hreply : ∀ s m, s.msg.queue.length < 4 → P s → P (enqueue m s))
    (hword : ∀ s, P s → P (s.setMsg s.msg.wordSent)) (hunsent : ∀ s, P s → P (s.setMsg { s.msg with sent := 0 }))
    (hreset : ∀ s, P s → P (resetPart s)) (hpin : ∀ s, P s → P (resetByPin s))
    (henter : ∀ t v, Brief t v → P t → P v → P (enterNotice t.msg.queue.isEmpty v)) {s t : State} (h : Moves s t) :
    P s → P t := by
  induction h with
  | refl => exact id
  | trans _ _ ih1 ih2 => exact ih2 ∘ ih1
  | quiet h => exact hquiet _ _ h
  | reply s m h => exact hreply s m h
  | word s => exact hword s
  | unsent s => exact hunsent s
  | reset s => exact hreset s
  | pin s => exact hpin s
  | enter _ hb ih => exact fun hp => henter _ _ hb hp (ih hp)

/-- A step runs the command at the front of the queue on the state with the queue's rest. -/
theorem step_eq_exec {s : State} {c : Instr} {rest : List Instr} (h : s.pending = c :: rest) :
    step s = exec c (s.setPending rest) := by
  unfold step
  rw [h]

theorem step_eq_idle {s : State} (h : s.pending = []) : step s = .next s := by
  unfold step
  rw [h]

/-- A predicate that commands keep and that does not look at the waiting commands is kept by every step. -/
theorem step_keeps {P : State → Prop} (hp : ∀ s q, P s → P (s.setPending q))
    (hm : ∀ s t, Moves s t → P s → P t) {s t : State} (hs : P s) (h : step s = .next t) : P t := by
  cases hq : s.pending with
  | nil =>
    rw [step_eq_idle hq] at h
    cases h
    exact hs
  | cons c rest =>
    rw [step_eq_exec hq] at h
    obtain ⟨u, hu, hmoves⟩ := exec_moves c (s.setPending rest)
    rw [hu] at h
    cases h
    exact hm _ _ hmoves (hp s rest hs)

/-- Settles O1: by the two cases of the command queue. -/
theorem stepRunsFront : Obligations.StepRunsFront :=
  ⟨fun _ _ _ h => step_eq_exec h, fun _ h => step_eq_idle h⟩

/-- Settles O2: every command is a run of moves, and no move touches the waiting commands. -/
theorem commandsLeaveQueue : Obligations.CommandsLeaveQueue := by
  intro c s
  obtain ⟨t, ht, hmoves⟩ := exec_moves c s
  refine ⟨t, ht, ?_⟩
  refine hmoves.keeps (P := fun u => u.pending = s.pending) (fun _ _ h hp => h.sending.2.2.trans hp)
    (fun _ _ _ hp => hp) (fun _ hp => hp) (fun _ hp => hp) (fun _ hp => hp) (fun _ hp => hp) (fun t v _ _ hp => ?_) rfl
  simpa using hp

end Sys2Proof.Machine

/-! The message unit's bounds and the claim list (spec 02 and 03): each move of the units keeps them, so every step
does. -/

namespace Sys2Proof.Machine

/-! ## Posting a notice (R30) -/

/-- Absorbing an occurrence of its own kind leaves a notice its kind. -/
theorem Notice.absorb_kind {n : Notice} {d : NoticeDetail} (h : n.detail.kind = d.kind) :
    (n.absorb d).detail.kind = n.detail.kind := h.symm

theorem postTo_of_absent {set : List Notice} {d : NoticeDetail} (h : ∀ n ∈ set, n.detail.kind ≠ d.kind) :
    postTo set d = set ++ [⟨d, 1, d.changed⟩] := by
  unfold postTo
  rw [if_neg]
  simpa using h

theorem postTo_of_present {set : List Notice} {d : NoticeDetail} (h : ∃ n ∈ set, n.detail.kind = d.kind) :
    postTo set d = set.map fun n => if n.detail.kind = d.kind then n.absorb d else n := by
  unfold postTo
  rw [if_pos]
  · simp
  · simpa using h

/-- The kinds pending after an occurrence: those before it, and its own behind them when it was not among them. -/
theorem postTo_kinds (set : List Notice) (d : NoticeDetail) :
    (postTo set d).map (fun n => n.detail.kind) =
      if d.kind ∈ set.map fun n => n.detail.kind then set.map fun n => n.detail.kind
      else (set.map fun n => n.detail.kind) ++ [d.kind] := by
  by_cases h : ∃ n ∈ set, n.detail.kind = d.kind
  · rw [postTo_of_present h, if_pos (by simpa using h), List.map_map]
    refine List.map_congr_left fun n _ => ?_
    simp only [Function.comp_apply]
    split
    · next hk => exact Notice.absorb_kind hk
    · rfl
  · have habsent : ∀ n ∈ set, n.detail.kind ≠ d.kind := fun n hn hk => h ⟨n, hn, hk⟩
    rw [postTo_of_absent habsent, if_neg (by simpa using habsent)]
    simp

theorem postTo_nodup {set : List Notice} (d : NoticeDetail) (h : (set.map fun n => n.detail.kind).Nodup) :
    ((postTo set d).map fun n => n.detail.kind).Nodup := by
  rw [postTo_kinds]
  split
  · exact h
  · next hd =>
    exact List.nodup_append.mpr ⟨h, List.nodup_singleton _, fun a ha b hb hab =>
      hd ((hab.trans (List.mem_singleton.mp hb)) ▸ ha)⟩

/-- Occurrence counts stay in 1..255. -/
theorem postTo_counts {set : List Notice} (d : NoticeDetail) (h : ∀ n ∈ set, 1 ≤ n.count ∧ n.count ≤ 255) :
    ∀ n ∈ postTo set d, 1 ≤ n.count ∧ n.count ≤ 255 := by
  by_cases hd : ∃ n ∈ set, n.detail.kind = d.kind
  · rw [postTo_of_present hd]
    intro n hn
    obtain ⟨m, hm, rfl⟩ := List.mem_map.mp hn
    obtain ⟨hlow, hhigh⟩ := h m hm
    split
    · simp only [Notice.absorb]
      omega
    · exact ⟨hlow, hhigh⟩
  · rw [postTo_of_absent fun n hn hk => hd ⟨n, hn, hk⟩]
    intro n hn
    rcases List.mem_append.mp hn with hn | hn
    · exact h n hn
    · rw [List.mem_singleton.mp hn]
      exact ⟨le_rfl, by norm_num⟩

/-! ## The message unit (R21 to R23, R28 to R30) -/

theorem incSat_le (n : Nat) : incSat n ≤ 65535 := Nat.min_le_left _ _

/-- The bounds look at the message unit alone. -/
theorem MessageInv.of_msg {s t : State} (h : MessageInv s) (hm : t.msg = s.msg) : MessageInv t := by
  unfold MessageInv at h ⊢
  rw [hm]
  exact h

theorem messageInv_reset : MessageInv State.reset := by
  refine ⟨Nat.zero_le _, rfl, trivial, ?_, ?_, ?_, List.nodup_nil, fun n hn => nomatch hn⟩ <;> exact Nat.zero_le _

/-- A queue that a message joins goes on being sent as before; an empty one begins at its HEAD word. -/
theorem sentFits_append {u : MessageUnit} (h : sentFits u) (m : OutMessage) :
    sentFits { u with queue := u.queue ++ [m] } := by
  unfold sentFits at h ⊢
  cases hq : u.queue with
  | nil =>
    rw [hq] at h
    exact h.le.trans (Nat.zero_le _)
  | cons m' rest =>
    rw [hq] at h
    exact h

/-- Nothing sent fits any queue. -/
theorem sentFits_of_unsent {u : MessageUnit} (h : u.sent = 0) : sentFits u := by
  unfold sentFits
  split
  · exact h
  · rw [h]
    exact Nat.zero_le _

theorem MsgMove.messageInv {s : State} {x : MessageUnit} (hm : MsgMove s x) (h : MessageInv s) :
    MessageInv (s.setMsg x) := by
  obtain ⟨hqueue, hsent, hassembly, hbroken, hcheck, hdropped, hkinds, hcounts⟩ := h
  cases hm with
  | post d =>
    exact ⟨hqueue, hsent, hassembly, hbroken, hcheck, hdropped, postTo_nodup d hkinds, postTo_counts d hcounts⟩
  | defer | op | phase => exact ⟨hqueue, hsent, hassembly, hbroken, hcheck, hdropped, hkinds, hcounts⟩
  | assembly a ha => exact ⟨hqueue, hsent, ha hassembly, hbroken, hcheck, hdropped, hkinds, hcounts⟩
  | broken => exact ⟨hqueue, hsent, hassembly, incSat_le _, hcheck, hdropped, hkinds, hcounts⟩
  | checkFailed => exact ⟨hqueue, hsent, hassembly, hbroken, incSat_le _, hdropped, hkinds, hcounts⟩
  | dropped => exact ⟨hqueue, hsent, hassembly, hbroken, hcheck, incSat_le _, hkinds, hcounts⟩

theorem Quiet.messageInv {s t : State} (hq : Quiet s t) (h : MessageInv s) : MessageInv t := by
  cases hq with
  | msg hm => exact hm.messageInv h
  | ring | prot | ant | radio | call | uplink | drawn | gain | mix | chan => exact h.of_msg rfl
  | cursor | closeCoef | openCoef | moveCoef => exact h

theorem enqueue_messageInv {s : State} (m : OutMessage) (hroom : s.msg.queue.length < 4) (h : MessageInv s) :
    MessageInv (enqueue m s) := by
  obtain ⟨-, hsent, hrest⟩ := h
  refine ⟨?_, sentFits_append hsent m, hrest⟩
  simp only [enqueue, State.setMsg_msg, List.length_append, List.length_singleton]
  omega

theorem wordSent_messageInv {s : State} (h : MessageInv s) : MessageInv (s.setMsg s.msg.wordSent) := by
  unfold MessageUnit.wordSent
  cases hq : s.msg.queue with
  | nil => exact h
  | cons m rest =>
    obtain ⟨hqueue, hsent, hassembly, hcounters⟩ := h
    dsimp only
    split
    · next hmore =>
      rw [hq] at hqueue
      refine ⟨hqueue, ?_, hassembly, hcounters⟩
      simp only [sentFits, State.setMsg_msg]
      omega
    · refine ⟨?_, sentFits_of_unsent rfl, hassembly, hcounters⟩
      rw [hq, List.length_cons] at hqueue
      simp only [State.setMsg_msg]
      omega

/-- The notice that enters a queue: it finds room, and it goes in front only where nothing has been sent. -/
theorem enterNotice_messageInv {t v : State} (hb : Brief t v) (ht : MessageInv t) (hv : MessageInv v) :
    MessageInv (enterNotice t.msg.queue.isEmpty v) := by
  unfold enterNotice
  split
  · exact hv
  · next hempty =>
    simp only [Bool.or_eq_true, Bool.not_eq_true', not_or, Bool.not_eq_false, List.isEmpty_iff] at hempty
    have hsent : v.msg.sent = 0 := by
      have hfits := ht.2.1
      rw [sentFits, hempty.1] at hfits
      exact hb.2.elim (fun h => h.trans hfits) id
    have hlength : v.msg.queue.length < 4 := by
      have hle := hb.1
      rw [hempty.1, List.length_nil] at hle
      omega
    obtain ⟨hqueue, -, hassembly, hbroken, hcheck, hdropped, hkinds, hcounts⟩ := hv
    unfold oldestNotice
    cases hn : v.msg.notices with
    | nil => exact ⟨hqueue, sentFits_of_unsent hsent, hassembly, hbroken, hcheck, hdropped, hkinds, hcounts⟩
    | cons n rest =>
      rw [hn] at hkinds hcounts
      have hleft : MessageInv (v.setMsg { v.msg with notices := rest, noticeSeq := v.msg.noticeSeq + 1 }) :=
        ⟨hqueue, sentFits_of_unsent hsent, hassembly, hbroken, hcheck, hdropped, (List.nodup_cons.mp hkinds).2,
          fun x hx => hcounts x (List.mem_cons_of_mem n hx)⟩
      dsimp only
      split
      · exact enqueue_messageInv _ hlength hleft
      · split
        · obtain ⟨-, -, hrest⟩ := hleft
          refine ⟨?_, sentFits_of_unsent hsent, hrest⟩
          simp only [State.setMsg_msg, State.drawn_msg, List.length_cons]
          omega
        · exact enqueue_messageInv _ hlength hleft

theorem Moves.messageInv {s t : State} (hm : Moves s t) (h : MessageInv s) : MessageInv t :=
  hm.keeps (fun _ _ hq => hq.messageInv) (fun _ m hroom => enqueue_messageInv m hroom) (fun _ => wordSent_messageInv)
    (fun _ ⟨hqueue, _, hrest⟩ => ⟨hqueue, sentFits_of_unsent rfl, hrest⟩) (fun _ _ => messageInv_reset.of_msg rfl)
    (fun _ _ => messageInv_reset.of_msg rfl) (fun _ _ => enterNotice_messageInv) h

/-- Settles O56: every move keeps the bounds; a notice that enters in front of a reply finds a queue of which nothing has
been sent, since it was empty when the frame's word was written. -/
theorem messageInvKept : Obligations.MessageInvKept :=
  fun _ _ hs h => step_keeps (fun _ _ hs => hs.of_msg rfl) (fun _ _ => Moves.messageInv) hs h

/-! ## The claim list (R58) -/

/-- The claim list's rules, of a list. -/
def ClaimsSound (l : List Claim) : Prop :=
  (∀ z : Fin 2, claimCount l (fun c => c.zone == z && c.state != .releasing) ≤ 1) ∧
  (∀ z : Fin 2, claimCount l (fun c => c.zone == z && c.state == .releasing) ≤ 1) ∧
  (∀ z : Fin 2, claimCount l (fun c => c.zone == z && c.state != .pending) ≤ 1) ∧
  (∀ x ∈ l, ∀ y ∈ l, x.state ≠ .releasing → y.state ≠ .releasing → x.source = y.source → x.zone = y.zone) ∧
  ∀ c ∈ l, c.source.claimable = true

theorem claimInv_iff (s : State) : ClaimInv s ↔ ClaimsSound s.mix.claims := Iff.rfl

theorem claimCount_filter_le (l : List Claim) (p q : Claim → Bool) : claimCount (l.filter q) p ≤ claimCount l p :=
  (List.filter_sublist.filter p).length_le

theorem claimCount_map (l : List Claim) (f : Claim → Claim) (p : Claim → Bool) :
    claimCount (l.map f) p = claimCount l (p ∘ f) := by
  simp [claimCount, List.filter_map]

theorem claimCount_append (l m : List Claim) (p : Claim → Bool) :
    claimCount (l ++ m) p = claimCount l p + claimCount m p := by
  simp [claimCount]

theorem claimCount_mono {l : List Claim} {p q : Claim → Bool} (h : ∀ c ∈ l, p c = true → q c = true) :
    claimCount l p ≤ claimCount l q := by
  unfold claimCount
  rw [← List.countP_eq_length_filter, ← List.countP_eq_length_filter]
  exact List.countP_mono_left h

theorem claimCount_eq_zero {l : List Claim} {p : Claim → Bool} (h : ∀ c ∈ l, p c = false) : claimCount l p = 0 := by
  unfold claimCount
  rw [List.filter_eq_nil_iff.mpr fun c hc => by simp [h c hc], List.length_nil]

theorem ClaimsSound.filter {l : List Claim} (h : ClaimsSound l) (q : Claim → Bool) : ClaimsSound (l.filter q) := by
  obtain ⟨hown, hreleasing, hbeside, hsources, hclaimable⟩ := h
  have hmem {c : Claim} (hc : c ∈ l.filter q) : c ∈ l := List.mem_of_mem_filter hc
  exact ⟨fun z => (claimCount_filter_le l _ q).trans (hown z), fun z => (claimCount_filter_le l _ q).trans (hreleasing z),
    fun z => (claimCount_filter_le l _ q).trans (hbeside z), fun x hx y hy => hsources x (hmem hx) y (hmem hy),
    fun c hc => hclaimable c (hmem hc)⟩

/-- A HELD claim of a seat becomes RELEASING. -/
def Claim.released (z : Fin 2) (x : Claim) : Claim :=
  if x.zone = z ∧ x.state = .held then { x with state := .releasing } else x

/-- A PENDING claim of a seat becomes HELD. -/
def Claim.holding (z : Fin 2) (x : Claim) : Claim :=
  if x.zone = z ∧ x.state = .pending then { x with state := .held } else x

theorem Claim.released_zone (z : Fin 2) (x : Claim) : (x.released z).zone = x.zone := by
  unfold Claim.released
  split <;> rfl

theorem Claim.released_source (z : Fin 2) (x : Claim) : (x.released z).source = x.source := by
  unfold Claim.released
  split <;> rfl

theorem Claim.released_pending_iff (z : Fin 2) (x : Claim) : (x.released z).state = .pending ↔ x.state = .pending := by
  unfold Claim.released
  split
  · next h => simp [h.2]
  · rfl

/-- A release ends no RELEASING claim. -/
theorem Claim.state_ne_of_released {z : Fin 2} {x : Claim} (h : (x.released z).state ≠ .releasing) :
    x.state ≠ .releasing := by
  unfold Claim.released at h
  split at h
  · exact absurd rfl h
  · exact h

theorem Claim.holding_zone (z : Fin 2) (x : Claim) : (x.holding z).zone = x.zone := by
  unfold Claim.holding
  split <;> rfl

theorem Claim.holding_source (z : Fin 2) (x : Claim) : (x.holding z).source = x.source := by
  unfold Claim.holding
  split <;> rfl

theorem Claim.holding_releasing_iff (z : Fin 2) (x : Claim) :
    (x.holding z).state = .releasing ↔ x.state = .releasing := by
  unfold Claim.holding
  split
  · next h => simp [h.2]
  · rfl

/-- A release keeps the rules: a seat's RELEASING claims are then among those that were not PENDING. -/
theorem ClaimsSound.release {l : List Claim} (h : ClaimsSound l) (z : Fin 2) :
    ClaimsSound (l.map (Claim.released z)) := by
  obtain ⟨hown, hreleasing, hbeside, hsources, hclaimable⟩ := h
  refine ⟨fun a => ?_, fun a => ?_, fun a => ?_, ?_, ?_⟩
  · rw [claimCount_map]
    refine (claimCount_mono fun c _ hc => ?_).trans (hown a)
    simp only [Function.comp_apply, Claim.released_zone, Bool.and_eq_true, bne_iff_ne] at hc ⊢
    exact ⟨hc.1, Claim.state_ne_of_released hc.2⟩
  · rw [claimCount_map]
    refine (claimCount_mono fun c _ hc => ?_).trans (hbeside a)
    simp only [Function.comp_apply, Claim.released_zone, Bool.and_eq_true, bne_iff_ne, beq_iff_eq] at hc ⊢
    refine ⟨hc.1, fun hp => ?_⟩
    have hstate := (Claim.released_pending_iff z c).mpr hp
    rw [hc.2] at hstate
    cases hstate
  · rw [claimCount_map]
    refine (claimCount_mono fun c _ hc => ?_).trans (hbeside a)
    simp only [Function.comp_apply, Claim.released_zone, Bool.and_eq_true, bne_iff_ne] at hc ⊢
    exact ⟨hc.1, fun hp => hc.2 ((Claim.released_pending_iff z c).mpr hp)⟩
  · simp only [List.mem_map]
    rintro _ ⟨x, hx, rfl⟩ _ ⟨y, hy, rfl⟩ hxs hys hsource
    simp only [Claim.released_source, Claim.released_zone] at hsource ⊢
    exact hsources x hx y hy (Claim.state_ne_of_released hxs) (Claim.state_ne_of_released hys) hsource
  · simp only [List.mem_map]
    rintro _ ⟨x, hx, rfl⟩
    rw [Claim.released_source]
    exact hclaimable x hx

/-- A claim becomes HELD on a seat with no RELEASING one: the seat's claims are then all PENDING or HELD, so that there is
one at most. -/
theorem ClaimsSound.hold {l : List Claim} (h : ClaimsSound l) {z : Fin 2}
    (hfree : ∀ c ∈ l, c.zone = z → c.state ≠ .releasing) : ClaimsSound (l.map (Claim.holding z)) := by
  obtain ⟨hown, hreleasing, hbeside, hsources, hclaimable⟩ := h
  refine ⟨fun a => ?_, fun a => ?_, fun a => ?_, ?_, ?_⟩
  · rw [claimCount_map]
    refine (claimCount_mono fun c _ hc => ?_).trans (hown a)
    simpa [Claim.holding_zone, Claim.holding_releasing_iff] using hc
  · rw [claimCount_map]
    refine (claimCount_mono fun c _ hc => ?_).trans (hreleasing a)
    simpa [Claim.holding_zone, Claim.holding_releasing_iff] using hc
  · rw [claimCount_map]
    by_cases ha : a = z
    · subst ha
      refine (claimCount_mono fun c hcl hc => ?_).trans (hown a)
      simp only [Function.comp_apply, Claim.holding_zone, Bool.and_eq_true, beq_iff_eq, bne_iff_ne] at hc ⊢
      exact ⟨hc.1, hfree c hcl hc.1⟩
    · refine (claimCount_mono fun c _ hc => ?_).trans (hbeside a)
      simp only [Function.comp_apply, Claim.holding_zone, Bool.and_eq_true, beq_iff_eq, bne_iff_ne] at hc ⊢
      obtain ⟨hz, hp⟩ := hc
      have hother : ¬ (c.zone = z ∧ c.state = .pending) := fun hc => ha (hz.symm.trans hc.1)
      rw [Claim.holding, if_neg hother] at hp
      exact ⟨hz, hp⟩
  · simp only [List.mem_map]
    rintro _ ⟨x, hx, rfl⟩ _ ⟨y, hy, rfl⟩ hxs hys hsource
    simp only [Claim.holding_source, Claim.holding_zone] at hsource ⊢
    exact hsources x hx y hy (fun hr => hxs ((Claim.holding_releasing_iff z x).mpr hr))
      (fun hr => hys ((Claim.holding_releasing_iff z y).mpr hr)) hsource
  · simp only [List.mem_map]
    rintro _ ⟨x, hx, rfl⟩
    rw [Claim.holding_source]
    exact hclaimable x hx

/-- A PENDING claim joins a list in which its seat has none but RELEASING claims and the other seat does not hold its
source. -/
theorem ClaimsSound.append {l : List Claim} (h : ClaimsSound l) {z : Fin 2} {x : Source} (hx : x.claimable = true)
    (hseat : ∀ c ∈ l, c.zone = z → c.state = .releasing)
    (hother : ∀ c ∈ l, c.state ≠ .releasing → c.source = x → c.zone = z) : ClaimsSound (l ++ [⟨z, x, .pending⟩]) := by
  obtain ⟨hown, hreleasing, hbeside, hsources, hclaimable⟩ := h
  have hnone : claimCount l (fun c => c.zone == z && c.state != .releasing) = 0 :=
    claimCount_eq_zero fun c hc => by
      cases hz : c.zone == z with
      | false => rfl
      | true => simp [hseat c hc (beq_iff_eq.mp hz)]
  refine ⟨fun a => ?_, fun a => ?_, fun a => ?_, ?_, ?_⟩
  · rw [claimCount_append]
    by_cases ha : z = a
    · subst ha
      rw [hnone]
      simp [claimCount]
    · simpa [claimCount, ha] using hown a
  · rw [claimCount_append]
    simpa [claimCount] using hreleasing a
  · rw [claimCount_append]
    simpa [claimCount] using hbeside a
  · intro a ha b hb has hbs hsource
    simp only [List.mem_append, List.mem_singleton] at ha hb
    rcases ha with ha | rfl <;> rcases hb with hb | rfl
    · exact hsources a ha b hb has hbs hsource
    · exact hother a ha has hsource
    · exact (hother b hb hbs hsource.symm).symm
    · rfl
  · intro c hc
    rcases List.mem_append.mp hc with hc | hc
    · exact hclaimable c hc
    · rw [List.mem_singleton.mp hc]
      exact hx

/-- Two claims that a list counts at most once are the same. -/
theorem eq_of_claimCount_le {l : List Claim} {p : Claim → Bool} (h : claimCount l p ≤ 1) {x y : Claim} (hx : x ∈ l)
    (hy : y ∈ l) (hpx : p x = true) (hpy : p y = true) : x = y := by
  have hxf : x ∈ l.filter p := List.mem_filter.mpr ⟨hx, hpx⟩
  have hyf : y ∈ l.filter p := List.mem_filter.mpr ⟨hy, hpy⟩
  obtain hnil | ⟨a, ha⟩ : l.filter p = [] ∨ ∃ a, l.filter p = [a] := by
    unfold claimCount at h
    match hl : l.filter p with
    | [] => exact .inl rfl
    | [a] => exact .inr ⟨a, rfl⟩
    | a :: b :: r => rw [hl] at h; simp at h
  · rw [hnil] at hxf
    cases hxf
  · rw [ha] at hxf hyf
    rw [List.mem_singleton.mp hxf, List.mem_singleton.mp hyf]

/-- What a seat's cleared claims are: sound, the seat's all RELEASING, and no claim anew. -/
theorem clearedClaims_spec {m : MixUnit} (h : ClaimsSound m.claims) (z : Fin 2) :
    ClaimsSound (clearedClaims m z) ∧ (∀ c ∈ clearedClaims m z, c.zone = z → c.state = .releasing) ∧
      ∀ c ∈ clearedClaims m z, c.state ≠ .releasing → c ∈ m.claims ∧ c.zone ≠ z := by
  have hsplit {l : List Claim} (hseat : ∀ c ∈ l, c.zone = z → c.state = .releasing)
      (hmem : ∀ c ∈ l, c.state ≠ .releasing → c ∈ m.claims) :
      (∀ c ∈ l, c.zone = z → c.state = .releasing) ∧
        ∀ c ∈ l, c.state ≠ .releasing → c ∈ m.claims ∧ c.zone ≠ z :=
    ⟨hseat, fun c hc hr => ⟨hmem c hc hr, fun hz => hr (hseat c hc hz)⟩⟩
  unfold clearedClaims
  cases hc : claimOf m z with
  | none =>
    simp only [claimOf, List.find?_eq_none, Bool.and_eq_true, beq_iff_eq, bne_iff_ne, not_and, not_not] at hc
    exact ⟨h, hsplit hc fun c hc _ => hc⟩
  | some k =>
    have hk := List.find?_some hc
    have hkmem := List.mem_of_find?_eq_some hc
    have honly (c : Claim) (hcm : c ∈ m.claims) (hz : c.zone = z) (hr : c.state ≠ .releasing) : c = k :=
      eq_of_claimCount_le (h.1 z) hcm hkmem (by simp [hz, hr]) hk
    dsimp only
    split
    · next hp =>
      refine ⟨h.filter _, hsplit (fun c hcf hz => ?_) fun c hcf _ => List.mem_of_mem_filter hcf⟩
      obtain ⟨hcm, hkeep⟩ := List.mem_filter.mp hcf
      by_contra hr
      have hck := honly c hcm hz hr
      subst hck
      simp [hz, hp] at hkeep
    · next hp =>
      refine ⟨h.release z, hsplit (fun c hcf hz => ?_) fun c hcf hr => ?_⟩
      · obtain ⟨x, hx, rfl⟩ := List.mem_map.mp hcf
        by_contra hr
        have hxz : x.zone = z := (Claim.released_zone z x).symm.trans hz
        have hxk := honly x hx hxz (Claim.state_ne_of_released hr)
        have hheld : x.state = .held := by
          have hxr := Claim.state_ne_of_released hr
          cases hs : x.state with
          | held => rfl
          | pending => exact absurd (hxk ▸ hs) hp
          | releasing => exact absurd hs hxr
        exact hr (congrArg Claim.state (if_pos ⟨hxz, hheld⟩))
      · obtain ⟨x, hx, rfl⟩ := List.mem_map.mp hcf
        by_cases hxz : x.zone = z ∧ x.state = .held
        · exact absurd (congrArg Claim.state (if_pos hxz)) hr
        · have hsame : Claim.released z x = x := if_neg hxz
          exact (congrArg (· ∈ m.claims) hsame).mpr hx

/-- A seat that does not claim a source has no PENDING or HELD claim on it. -/
theorem claims_eq_false {m : MixUnit} (h : ClaimsSound m.claims) {z : Fin 2} {x : Source} (hf : claims m z x = false)
    {c : Claim} (hc : c ∈ m.claims) (hz : c.zone = z) (hr : c.state ≠ .releasing) : c.source ≠ x := by
  unfold claims at hf
  cases hk : claimOf m z with
  | none =>
    have hno := List.find?_eq_none.mp hk c hc
    simp [hz, hr] at hno
  | some k =>
    have hkp := List.find?_some hk
    have hck : c = k := eq_of_claimCount_le (h.1 z) hc (List.mem_of_find?_eq_some hk) (by simp [hz, hr]) hkp
    rw [hk] at hf
    subst hck
    simpa using hf

theorem eq_otherSeat_of_ne {a z : Fin 2} (h : a ≠ z) : a = otherSeat z := by
  revert a z
  decide

theorem MixMove.claimInv {s : State} {x : MixUnit} (hm : MixMove s x) (h : ClaimInv s) : ClaimInv (s.setMix x) := by
  rw [claimInv_iff] at h ⊢
  show ClaimsSound x.claims
  cases hm with
  | records hx => exact hx ▸ h
  | drop p hx => exact hx ▸ h.filter p
  | release z hx => exact hx ▸ h.release z
  | hold z hfree hx =>
    refine hx ▸ h.hold fun c hc hz hr => ?_
    have hno := List.find?_eq_none.mp hfree c hc
    simp [hz, hr] at hno
  | claim z y ho hy hx =>
    obtain ⟨hsound, hseat, hold⟩ := clearedClaims_spec h z
    refine hx ▸ hsound.append hy hseat fun c hc hr hsource => ?_
    obtain ⟨hcm, hcz⟩ := hold c hc hr
    exact absurd hsource (claims_eq_false h ho hcm (eq_otherSeat_of_ne hcz) hr)

theorem claimInv_reset : ClaimInv State.reset := by
  refine ⟨?_, ?_, ?_, fun x hx => absurd hx List.not_mem_nil, fun x hx => absurd hx List.not_mem_nil⟩ <;> decide

theorem Moves.claimInv {s t : State} (hm : Moves s t) (h : ClaimInv s) : ClaimInv t := by
  have henter (b : Bool) (v : State) (hv : ClaimInv v) : ClaimInv (enterNotice b v) := by
    rw [claimInv_iff, (enterNotice_frame b v).2.1]
    exact hv
  refine hm.keeps (fun s t hq hs => ?_) (fun _ _ _ hs => hs) (fun _ hs => hs) (fun _ hs => hs)
    (fun _ _ => claimInv_reset) (fun _ _ => claimInv_reset) (fun t v _ _ => henter t.msg.queue.isEmpty v) h
  cases hq with
  | mix hx => exact hx.claimInv hs
  | ring | prot | ant | radio | call | uplink | drawn | gain | chan | msg | cursor => exact hs
  | closeCoef | openCoef | moveCoef => exact hs

/-- Settles O57: of the moves only those of the mix unit touch the claims, and each keeps the rules of the list. -/
theorem claimInvKept : Obligations.ClaimInvKept :=
  fun _ _ hs h => step_keeps (fun _ _ hs => hs) (fun _ _ => Moves.claimInv) hs h

end Sys2Proof.Machine

/-! The banks of every channel, the activation queue, the crossfade units and the COEF cursor (spec 05 and 02 2.6): each
move of the units keeps them in agreement, so every step does. -/

namespace Sys2Proof.Machine

/-! ## The invariant in four parts -/

/-- Every live bank passes the stability test, and every spare that waits or fades (R98, R102). -/
def BanksStable (u : ChannelUnit) : Prop :=
  ∀ c : Fin 28, failingStage u.channels[c].live = none ∧
    (u.channels[c].spare = .queued ∨ u.channels[c].spare = .fading → failingStage u.channels[c].spareBank = none)

/-- The queue holds each QUEUED channel once and no other (R102). -/
def QueueSound (u : ChannelUnit) : Prop :=
  u.queue.Nodup ∧ ∀ c : Fin 28, c ∈ u.queue ↔ u.channels[c].spare = .queued

/-- A crossfade unit fades a channel (R103). -/
def Fades (u : ChannelUnit) (c : Fin 28) : Prop :=
  ∃ (n : Fin 4) (f : BankFade), u.fades[n] = some f ∧ f.channel = c

/-- The busy units hold each FADING channel once and no other (R103). -/
def FadesSound (u : ChannelUnit) : Prop :=
  (∀ m n : Fin 4, ∀ f g, u.fades[m] = some f → u.fades[n] = some g → f.channel = g.channel → m = n) ∧
  ∀ c : Fin 28, Fades u c ↔ u.channels[c].spare = .fading

/-- A COEF cursor stands in its channel, whose spare is OPEN, and no other spare is (R96). -/
def CursorSound (o : Option Cursor) (u : ChannelUnit) : Prop :=
  (∀ k, o = some k → k.table = .coef →
    u.channels[k.chan].spare = .open_ ∧ k.chan.val * 8 ≤ k.index ∧ k.index ≤ k.chan.val * 8 + 8) ∧
  ∀ c : Fin 28, u.channels[c].spare = .open_ → ∃ k, o = some k ∧ k.table = .coef ∧ k.chan = c

theorem bankInv_iff (s : State) :
    BankInv s ↔ BanksStable s.chan ∧ QueueSound s.chan ∧ FadesSound s.chan ∧ CursorSound s.msg.cursor s.chan := by
  unfold BankInv BanksStable QueueSound FadesSound CursorSound Fades
  constructor
  · rintro ⟨hlive, hspare, hnodup, hqueue, honce, hfades, hcursor⟩
    exact ⟨fun c => ⟨hlive c, hspare c⟩, ⟨hnodup, hqueue⟩, ⟨honce, hfades⟩, hcursor⟩
  · rintro ⟨hstable, ⟨hnodup, hqueue⟩, ⟨honce, hfades⟩, hcursor⟩
    exact ⟨fun c => (hstable c).1, fun c => (hstable c).2, hnodup, hqueue, honce, hfades, hcursor⟩

/-- The stability test looks at the stages alone. -/
theorem failingStage_congr {a b : Bank} (h : a.stages = b.stages) : failingStage a = failingStage b := by
  unfold failingStage
  rw [h]

@[simp] theorem failingStage_rested (b : Bank) : failingStage b.rested = failingStage b := rfl

theorem bankInv_reset : BankInv State.reset := by
  have hlive : ∀ c : Fin 28, failingStage ChannelUnit.reset.channels[c].live = none := by decide +kernel
  have hspare : ∀ c : Fin 28, ChannelUnit.reset.channels[c].spare = .loaded := by decide +kernel
  have hfades : ∀ n : Fin 4, ChannelUnit.reset.fades[n] = none := by decide +kernel
  have hnot {c : Fin 28} {x : SpareState} (hx : x ≠ .loaded) : State.reset.chan.channels[c].spare ≠ x :=
    fun h => hx (h.symm.trans (hspare c))
  refine (bankInv_iff _).mpr ⟨fun c => ⟨hlive c, ?_⟩, ⟨List.nodup_nil, fun c => ?_⟩, ⟨?_, fun c => ?_⟩, ?_, fun c h => ?_⟩
  · rintro (h | h)
    · exact absurd h (hnot (by decide))
    · exact absurd h (hnot (by decide))
  · exact ⟨fun h => absurd h List.not_mem_nil, fun h => absurd h (hnot (by decide))⟩
  · exact fun m n f g h => nomatch (hfades m).symm.trans h
  · exact ⟨fun ⟨n, f, h, _⟩ => (nomatch (hfades n).symm.trans h), fun h => absurd h (hnot (by decide))⟩
  · exact fun k h => nomatch h
  · exact absurd h (hnot (by decide))

/-! ## One channel replaced -/

theorem BanksStable.put {u : ChannelUnit} (h : BanksStable u) {c : Fin 28} {x : Channel}
    (hlive : failingStage x.live = none)
    (hspare : x.spare = .queued ∨ x.spare = .fading → failingStage x.spareBank = none) : BanksStable (u.put c x) := by
  intro d
  rw [ChannelUnit.put_channels]
  split
  · exact ⟨hlive, hspare⟩
  · exact h d

theorem QueueSound.put {u : ChannelUnit} (h : QueueSound u) {c : Fin 28} {x : Channel}
    (hx : x.spare = .queued ↔ u.channels[c].spare = .queued) : QueueSound (u.put c x) := by
  refine ⟨h.1, fun d => (h.2 d).trans ?_⟩
  rw [ChannelUnit.put_channels]
  split
  · next hd => rw [hd, hx]
  · rfl

theorem FadesSound.put {u : ChannelUnit} (h : FadesSound u) {c : Fin 28} {x : Channel}
    (hx : x.spare = .fading ↔ u.channels[c].spare = .fading) : FadesSound (u.put c x) := by
  refine ⟨h.1, fun d => (h.2 d).trans ?_⟩
  rw [ChannelUnit.put_channels]
  split
  · next hd => rw [hd, hx]
  · rfl

theorem CursorSound.put {o : Option Cursor} {u : ChannelUnit} (h : CursorSound o u) {c : Fin 28} {x : Channel}
    (hx : x.spare = .open_ ↔ u.channels[c].spare = .open_) : CursorSound o (u.put c x) := by
  have hsame (d : Fin 28) : (u.put c x).channels[d].spare = .open_ ↔ u.channels[d].spare = .open_ := by
    rw [ChannelUnit.put_channels]
    split
    · next hd => rw [hd, hx]
    · rfl
  exact ⟨fun k ho hk => ⟨(hsame k.chan).mpr (h.1 k ho hk).1, (h.1 k ho hk).2⟩, fun d hd => h.2 d ((hsame d).mp hd)⟩

theorem vector_set_fin {α : Type} {n : Nat} (v : Vector α n) (i j : Fin n) (x : α) :
    (v.set i x)[j] = if j = i then x else v[j] := by
  by_cases h : j = i
  · subst h
    simp
  · have hne : i.val ≠ j.val := fun e => h (Fin.ext e.symm)
    simp [h, hne]

/-! ## The moves of the channel unit -/

/-- A unit with the same coefficients, spare states, queue and channels in its crossfade units. -/
theorem bankInv_of_sameBanks {s : State} {x : ChannelUnit} (hx : SameBanks s.chan x) (h : BankInv s) :
    BankInv (s.setChan x) := by
  obtain ⟨hstable, ⟨hnodup, hqueue⟩, ⟨honce, hfades⟩, hcursor, hopen⟩ := (bankInv_iff s).mp h
  obtain ⟨hq, hf, hc⟩ := hx
  have hspare (c : Fin 28) : x.channels[c].spare = s.chan.channels[c].spare := (hc c).2.2
  have hof {n : Fin 4} {f : BankFade} (hn : x.fades[n] = some f) :
      ∃ g, s.chan.fades[n] = some g ∧ g.channel = f.channel := by
    have hmap := hf n
    rw [hn] at hmap
    simpa using hmap.symm
  have hto {n : Fin 4} {g : BankFade} (hn : s.chan.fades[n] = some g) :
      ∃ f, x.fades[n] = some f ∧ f.channel = g.channel := by
    have hmap := hf n
    rw [hn] at hmap
    simpa using hmap
  refine (bankInv_iff _).mpr ⟨fun c => ?_, ⟨?_, fun c => ?_⟩, ⟨?_, fun c => ?_⟩, fun k hk ht => ?_, fun c ho => ?_⟩
  · obtain ⟨hl, hs, -⟩ := hc c
    simp only [State.setChan_chan, failingStage_congr hl, failingStage_congr hs, hspare]
    exact hstable c
  · exact hq ▸ hnodup
  · simp only [State.setChan_chan, hq, hspare]
    exact hqueue c
  · intro m n f g hm hn he
    obtain ⟨f', hf', hfc⟩ := hof hm
    obtain ⟨g', hg', hgc⟩ := hof hn
    exact honce m n f' g' hf' hg' (hfc.trans (he.trans hgc.symm))
  · simp only [State.setChan_chan, hspare]
    refine Iff.trans ⟨?_, ?_⟩ (hfades c)
    · rintro ⟨n, f, hn, rfl⟩
      obtain ⟨g, hg, hgc⟩ := hof hn
      exact ⟨n, g, hg, hgc⟩
    · rintro ⟨n, g, hn, rfl⟩
      obtain ⟨f, hf, hfc⟩ := hto hn
      exact ⟨n, f, hf, hfc⟩
  · simp only [State.setChan_chan, hspare]
    exact hcursor k hk ht
  · simp only [State.setChan_chan, hspare] at ho
    exact hopen c ho

/-- A stage written at the cursor is one of its channel's spare, which is OPEN. -/
theorem bankInv_writeStage {s : State} {k : Cursor} {i : Nat} (ws : List Word) (hk : s.msg.cursor = some k)
    (ht : k.table = .coef) (hlow : k.index ≤ i) (hhigh : i < k.chan.val * 8 + 8) (h : BankInv s) :
    BankInv (writeStage (finWrap 27 (i / 8)) (finWrap 7 i) ws s) := by
  obtain ⟨hstable, hqueue, hfades, hcursor⟩ := (bankInv_iff s).mp h
  obtain ⟨hopen, hfrom, -⟩ := hcursor.1 k hk ht
  have hchan : finWrap 27 (i / 8) = k.chan := by
    apply Fin.ext
    have hlt := k.chan.isLt
    simp only [finWrap, Fin.val_ofNat]
    omega
  unfold writeStage
  rw [hchan]
  refine (bankInv_iff _).mpr ⟨hstable.put ?_ ?_, hqueue.put ?_, hfades.put ?_, hcursor.put ?_⟩ <;>
    simp only [Channel.setSpare_live, Channel.setSpare_spare]
  · exact (hstable k.chan).1
  · rw [hopen]
    simp

/-- A channel whose spare is not under way: its banks change places. -/
theorem bankInv_swap {s : State} {c : Fin 28} (hs : s.chan.channels[c].spare = .loaded)
    (hf : failingStage s.chan.channels[c].spareBank = none) (h : BankInv s) :
    BankInv (s.setChan (s.chan.put c s.chan.channels[c].swapNow)) := by
  obtain ⟨hstable, hqueue, hfades, hcursor⟩ := (bankInv_iff s).mp h
  refine (bankInv_iff _).mpr ⟨hstable.put ?_ ?_, hqueue.put ?_, hfades.put ?_, hcursor.put ?_⟩ <;>
    simp [-Fin.getElem_fin, hs, hf]

/-- A channel whose tested spare is LOADED joins the queue. -/
theorem bankInv_queue {s : State} {c : Fin 28} (hs : s.chan.channels[c].spare = .loaded)
    (hf : failingStage s.chan.channels[c].spareBank = none) (h : BankInv s) :
    BankInv (s.setChan
      { s.chan.put c { s.chan.channels[c] with spare := .queued } with queue := s.chan.queue ++ [c] }) := by
  obtain ⟨hstable, ⟨hnodup, hqueue⟩, hfades, hcursor⟩ := (bankInv_iff s).mp h
  have hout : c ∉ s.chan.queue := fun hc => by simp [-Fin.getElem_fin, (hqueue c).mp hc] at hs
  refine (bankInv_iff _).mpr ⟨hstable.put (hstable c).1 fun _ => hf, ⟨?_, fun d => ?_⟩,
    hfades.put (by simp [-Fin.getElem_fin, hs]), hcursor.put (by simp [-Fin.getElem_fin, hs])⟩
  · refine List.nodup_append.mpr ⟨hnodup, List.nodup_singleton c, fun a ha b hb hab => hout ?_⟩
    exact (hab.trans (List.mem_singleton.mp hb)) ▸ ha
  · simp only [State.setChan_chan, ChannelUnit.put_channels, List.mem_append, List.mem_singleton]
    split
    · next hd => simp [hd]
    · next hd => simp [-Fin.getElem_fin, hd, hqueue d]

/-- A free unit takes the oldest queued channel. -/
theorem bankInv_serve {s : State} {n : Fin 4} {c : Fin 28} {rest : List (Fin 28)} (hn : s.chan.fades[n] = none)
    (hq : s.chan.queue = c :: rest) (h : BankInv s) :
    BankInv (s.setChan
      { s.chan.put c { s.chan.channels[c].setSpare s.chan.channels[c].spareBank.rested with spare := .fading }
        with queue := rest, fades := s.chan.fades.set n (some ⟨c, 0⟩) }) := by
  obtain ⟨hstable, ⟨hnodup, hqueue⟩, ⟨honce, hfades⟩, hcursor⟩ := (bankInv_iff s).mp h
  rw [hq] at hnodup hqueue
  obtain ⟨hout, hrest⟩ := List.nodup_cons.mp hnodup
  have hqueued : s.chan.channels[c].spare = .queued := (hqueue c).mp List.mem_cons_self
  have hidle : ¬ Fades s.chan c := fun hf => by simp [-Fin.getElem_fin, (hfades c).mp hf] at hqueued
  refine (bankInv_iff _).mpr ⟨hstable.put ?_ fun _ => ?_, ⟨hrest, fun d => ?_⟩, ⟨?_, fun d => ?_⟩,
    hcursor.put (by simp [-Fin.getElem_fin, hqueued])⟩
  · rw [Channel.live_withSpare, Channel.setSpare_live]
    exact (hstable c).1
  · rw [Channel.spareBank_withSpare, Channel.setSpare_spareBank, failingStage_rested]
    exact (hstable c).2 (.inl hqueued)
  · simp only [State.setChan_chan, ChannelUnit.put_channels]
    split
    · next hd => simp [hd, hout]
    · next hd => simp [-Fin.getElem_fin, ← hqueue d, hd]
  · intro a b f g ha hb hfg
    simp only [State.setChan_chan, vector_set_fin] at ha hb
    split at ha <;> split at hb
    · next han hbn => exact han.trans hbn.symm
    · cases ha
      exact absurd ⟨b, g, hb, hfg.symm⟩ hidle
    · cases hb
      exact absurd ⟨a, f, ha, hfg⟩ hidle
    · exact honce a b f g ha hb hfg
  · simp only [State.setChan_chan, ChannelUnit.put_channels]
    split
    · next hd => simp only [iff_true]; exact ⟨n, ⟨c, 0⟩, by simp, hd.symm⟩
    · next hd =>
      rw [← hfades d]
      constructor
      · rintro ⟨m, f, hm, rfl⟩
        simp only [vector_set_fin] at hm
        split at hm
        · cases hm
          exact absurd rfl hd
        · exact ⟨m, f, hm, rfl⟩
      · rintro ⟨m, f, hm, rfl⟩
        have hmn : m ≠ n := fun e => by simp [-Fin.getElem_fin, e, hn] at hm
        exact ⟨m, f, by simpa only [vector_set_fin, if_neg hmn] using hm, rfl⟩

/-- A crossfade ends: its unit is free and the spare is live. -/
theorem bankInv_fadeEnd {s : State} {n : Fin 4} {f : BankFade} (hn : s.chan.fades[n] = some f) (h : BankInv s) :
    BankInv (s.setChan
      { s.chan.put f.channel s.chan.channels[f.channel].exchange with fades := s.chan.fades.set n none }) := by
  obtain ⟨hstable, hqueue, ⟨honce, hfades⟩, hcursor⟩ := (bankInv_iff s).mp h
  have hfading : s.chan.channels[f.channel].spare = .fading := (hfades f.channel).mp ⟨n, f, hn, rfl⟩
  refine (bankInv_iff _).mpr ⟨hstable.put ?_ (by simp), hqueue.put (by simp [-Fin.getElem_fin, hfading]), ⟨?_, fun d => ?_⟩,
    hcursor.put (by simp [-Fin.getElem_fin, hfading])⟩
  · simpa [-Fin.getElem_fin] using (hstable f.channel).2 (.inr hfading)
  · intro a b g k ha hb
    simp only [State.setChan_chan, vector_set_fin] at ha hb
    split at ha
    · cases ha
    · split at hb
      · cases hb
      · exact honce a b g k ha hb
  · simp only [State.setChan_chan, ChannelUnit.put_channels]
    split
    · next hd =>
      simp only [Channel.exchange_spare, reduceCtorEq, iff_false]
      rintro ⟨m, g, hm, hg⟩
      simp only [vector_set_fin] at hm
      split at hm
      · cases hm
      · next hmn => exact hmn (honce m n g f hm hn (hg.trans hd))
    · next hd =>
      rw [← hfades d]
      constructor
      · rintro ⟨m, g, hm, hg⟩
        simp only [vector_set_fin] at hm
        split at hm
        · cases hm
        · exact ⟨m, g, hm, hg⟩
      · rintro ⟨m, g, hm, rfl⟩
        have hmn : m ≠ n := fun e => hd (by rw [e, hn] at hm; cases hm; rfl)
        exact ⟨m, g, by simpa only [vector_set_fin, if_neg hmn] using hm, rfl⟩

/-- The channels of the busy units, each once. -/
theorem fading_nodup {u : ChannelUnit} (h : FadesSound u) :
    ((u.fades.toList.filterMap id).map fun f => f.channel).Nodup := by
  rw [List.map_filterMap, List.nodup_iff_pairwise_ne, List.pairwise_filterMap, List.pairwise_iff_getElem]
  intro i j hi hj hij a ha b hb hab
  simp only [Vector.length_toList] at hi hj
  simp only [Vector.getElem_toList, id_eq, Option.map_eq_some_iff] at ha hb
  obtain ⟨f, hf, rfl⟩ := ha
  obtain ⟨g, hg, rfl⟩ := hb
  have hsame := h.1 ⟨i, hi⟩ ⟨j, hj⟩ f g hf hg hab
  rw [Fin.mk.injEq] at hsame
  omega

/-- In the invariant the channels under way are different (R106). -/
theorem underWay_nodup {u : ChannelUnit} (hq : QueueSound u) (hf : FadesSound u) : (underWay u).Nodup := by
  refine (underWay_perm u).nodup_iff.mpr (List.nodup_append.mpr ⟨fading_nodup hf, hq.1, fun a ha b hb hab => ?_⟩)
  subst hab
  have hfading := (hf.2 a).mp ((mem_fading_iff u a).mp ha)
  simp [-Fin.getElem_fin, (hq.2 a).mp hb] at hfading

theorem mem_underWay_iff_spare {u : ChannelUnit} (hq : QueueSound u) (hf : FadesSound u) (c : Fin 28) :
    c ∈ underWay u ↔ u.channels[c].spare = .queued ∨ u.channels[c].spare = .fading := by
  rw [mem_underWay_iff, hq.2 c, ← hf.2 c, or_comm]
  rfl

/-- In the invariant a channel, when every activation under way is completed: swapped if its spare waits or fades, as it
was otherwise (R106, R107). -/
theorem completed_channels {u : ChannelUnit} (hq : QueueSound u) (hf : FadesSound u) (c : Fin 28) :
    (completed u).channels[c] =
      if u.channels[c].spare = .queued ∨ u.channels[c].spare = .fading then u.channels[c].swapNow
      else u.channels[c] := by
  have h := swapAll_channels (underWay_nodup hq hf) u c
  simp only [mem_underWay_iff_spare hq hf] at h
  exact h

/-- Every activation completed. -/
theorem bankInv_complete {s : State} (h : BankInv s) : BankInv (s.setChan (completed s.chan)) := by
  obtain ⟨hstable, hq, hf, hcursor, hopen⟩ := (bankInv_iff s).mp h
  have hspare (c : Fin 28) : (completed s.chan).channels[c].spare =
      if s.chan.channels[c].spare = .queued ∨ s.chan.channels[c].spare = .fading then .loaded
      else s.chan.channels[c].spare := by
    rw [completed_channels hq hf]
    split <;> rfl
  have hnone (n : Fin 4) : (completed s.chan).fades[n] = none := by simp [completed]
  have hopen_iff (c : Fin 28) :
      (completed s.chan).channels[c].spare = .open_ ↔ s.chan.channels[c].spare = .open_ := by
    rw [hspare]
    cases s.chan.channels[c].spare <;> simp
  have hwaits (c : Fin 28) :
      (completed s.chan).channels[c].spare ≠ .queued ∧ (completed s.chan).channels[c].spare ≠ .fading := by
    rw [hspare]
    cases s.chan.channels[c].spare <;> simp
  refine (bankInv_iff _).mpr ⟨fun c => ⟨?_, fun hc => ?_⟩, ⟨List.nodup_nil, fun c => ?_⟩, ⟨?_, fun c => ?_⟩, ?_, ?_⟩
  · rw [State.setChan_chan, completed_channels hq hf]
    split
    · next hc => simpa [-Fin.getElem_fin] using (hstable c).2 hc
    · exact (hstable c).1
  · exact absurd hc (not_or.mpr (hwaits c))
  · exact ⟨fun hc => absurd hc List.not_mem_nil, fun hc => absurd hc (hwaits c).1⟩
  · exact fun m n f g hm => nomatch (hnone m).symm.trans hm
  · exact ⟨fun ⟨n, f, hn, _⟩ => (nomatch (hnone n).symm.trans hn), fun hc => absurd hc (hwaits c).2⟩
  · exact fun k hk ht => ⟨(hopen_iff k.chan).mpr (hcursor k hk ht).1, (hcursor k hk ht).2⟩
  · exact fun c hc => hopen c ((hopen_iff c).mp hc)

theorem ChanMove.bankInv {s : State} {x : ChannelUnit} (hm : ChanMove s x) (h : BankInv s) : BankInv (s.setChan x) := by
  cases hm with
  | same hx => exact bankInv_of_sameBanks hx h
  | stage k i ws hk ht hlow hhigh => exact bankInv_writeStage ws hk ht hlow hhigh h
  | swap c hs hf => exact bankInv_swap hs hf h
  | queue c hs hf => exact bankInv_queue hs hf h
  | serve u c rest hn hq => exact bankInv_serve hn hq h
  | fadeEnd u f hn => exact bankInv_fadeEnd hn h
  | complete => exact bankInv_complete h

/-! ## The moves of the cursor -/

/-- A cursor off COEF holds no spare OPEN. -/
theorem CursorSound.of_offCoef {o o' : Option Cursor} {u : ChannelUnit} (h : CursorSound o u) (ho : offCoef o)
    (ho' : offCoef o') : CursorSound o' u :=
  ⟨fun k hk ht => absurd ht (ho' k hk), fun c hc =>
    have ⟨k, hk, ht, _⟩ := h.2 c hc
    absurd ht (ho k hk)⟩

/-- A spare state, when one channel's spare has taken another. -/
theorem put_spare (u : ChannelUnit) (c d : Fin 28) (x : SpareState) :
    (u.put c { u.channels[c] with spare := x }).channels[d].spare = if d = c then x else u.channels[d].spare := by
  rw [ChannelUnit.put_channels]
  split <;> rfl

theorem bankInv_closeCoef {s : State} {k : Cursor} (hk : s.msg.cursor = some k) (ht : k.table = .coef)
    (h : BankInv s) : BankInv (setSpareState k.chan .loaded (s.setMsg { s.msg with cursor := none })) := by
  obtain ⟨hstable, hqueue, hfades, hcursor, honly⟩ := (bankInv_iff s).mp h
  have hopen := (hcursor k hk ht).1
  refine (bankInv_iff _).mpr ⟨hstable.put (hstable k.chan).1 (by simp), hqueue.put (by simp [-Fin.getElem_fin, hopen]),
    hfades.put (by simp [-Fin.getElem_fin, hopen]), fun _ ho => (nomatch ho), fun d hd => ?_⟩
  have hspare : (if d = k.chan then SpareState.loaded else s.chan.channels[d].spare) = .open_ :=
    (put_spare s.chan k.chan d .loaded).symm.trans hd
  split at hspare
  · cases hspare
  · next hne =>
    obtain ⟨k', hk', -, hchan⟩ := honly d hspare
    rw [hk] at hk'
    cases hk'
    exact absurd hchan.symm hne

theorem bankInv_openCoef {s : State} {k : Cursor} (hk : s.msg.cursor = none) (ht : k.table = .coef)
    (hnq : s.chan.channels[k.chan].spare ≠ .queued) (hnf : s.chan.channels[k.chan].spare ≠ .fading)
    (hlow : k.chan.val * 8 ≤ k.index) (hhigh : k.index ≤ k.chan.val * 8 + 8) (h : BankInv s) :
    BankInv (setSpareState k.chan .open_ (s.setMsg { s.msg with cursor := some k })) := by
  obtain ⟨hstable, hqueue, hfades, hcursor, honly⟩ := (bankInv_iff s).mp h
  have hspare (d : Fin 28) := put_spare s.chan k.chan d .open_
  refine (bankInv_iff _).mpr ⟨hstable.put (hstable k.chan).1 (by simp), hqueue.put (by simp [-Fin.getElem_fin, hnq]),
    hfades.put (by simp [-Fin.getElem_fin, hnf]), fun k' hk' _ => ?_, fun d hd => ⟨k, rfl, ht, ?_⟩⟩
  · cases hk'
    exact ⟨(hspare k.chan).trans (if_pos rfl), hlow, hhigh⟩
  · have hd' := (hspare d).symm.trans hd
    split at hd'
    · next heq => exact heq.symm
    · obtain ⟨k', hk', -⟩ := honly d hd'
      rw [hk] at hk'
      cases hk'

theorem bankInv_moveCoef {s : State} {k : Cursor} {n : Nat} (hk : s.msg.cursor = some k) (ht : k.table = .coef)
    (hn : n = 0 ∨ k.index + n ≤ k.chan.val * 8 + 8) (h : BankInv s) :
    BankInv (s.setMsg { s.msg with cursor := some { k with index := k.index + n } }) := by
  obtain ⟨hstable, hqueue, hfades, hcursor, honly⟩ := (bankInv_iff s).mp h
  obtain ⟨hopen, hlow, hhigh⟩ := hcursor k hk ht
  refine (bankInv_iff _).mpr ⟨hstable, hqueue, hfades, fun k' hk' _ => ?_, fun d hd => ⟨_, rfl, ht, ?_⟩⟩
  · cases hk'
    exact ⟨hopen, by dsimp only; omega, by dsimp only; omega⟩
  · obtain ⟨k', hk', -, hchan⟩ := honly d hd
    rw [hk] at hk'
    cases hk'
    exact hchan

/-! ## Every move -/

theorem enterNotice_cursor (b : Bool) (s : State) : (enterNotice b s).msg.cursor = s.msg.cursor := by
  unfold enterNotice oldestNotice
  split
  · rfl
  · cases s.msg.notices with
    | nil => rfl
    | cons n rest =>
      dsimp only
      split
      · rfl
      · split <;> rfl

theorem wordSent_cursor (u : MessageUnit) : u.wordSent.cursor = u.cursor := by
  unfold MessageUnit.wordSent
  split
  · rfl
  · split <;> rfl

/-- The invariant looks at the channel unit and the cursor alone. -/
theorem BankInv.congr {s t : State} (h : BankInv s) (hc : t.chan = s.chan) (hk : t.msg.cursor = s.msg.cursor) :
    BankInv t := by
  rw [bankInv_iff] at h ⊢
  rwa [hc, hk]

theorem Quiet.bankInv {s t : State} (hq : Quiet s t) (h : BankInv s) : BankInv t := by
  cases hq with
  | chan hm => exact hm.bankInv h
  | ring | prot | ant | radio | call | uplink | drawn | gain | mix => exact h
  | msg hm => cases hm <;> exact h
  | cursor k hoff hoff' =>
    obtain ⟨hstable, hqueue, hfades, hcursor⟩ := (bankInv_iff s).mp h
    exact (bankInv_iff _).mpr ⟨hstable, hqueue, hfades, hcursor.of_offCoef hoff hoff'⟩
  | closeCoef k hk ht => exact bankInv_closeCoef hk ht h
  | openCoef k hk ht hnq hnf hlow hhigh => exact bankInv_openCoef hk ht hnq hnf hlow hhigh h
  | moveCoef k n hk ht hn => exact bankInv_moveCoef hk ht hn h

theorem Moves.bankInv {s t : State} (hm : Moves s t) (h : BankInv s) : BankInv t := by
  have henter (b : Bool) (v : State) (hv : BankInv v) : BankInv (enterNotice b v) :=
    hv.congr (enterNotice_frame b v).2.2.2.1 (enterNotice_cursor b v)
  exact hm.keeps (fun _ _ hq => hq.bankInv) (fun _ _ _ hs => hs) (fun s hs => hs.congr rfl (wordSent_cursor s.msg))
    (fun _ hs => hs) (fun _ _ => bankInv_reset) (fun _ _ => bankInv_reset)
    (fun t v _ _ => henter t.msg.queue.isEmpty v) h

/-- Settles O58: each move of the channel unit or of the cursor changes one channel, or completes every activation, and
keeps the four parts of the agreement. -/
theorem bankInvKept : Obligations.BankInvKept :=
  fun _ _ hs h => step_keeps (fun _ _ hs => hs) (fun _ _ => Moves.bankInv) hs h

end Sys2Proof.Machine

/-! The gain points (spec 04): every target is within range, a ramp stays between its ends, and each move of the units
keeps every point sound, and silent while nothing runs. -/

namespace Sys2Proof.Machine

/-! ## Targets in range (R69, R70) -/

theorem linearOf_limitStep_le (t : Step) : linearOf (limitStep t) ≤ maxGain := by
  cases t with
  | mute => exact Nat.zero_le _
  | steps n =>
    simp only [limitStep]
    split
    · exact Nat.zero_le _
    · exact linearOf_le_maxGain (min_le_left 32 n)

theorem linearOf_combine_le (parts : List Step) : linearOf (combine parts) ≤ maxGain := linearOf_limitStep_le _

theorem linearOf_mute : linearOf .mute = 0 := rfl

theorem linearOf_mute_le : linearOf .mute ≤ maxGain := Nat.zero_le _

theorem linearOf_zero_le : linearOf (.steps 0) ≤ maxGain := linearOf_le_maxGain (by decide)

theorem linearOf_routeTarget_le (m : MixUnit) (c : CallUnit) (r : RouteRecord) :
    linearOf (routeTarget m c r) ≤ maxGain := by
  unfold routeTarget
  split
  · exact linearOf_mute_le
  · exact linearOf_mute_le
  · split
    · exact linearOf_mute_le
    · exact linearOf_combine_le _

theorem linearOf_seatTarget_le (m : MixUnit) (z : Fin 2) : linearOf (seatTarget m z) ≤ maxGain := by
  unfold seatTarget
  split
  · exact linearOf_zero_le
  · exact linearOf_mute_le

theorem linearOf_feedTarget_le (c : CallUnit) (z : Fin 5) : linearOf (feedTarget c z) ≤ maxGain := by
  have hopen : linearOf (if placementCloses c.placement z then .mute else combine [placementEntry c c.placement z]) ≤
      maxGain := by
    split
    · exact linearOf_mute_le
    · exact linearOf_combine_le _
  unfold feedTarget
  cases c.state with
  | idle | onHold | closing => exact linearOf_mute_le
  | alerting | active => exact hopen

theorem linearOf_radioTarget_le (s : State) : linearOf (radioTarget s) ≤ maxGain := by
  unfold radioTarget
  split
  · exact linearOf_mute_le
  · exact linearOf_combine_le _

theorem linearOf_uplinkTarget_le (s : State) : linearOf (uplinkTarget s) ≤ maxGain := by
  unfold uplinkTarget
  split
  · exact linearOf_mute_le
  · cases s.call.state with
    | active => exact linearOf_combine_le _
    | idle | alerting | onHold | closing => exact linearOf_mute_le

theorem linearOf_beamTarget_le (u : UplinkUnit) (b : Fin 2) : linearOf (beamTarget u b) ≤ maxGain := by
  unfold beamTarget
  split
  · exact linearOf_zero_le
  · exact linearOf_mute_le

theorem linearOf_outputTarget_le (x : OutputContext) : linearOf x.target ≤ maxGain := by
  unfold OutputContext.target
  split
  · exact linearOf_mute_le
  · exact linearOf_combine_le _

/-! ## Ramps (R77) -/

/-- A difference divided and truncated, taken no more often than it was divided, does not pass the difference. -/
theorem tdiv_mul_mem (d : Int) {n k : Nat} (hk : k ≤ n) : min 0 d ≤ d.tdiv n * k ∧ d.tdiv n * k ≤ max 0 d := by
  have hpos (e : Int) (he : 0 ≤ e) : 0 ≤ e.tdiv n * k ∧ e.tdiv n * k ≤ e := by
    rw [Int.tdiv_eq_ediv_of_nonneg he]
    have hq : 0 ≤ e / n := Int.ediv_nonneg he (Int.natCast_nonneg n)
    refine ⟨mul_nonneg hq (Int.natCast_nonneg k), ?_⟩
    calc e / n * k ≤ e / n * n := mul_le_mul_of_nonneg_left (Int.ofNat_le.mpr hk) hq
      _ ≤ e := by
        rcases Nat.eq_zero_or_pos n with hn | hn
        · simpa [hn] using he
        · exact Int.ediv_mul_le e (by omega)
  rcases le_total 0 d with hd | hd
  · have h := hpos d hd
    omega
  · have h := hpos (-d) (by omega)
    rw [Int.neg_tdiv, neg_mul] at h
    omega

/-- A ramp stays between its start and its target. -/
theorem ramp_mem (start target : Nat) {n k : Nat} (hk : k ≤ n) :
    (min start target : Nat) ≤ (start : Int) + ((target : Int) - start).tdiv n * k ∧
      (start : Int) + ((target : Int) - start).tdiv n * k ≤ (max start target : Nat) := by
  have h := tdiv_mul_mem ((target : Int) - start) hk
  omega

/-- A point before its frame: sound but for a ramp that this frame ends, which may be of any length. -/
def GainPoint.Runs (p : GainPoint) : Prop :=
  p.linear ≤ maxGain ∧ p.current ≤ maxGain ∧ ∀ r, p.ramp = some r → 1 < r.left → r.Sound p.linear p.current

theorem GainPoint.Sound.runs {p : GainPoint} (h : p.Sound) : p.Runs := ⟨h.1, h.2.1, fun r hr _ => h.2.2 r hr⟩

theorem GainPoint.Silent.sound {p : GainPoint} (h : p.Silent) (hl : p.linear ≤ maxGain) : p.Sound := by
  obtain ⟨hcurrent, hramp⟩ := h
  refine ⟨hl, hcurrent ▸ Nat.zero_le _, fun r hr => ?_⟩
  rw [hramp] at hr
  cases hr

theorem GainPoint.advance_of_idle {p : GainPoint} (h : p.ramp = none) : p.advance = p := by
  unfold GainPoint.advance
  rw [h]

theorem GainPoint.advance_of_last {p : GainPoint} {r : Ramp} (h : p.ramp = some r) (hr : r.left ≤ 1) :
    p.advance = { p with current := p.linear, ramp := none } := by
  unfold GainPoint.advance
  rw [h]
  exact if_pos hr

theorem GainPoint.advance_of_more {p : GainPoint} {r : Ramp} (h : p.ramp = some r) (hr : 1 < r.left) :
    p.advance =
      { p with current := (p.current + r.step).toNat, ramp := some { r with left := r.left - 1 } } := by
  unfold GainPoint.advance
  rw [h]
  exact if_neg (not_le.mpr hr)

/-- A frame that does not end a sound ramp leaves it sound, one step further. -/
theorem Ramp.Sound.step {r : Ramp} {target current : Nat} (h : r.Sound target current) (ht : target ≤ maxGain)
    (hr : 1 < r.left) :
    (current + r.step).toNat ≤ maxGain ∧
      ({ r with left := r.left - 1 } : Ramp).Sound target (current + r.step).toNat := by
  obtain ⟨hfrom, -, hleft, hstep, hcurrent⟩ := h
  obtain ⟨k, hk⟩ : ∃ k : Nat, k = r.length - (r.left - 1) := ⟨_, rfl⟩
  have hnext : (current : Int) + r.step = r.from_ + r.step * k := by
    have hkz : (k : Int) = ((r.length : Int) - r.left) + 1 := by omega
    rw [hcurrent, hkz]
    ring
  have hmem := ramp_mem r.from_ target (n := r.length) (k := k) (by omega)
  rw [← hstep, ← hnext] at hmem
  have hnonneg : 0 ≤ (current : Int) + r.step := (Int.natCast_nonneg _).trans hmem.1
  have hnat := Int.toNat_of_nonneg hnonneg
  refine ⟨?_, hfrom, ?_, ?_, hstep, ?_⟩
  · have hmax : max r.from_ target ≤ maxGain := max_le hfrom ht
    omega
  · dsimp only
    omega
  · dsimp only
    omega
  · dsimp only
    rw [hnat, hnext]
    congr 2
    omega

theorem GainPoint.Runs.advance {p : GainPoint} (h : p.Runs) : p.advance.Sound := by
  obtain ⟨hlinear, hcurrent, hramp⟩ := h
  cases hp : p.ramp with
  | none =>
    rw [GainPoint.advance_of_idle hp]
    exact ⟨hlinear, hcurrent, fun r hr => nomatch hp.symm.trans hr⟩
  | some r =>
    rcases le_or_gt r.left 1 with hr | hr
    · rw [GainPoint.advance_of_last hp hr]
      exact ⟨hlinear, hlinear, fun _ hr => nomatch hr⟩
    · rw [GainPoint.advance_of_more hp hr]
      obtain ⟨hle, hsound⟩ := (hramp r hp hr).step hlinear hr
      refine ⟨hlinear, hle, fun x hx => ?_⟩
      cases hx
      exact hsound

/-- A new ramp starts sound, unless its length is zero. -/
theorem Ramp.toward_sound {start : Nat} (target : Nat) {n : Nat} (cause : RampCause) (hs : start ≤ maxGain)
    (hn : 1 ≤ n) : (Ramp.toward start target n cause).Sound target start :=
  ⟨hs, hn, le_rfl, rfl, by simp [Ramp.toward]⟩

theorem GainPoint.retarget_runs {p : GainPoint} (h : p.Sound) {t : Step} (ht : linearOf t ≤ maxGain) (n : Nat)
    (cause : RampCause) : (p.retarget t n cause).Runs := by
  unfold GainPoint.retarget
  obtain ⟨hlinear, hcurrent, hramp⟩ := h
  dsimp only
  split
  · exact ⟨hlinear, hcurrent, fun r hr _ => hramp r hr⟩
  · split
    · exact ⟨ht, hcurrent, fun _ hr => nomatch hr⟩
    · refine ⟨ht, hcurrent, fun r hr hleft => ?_⟩
      cases hr
      exact Ramp.toward_sound _ cause hcurrent hleft.le

theorem GainPoint.startAgain_runs (p : GainPoint) {t : Step} (ht : linearOf t ≤ maxGain) (n : Nat) :
    (p.startAgain t n).Runs := by
  unfold GainPoint.startAgain
  refine ⟨ht, Nat.zero_le _, fun r hr hleft => ?_⟩
  dsimp only at hr ⊢
  split at hr
  · cases hr
  · cases hr
    exact Ramp.toward_sound _ .start (Nat.zero_le _) hleft.le

theorem GainPoint.frame_sound {p : GainPoint} (h : p.Sound) (starting : Bool) {t : Step} (ht : linearOf t ≤ maxGain)
    (first n : Nat) (cause : RampCause) : (p.frame starting t first n cause).Sound := by
  unfold GainPoint.frame
  split
  · exact (p.startAgain_runs ht first).advance
  · exact (GainPoint.retarget_runs h ht n cause).advance

/-! ## The points of the gain unit -/

/-- In a frame every point takes a target within range. -/
theorem gainStep_point (s : State) (i : GainId) :
    ∃ (t : Step) (first n : Nat) (cause : RampCause), linearOf t ≤ maxGain ∧
      (gainStep s).point i = (s.point i).frame s.gain.startPending t first n cause := by
  cases i with
  | route i =>
    exact ⟨_, _, _, _, linearOf_routeTarget_le s.mix s.call s.mix.routes[i],
      by simp [gainStep, GainUnit.point, State.point, routePointFrame]; rfl⟩
  | seat z =>
    exact ⟨_, _, _, _, linearOf_seatTarget_le s.mix z, by simp [gainStep, GainUnit.point, State.point]; rfl⟩
  | feed z =>
    exact ⟨_, _, _, _, linearOf_feedTarget_le s.call z, by simp [gainStep, GainUnit.point, State.point]; rfl⟩
  | radio => exact ⟨_, _, _, _, linearOf_radioTarget_le s, rfl⟩
  | uplink => exact ⟨_, _, _, _, linearOf_uplinkTarget_le s, rfl⟩
  | beam b =>
    exact ⟨_, _, _, _, linearOf_beamTarget_le s.uplink b, by simp [gainStep, GainUnit.point, State.point]; rfl⟩
  | out c =>
    exact ⟨_, _, _, _, linearOf_outputTarget_le (outputContext s c),
      by simp [gainStep, GainUnit.point, State.point, outPointFrame]; rfl⟩

/-- While the units do not run a frame records a target within range at every point. -/
theorem gainRecord_point (s : State) (i : GainId) :
    ∃ t : Step, linearOf t ≤ maxGain ∧ (gainRecord s).gain.point i = (s.point i).recordTarget t := by
  cases i with
  | route i =>
    exact ⟨_, linearOf_routeTarget_le s.mix s.call s.mix.routes[i], by simp [gainRecord, GainUnit.point, State.point]⟩
  | seat z => exact ⟨_, linearOf_seatTarget_le s.mix z, by simp [gainRecord, GainUnit.point, State.point]⟩
  | feed z => exact ⟨_, linearOf_feedTarget_le s.call z, by simp [gainRecord, GainUnit.point, State.point]⟩
  | radio => exact ⟨_, linearOf_radioTarget_le s, rfl⟩
  | uplink => exact ⟨_, linearOf_uplinkTarget_le s, rfl⟩
  | beam b => exact ⟨_, linearOf_beamTarget_le s.uplink b, by simp [gainRecord, GainUnit.point, State.point]⟩
  | out c =>
    exact ⟨_, linearOf_outputTarget_le (outputContext s c), by simp [gainRecord, GainUnit.point, State.point]⟩

theorem reset_point (i : GainId) : State.reset.point i = .zero := by
  cases i <;> simp [State.reset, State.point, GainUnit.point, GainUnit.reset]

theorem gainInv_reset : GainInv State.reset := by
  have hsilent (i : GainId) : (State.reset.point i).Silent := by
    rw [reset_point]
    exact ⟨rfl, rfl⟩
  exact ⟨fun i => (hsilent i).sound (by rw [reset_point]; exact Nat.zero_le _), fun _ => hsilent⟩

/-! ## Every move -/

theorem setGain_running (s : State) (x : GainUnit) : (s.setGain x).running = s.running := rfl

theorem setGain_point (s : State) (x : GainUnit) (i : GainId) : (s.setGain x).point i = x.point i := rfl

theorem GainMove.gainInv {s : State} {x : GainUnit} (hm : GainMove s x) (h : GainInv s) : GainInv (s.setGain x) := by
  obtain ⟨hsound, hsilent⟩ := h
  cases hm with
  | step hrun =>
    refine ⟨fun i => ?_, fun hstop => ?_⟩
    · obtain ⟨t, first, n, cause, ht, hp⟩ := gainStep_point s i
      rw [setGain_point, hp]
      exact GainPoint.frame_sound (hsound i) _ ht first n cause
    · rw [setGain_running, hrun] at hstop
      cases hstop
  | record hstop =>
    have hpoint (i : GainId) : ((s.setGain (gainRecord s).gain).point i).Silent ∧
        ((s.setGain (gainRecord s).gain).point i).linear ≤ maxGain := by
      obtain ⟨t, ht, hp⟩ := gainRecord_point s i
      rw [setGain_point, hp]
      exact ⟨hsilent hstop i, ht⟩
    exact ⟨fun i => (hpoint i).1.sound (hpoint i).2, fun _ i => (hpoint i).1⟩
  | silence hx =>
    have hcase (i : GainId) : (s.setGain x).point i = s.point i ∨ (s.setGain x).point i = (s.point i).silenced := hx i
    refine ⟨fun i => ?_, fun hstop i => ?_⟩
    · rcases hcase i with hp | hp <;> rw [hp]
      · exact hsound i
      · exact GainPoint.Silent.sound ⟨rfl, rfl⟩ (hsound i).1
    · rcases hcase i with hp | hp <;> rw [hp]
      · exact hsilent hstop i
      · exact ⟨rfl, rfl⟩
  | advance p hrun =>
    refine ⟨fun i => ?_, fun hstop => ?_⟩
    · rw [setGain_point, GainUnit.point_setPoint]
      split
      · exact (hsound p).runs.advance
      · exact hsound i
    · rw [setGain_running, hrun] at hstop
      cases hstop

/-- The invariant looks at the gain unit and at what decides whether the units run. -/
theorem GainInv.congr {s t : State} (h : GainInv s) (hg : t.gain = s.gain) (hr : t.running = s.running) :
    GainInv t := by
  have hpoint (i : GainId) : t.point i = s.point i := by
    unfold State.point
    rw [hg]
  exact ⟨fun i => hpoint i ▸ h.1 i, fun hstop i => hpoint i ▸ h.2 (hr ▸ hstop) i⟩

theorem MsgMove.gainInv {s : State} {x : MessageUnit} (hm : MsgMove s x) (h : GainInv s) : GainInv (s.setMsg x) := by
  cases hm with
  | post | defer | phase | assembly | broken | checkFailed | dropped => exact h
  | op o p hend =>
    refine ⟨h.1, fun hstop i => ?_⟩
    rcases hend with hsilent | hstopped | hrun
    · exact hsilent i
    · exact h.2 hstopped i
    · exact absurd (hrun.symm.trans hstop) (by decide)

theorem Quiet.gainInv {s t : State} (hq : Quiet s t) (h : GainInv s) : GainInv t := by
  cases hq with
  | gain hm => exact hm.gainInv h
  | msg hm => exact hm.gainInv h
  | ring | prot | ant | radio | call | uplink | drawn | mix | chan => exact h
  | cursor | closeCoef | openCoef | moveCoef => exact h

theorem wordSent_op (u : MessageUnit) : u.wordSent.op = u.op ∧ u.wordSent.patternFrom = u.patternFrom := by
  unfold MessageUnit.wordSent
  split
  · exact ⟨rfl, rfl⟩
  · split <;> exact ⟨rfl, rfl⟩

theorem enterNotice_op (b : Bool) (s : State) :
    (enterNotice b s).msg.op = s.msg.op ∧ (enterNotice b s).msg.patternFrom = s.msg.patternFrom := by
  unfold enterNotice oldestNotice
  split
  · exact ⟨rfl, rfl⟩
  · cases s.msg.notices with
    | nil => exact ⟨rfl, rfl⟩
    | cons n rest =>
      dsimp only
      split
      · exact ⟨rfl, rfl⟩
      · split <;> exact ⟨rfl, rfl⟩

theorem Moves.gainInv {s t : State} (hm : Moves s t) (h : GainInv s) : GainInv t := by
  have hword (s : State) (hs : GainInv s) : GainInv (s.setMsg s.msg.wordSent) :=
    hs.congr rfl (running_congr (wordSent_op s.msg).1 (wordSent_op s.msg).2)
  have henter (b : Bool) (v : State) (hv : GainInv v) : GainInv (enterNotice b v) :=
    hv.congr (enterNotice_frame b v).2.2.1 (running_congr (enterNotice_op b v).1 (enterNotice_op b v).2)
  exact hm.keeps (fun _ _ hq => hq.gainInv) (fun _ _ _ hs => hs) hword (fun _ hs => hs) (fun _ _ => gainInv_reset)
    (fun _ _ => gainInv_reset) (fun t v _ _ => henter t.msg.queue.isEmpty v) h

/-- Settles O55: every move of a gain point is a frame of its ramp, a target recorded where nothing runs, or silence; and
the operating state leaves the running ones only where every point is silent. -/
theorem gainInvKept : Obligations.GainInvKept :=
  fun _ _ hs h => step_keeps (fun _ _ hs => hs) (fun _ _ => Moves.gainInv) hs h

/-- Settles O59. -/
theorem invariantsAtReset : Obligations.InvariantsAtReset :=
  ⟨gainInv_reset, messageInv_reset, claimInv_reset, bankInv_reset⟩

end Sys2Proof.Machine

/-! Reset, the frames that no unit sees, notices that meet, and a ramp frame by frame. -/

namespace Sys2Proof.Machine

/-! ## The reset pin (R10) -/

/-- Settles O3. -/
theorem resetPinRestores : Obligations.ResetPinRestores := by
  refine ⟨fun s => rfl, rfl, rfl, rfl, rfl, rfl, ?_, rfl, rfl, rfl, rfl, rfl, rfl, rfl, rfl, rfl, rfl, rfl, rfl, ?_, rfl,
    ?_, reset_point, ?_, rfl, rfl, ?_, rfl, rfl, rfl, rfl, rfl, rfl, rfl, rfl, rfl, rfl, rfl, rfl, rfl⟩
  · intro i
    simp [State.reset, RingUnit.reset]
  · intro i
    simp [State.reset, MixUnit.reset]
  · intro z
    simp [State.reset, MixUnit.reset]
  · intro c
    simp [State.reset, ChannelUnit.reset, Channel.initial, Bank.pass, Stage.pass, StageHistory.zero]
  · intro c
    simp [State.reset, ProtectUnit.reset, ProtectRecord.initial]

/-! ## Frames that are not processed (R2, R5, R6) -/

theorem badTick_of_not_linked {s : State} (h : s.ring.link ≠ .linked) :
    badTick s = s.setRing { s.ring with goodRun := 0 } := by
  unfold badTick
  cases hl : s.ring.link with
  | linked => exact absurd hl h
  | acquiring | lost => rfl

theorem badTick_of_few {s : State} (h : s.ring.link = .linked) (hr : s.ring.badRun + 1 < 4) :
    badTick s = gapTick (s.setRing { s.ring with badRun := s.ring.badRun + 1 }) := by
  unfold badTick
  rw [h]
  exact if_neg (not_le.mpr hr)

theorem badTick_of_fourth {s : State} (h : s.ring.link = .linked) (hr : 4 ≤ s.ring.badRun + 1) :
    badTick s = loseLink s := by
  unfold badTick
  rw [h]
  exact if_pos hr

theorem goodFrame_of_waiting {f : Frame} {s : State} (hl : s.ring.link ≠ .linked) (hr : s.ring.goodRun + 1 < 16) :
    goodFrame f s = passFrame f (seeFrame s) := by
  unfold goodFrame
  have hrun : ¬ 16 ≤ (seeFrame s).ring.goodRun + 1 := not_le.mpr hr
  have hlink : (seeFrame s).ring.link = s.ring.link := rfl
  dsimp only
  cases h : s.ring.link with
  | linked => exact absurd h hl
  | acquiring | lost =>
    rw [hlink, h]
    exact if_neg hrun

theorem missingFrame_of_seen {s : State} (h : s.ring.frameSeen = true) :
    missingFrame s = badTick (transmit .nothing s) := if_pos h

/-- Settles O5: by the link state and the run. -/
theorem framesNotProcessed : Obligations.FramesNotProcessed := by
  refine ⟨fun f s hl hr => ?_, fun raw s hl hr => ?_, fun s hl hr hseen => ?_, fun raw s hl => ?_, fun s hl hseen => ?_,
    fun s hseen => ?_⟩
  · exact congrArg Host.Outcome.next (goodFrame_of_waiting hl hr)
  · exact congrArg Host.Outcome.next (badTick_of_few (s := transmit (.bad raw) (seeFrame s)) hl hr)
  · exact congrArg Host.Outcome.next
      ((missingFrame_of_seen hseen).trans (badTick_of_few (s := transmit .nothing s) hl hr))
  · exact congrArg Host.Outcome.next (badTick_of_not_linked hl)
  · exact congrArg Host.Outcome.next ((missingFrame_of_seen hseen).trans (badTick_of_not_linked hl))
  · exact congrArg Host.Outcome.next (if_neg (by simp [hseen]))

/-! ## The fourth frame (R7) -/

theorem exec_enterLost_due {raw : Option RawFrame} {s : State} (hl : s.ring.link = .linked) (hr : 4 ≤ s.ring.badRun + 1) :
    exec (.enterLost raw) s =
      .next (loseLink (transmit (match raw with | some b => .bad b | none => .nothing) s)) := by
  refine congrArg Host.Outcome.next ((if_pos ⟨hl, hr⟩).trans ?_)
  cases raw <;> rfl

theorem exec_enterLost_idle {raw : Option RawFrame} {s : State} (h : s.ring.link ≠ .linked ∨ s.ring.badRun + 1 < 4) :
    exec (.enterLost raw) s = .next s :=
  congrArg Host.Outcome.next (if_neg fun hd => h.elim (fun hl => hl hd.1) fun hr => not_lt.mpr hd.2 hr)

/-- Settles O9: the row is due, and a bad or a missing frame does what it does. -/
theorem entersLost : Obligations.EntersLost := by
  refine ⟨fun raw s hl hr => ?_, fun raw s hl hseen hr => ⟨?_, ?_⟩, fun raw s h => exec_enterLost_idle h⟩
  · rw [exec_enterLost_due hl hr]
    rfl
  · have hsee : seeFrame s = s := by
      unfold seeFrame
      rw [← hseen]
      rfl
    rw [exec_enterLost_due hl hr]
    refine congrArg Host.Outcome.next ?_
    show badTick (transmit (.bad raw) (seeFrame s)) = _
    rw [hsee]
    exact badTick_of_fourth (s := transmit (.bad raw) s) hl hr
  · rw [exec_enterLost_due hl hr]
    exact congrArg Host.Outcome.next
      ((missingFrame_of_seen hseen).trans (badTick_of_fourth (s := transmit .nothing s) hl hr))

/-! ## Notices that meet (R30) -/

/-- The ten kinds of notices. -/
def noticeKinds : List NoticeKind :=
  [.state, .link, .bank, .claim, .protect, .antenna, .reception, .call, .echo, .dropped]

theorem mem_noticeKinds (k : NoticeKind) : k ∈ noticeKinds := by
  cases k <;> decide

/-- Notices of different kinds are at most ten. -/
theorem length_le_of_kinds_nodup {set : List Notice} (h : (set.map fun n => n.detail.kind).Nodup) : set.length ≤ 10 := by
  have hle := (h.subperm fun k _ => mem_noticeKinds k).length_le
  rwa [List.length_map] at hle

/-- Settles O18: an occurrence joins or is absorbed, by whether its kind is pending. -/
theorem noticeMerging : Obligations.NoticeMerging := by
  refine ⟨fun set d h => postTo_of_absent h, fun front back n d hn h => ?_, fun set d h => ?_, fun c e i => ?_,
    fun z x h i => ?_⟩
  · have hkeep {l : List Notice} (hl : ∀ y ∈ l, y.detail.kind ≠ d.kind) :
        l.map (fun y => if y.detail.kind = d.kind then y.absorb d else y) = l :=
      (List.map_congr_left fun y hy => if_neg (hl y hy)).trans (List.map_id l)
    rw [postTo_of_present ⟨n, by simp, hn⟩, List.map_append, List.map_cons, if_pos hn,
      hkeep fun y hy => h y (List.mem_append_left back hy), hkeep fun y hy => h y (List.mem_append_right front hy)]
    rfl
  · exact ⟨postTo_nodup d h, length_le_of_kinds_nodup (postTo_nodup d h)⟩
  · have hlt : i = c.val → i < 28 := fun hi => hi ▸ c.isLt
    simp only [NoticeDetail.changed, BitVec.getLsbD_ofNat, Nat.testBit_two_pow]
    grind
  · have hlt : i = 3 + z.val → i < 28 := by omega
    simp only [NoticeDetail.changed, BitVec.getLsbD_ofNat, Nat.testBit_two_pow, seatZone]
    grind

/-! ## A ramp frame by frame (R77, R78) -/

/-- A point k frames into a ramp of length n from a start to a step target. -/
def rampFrame (start : Nat) (t : Step) (n : Nat) (cause : RampCause) (k : Nat) : GainPoint :=
  ⟨t, linearOf t, ((start : Int) + k * ((linearOf t : Int) - start).tdiv n).toNat,
    some ⟨start, ((linearOf t : Int) - start).tdiv n, n, n - k, cause⟩⟩

theorem rampFrame_current (start : Nat) (t : Step) {n : Nat} (cause : RampCause) {k : Nat} (hk : k ≤ n) :
    ((rampFrame start t n cause k).current : Int) = start + k * ((linearOf t : Int) - start).tdiv n := by
  have h := (ramp_mem start (linearOf t) hk).1
  rw [mul_comm] at h
  exact Int.toNat_of_nonneg ((Int.natCast_nonneg _).trans h)

/-- A ramp stays between its start and its target. -/
theorem rampFrame_mem (start : Nat) (t : Step) {n : Nat} (cause : RampCause) {k : Nat} (hk : k ≤ n) :
    min start (linearOf t) ≤ (rampFrame start t n cause k).current ∧
      (rampFrame start t n cause k).current ≤ max start (linearOf t) := by
  have h := ramp_mem start (linearOf t) hk
  rw [mul_comm, ← rampFrame_current start t cause hk] at h
  exact_mod_cast h

theorem advance_rampFrame (start : Nat) (t : Step) {n : Nat} (cause : RampCause) {k : Nat} (hk : k + 1 < n) :
    (rampFrame start t n cause k).advance = rampFrame start t n cause (k + 1) := by
  have hcurrent := rampFrame_current start t cause (k := k) (n := n) (by omega)
  rw [GainPoint.advance_of_more (r := ⟨start, ((linearOf t : Int) - start).tdiv n, n, n - k, cause⟩) rfl
    (by dsimp only; omega), hcurrent]
  simp only [rampFrame, GainPoint.mk.injEq, Option.some.injEq, Ramp.mk.injEq, true_and, and_true]
  refine ⟨congrArg Int.toNat ?_, by omega⟩
  push_cast
  ring

theorem advance_rampFrame_last (start : Nat) (t : Step) {n : Nat} (cause : RampCause) {k : Nat} (hk : k + 1 = n) :
    (rampFrame start t n cause k).advance = ⟨t, linearOf t, linearOf t, none⟩ :=
  GainPoint.advance_of_last (r := ⟨start, ((linearOf t : Int) - start).tdiv n, n, n - k, cause⟩) rfl
    (by dsimp only; omega)

theorem iterate_rampFrame (start : Nat) (t : Step) {n : Nat} (cause : RampCause) {k : Nat} (hk : k < n) :
    GainPoint.advance^[k] (rampFrame start t n cause 0) = rampFrame start t n cause k := by
  induction k with
  | zero => rfl
  | succ k ih => rw [Function.iterate_succ_apply', ih (by omega), advance_rampFrame start t cause hk]

theorem iterate_rampFrame_landed (start : Nat) (t : Step) {n : Nat} (cause : RampCause) (hn : 1 ≤ n) {k : Nat}
    (hk : n ≤ k) : GainPoint.advance^[k] (rampFrame start t n cause 0) = ⟨t, linearOf t, linearOf t, none⟩ := by
  induction k, hk using Nat.le_induction with
  | base =>
    obtain ⟨m, rfl⟩ : ∃ m, n = m + 1 := ⟨n - 1, by omega⟩
    rw [Function.iterate_succ_apply', iterate_rampFrame start t cause (Nat.lt_succ_self m),
      advance_rampFrame_last start t cause rfl]
  | succ k _ ih =>
    rw [Function.iterate_succ_apply', ih]
    exact GainPoint.advance_of_idle rfl

/-- A new linear target that the point does not already stand at starts a ramp. -/
theorem retarget_of_new {p : GainPoint} {t : Step} (n : Nat) (cause : RampCause) (hl : linearOf t ≠ p.linear)
    (hc : linearOf t ≠ p.current) : p.retarget t n cause = rampFrame p.current t n cause 0 := by
  simp [GainPoint.retarget, hl, hc, rampFrame, Ramp.toward]

theorem retarget_of_reached {p : GainPoint} {t : Step} (n : Nat) (cause : RampCause) (hl : linearOf t ≠ p.linear)
    (hc : linearOf t = p.current) : p.retarget t n cause = ⟨t, linearOf t, p.current, none⟩ := by
  unfold GainPoint.retarget
  dsimp only
  rw [if_neg hl, if_pos hc]

theorem retarget_of_same {p : GainPoint} {t : Step} (n : Nat) (cause : RampCause) (hl : linearOf t = p.linear) :
    p.retarget t n cause = { p with step := t } := if_pos hl

/-! ## GAIN_RAMP_END -/

/-- Apart from its points an advance of one point changes nothing. -/
theorem advancePoint_frame (i : GainId) (s : State) :
    { advancePoint i s with gain := s.gain } = s ∧ (advancePoint i s).gain.curve = s.gain.curve ∧
      (advancePoint i s).gain.ramps = s.gain.ramps ∧ (advancePoint i s).gain.routeContext = s.gain.routeContext ∧
      (advancePoint i s).gain.outContext = s.gain.outContext ∧
      (advancePoint i s).gain.startPending = s.gain.startPending := by
  cases i <;> exact ⟨rfl, rfl, rfl, rfl, rfl, rfl⟩

theorem advancePoint_point (i j : GainId) (s : State) :
    (advancePoint i s).point j = if j = i then (s.point i).advance else s.point j :=
  GainUnit.point_setPoint _ _ _ _

theorem rampDue_eq_false {p : GainPoint} (h : ∀ x, p.ramp = some x → 1 < x.left) : rampDue p = false := by
  unfold rampDue
  cases hr : p.ramp with
  | none => rfl
  | some x => exact decide_eq_false (not_le.mpr (h x hr))

theorem rampDue_eq_true {p : GainPoint} {x : Ramp} (hr : p.ramp = some x) (hx : x.left ≤ 1) : rampDue p = true := by
  unfold rampDue
  rw [hr]
  exact decide_eq_true hx

/-- Settles O40: a ramp's point after k frames is `rampFrame`, by induction on k; the row advances a point whose ramp has
one frame left. -/
theorem ramps : Obligations.Ramps := by
  refine ⟨fun p t n cause hn => ⟨fun hl hc => ?_, fun hl hc => ?_, fun hl => ?_⟩, fun i s x hactive hpath hr hx => ?_,
    fun i s h => ?_⟩
  · rw [retarget_of_new n cause hl hc]
    refine ⟨fun k hk => ?_, iterate_rampFrame_landed _ t cause hn le_rfl, fun k => ?_⟩
    · dsimp only
      rw [iterate_rampFrame _ t cause hk]
      exact ⟨rfl, rfl, rampFrame_current _ t cause hk.le, rfl⟩
    · dsimp only
      rcases lt_or_ge k n with hk | hk
      · rw [iterate_rampFrame _ t cause hk]
        exact rampFrame_mem _ t cause hk.le
      · rw [iterate_rampFrame_landed _ t cause hn hk]
        exact ⟨min_le_right _ _, le_max_right _ _⟩
  · exact retarget_of_reached n cause hl hc
  · exact retarget_of_same n cause hl
  · have hstep : eventStep (rampDue (s.point i)) (advancePoint i) s = advancePoint i s :=
      (eventStep_due hactive (rampDue_eq_true hr hx)).trans (takePath_idle hpath)
    refine ⟨advancePoint i s, congrArg Host.Outcome.next hstep, ?_, fun j hj => ?_, advancePoint_frame i s⟩
    · rw [advancePoint_point, if_pos rfl, GainPoint.advance_of_last hr hx]
    · rw [advancePoint_point, if_neg hj]
  · exact congrArg Host.Outcome.next (eventStep_idle (.inr (rampDue_eq_false h)))

end Sys2Proof.Machine

/-! What a request row comes to: the answer of its kind's handler, or why the request is not taken (spec 02). -/

namespace Sys2Proof.Machine

/-! ## Rows -/

/-- A request row is the step of its kind. -/
theorem exec_request (k : RequestKind) (r : Request) (s : State) :
    exec (requestInstr k r) s = .next (requestStep (requestCode k) (judge k (handlerOf k)) r s) := by
  cases k <;> rfl

/-- A raised path-change event is taken back and does what `pathEffect` says (R188). -/
theorem takePath_of_raised {s : State} (h : s.uplink.pathRaised = true) : takePath s = pathEffect (clearPath s) := by
  have hecho : (clearPath s).uplink.echo = s.uplink.echo := rfl
  unfold takePath pathEffect
  rw [if_pos h, hecho]
  cases he : s.uplink.echo with
  | off | converging => rfl
  | converged =>
    have hne : s.uplink.echo ≠ .converging := by rw [he]; decide
    exact if_neg hne

/-- A path-change event raised when none was left over. -/
theorem takePath_raised {s : State} (h : s.uplink.pathRaised = false) : takePath (raisePath s) = pathEffect s := by
  have hclear : clearPath (raisePath s) = s := by
    show s.setUplink { s.uplink with pathRaised := false } = s
    rw [← h]
    rfl
  rw [takePath_of_raised rfl, hclear]

theorem pathEffect_enqueue (m : OutMessage) (s : State) : pathEffect (enqueue m s) = enqueue m (pathEffect s) := by
  have hecho : (enqueue m s).uplink.echo = s.uplink.echo := rfl
  unfold pathEffect
  rw [hecho]
  cases s.uplink.echo <;> rfl

/-- A path-change event touches nothing a message that joins the queue touches. -/
theorem takePath_enqueue (m : OutMessage) (s : State) : takePath (enqueue m s) = enqueue m (takePath s) := by
  cases h : s.uplink.pathRaised with
  | false => rw [takePath_idle h, takePath_idle (s := enqueue m s) h]
  | true => rw [takePath_of_raised h, takePath_of_raised (s := enqueue m s) h, ← pathEffect_enqueue]; rfl

theorem pathEffect_phase (s : State) : (pathEffect s).msg.resetPhase = s.msg.resetPhase := by
  unfold pathEffect
  cases s.uplink.echo <;> rfl

theorem takePath_phase (s : State) : (takePath s).msg.resetPhase = s.msg.resetPhase := by
  cases h : s.uplink.pathRaised with
  | false => rw [takePath_idle h]
  | true => rw [takePath_of_raised h, pathEffect_phase]; rfl

/-- A ready request: the answer, the reply behind the queue, and the path-change event it raised. -/
theorem requestStep_answered {code : BitVec 6} {answer : Request → State → Answer} {r : Request} {s t : State}
    {c : ResultCode} {d : Nat} {ws : List Word} (h : Ready r s) (ha : answer r s = ⟨c, d, ws, t⟩)
    (hphase : t.msg.resetPhase = .none) :
    requestStep code answer r s = answered code r c d ws (takePath t) := by
  have hreply : replyTo code r (answer r s) = ⟨replyKind, r.tag, replyFirst c code d :: ws, false⟩ := by
    rw [ha, replyTo, hphase]
    rfl
  rw [requestStep_ready h, hreply, ha]
  unfold answered
  split
  · exact settleReset_idle (by rw [takePath_phase, hphase]; decide)
  · rw [takePath_enqueue]
    exact settleReset_idle (by rw [show (enqueue _ _ : State).msg.resetPhase = (takePath t).msg.resetPhase from rfl,
      takePath_phase, hphase]; decide)

/-- A request that passes: what its handler answers, with the path-change event it raised. -/
theorem exec_passed {k : RequestKind} {r : Request} {s t : State} {c : ResultCode} {d : Nat} {ws : List Word}
    (h : Ready r s) (hp : Passes k r s) (hh : handlerOf k r s = ⟨c, d, ws, t⟩) (hphase : t.msg.resetPhase = .none) :
    exec (requestInstr k r) s = .next (answered (requestCode k) r c d ws (takePath t)) := by
  rw [exec_request]
  refine congrArg Host.Outcome.next (requestStep_answered h ?_ hphase)
  unfold judge
  rw [show refusalOf k r s = none from hp]
  exact hh

/-- A request that passes and raises no path-change event. -/
theorem exec_answered {k : RequestKind} {r : Request} {s t : State} {c : ResultCode} {d : Nat} {ws : List Word}
    (h : Ready r s) (hp : Passes k r s) (hh : handlerOf k r s = ⟨c, d, ws, t⟩)
    (hphase : t.msg.resetPhase = s.msg.resetPhase) (hpath : t.uplink.pathRaised = s.uplink.pathRaised) :
    exec (requestInstr k r) s = .next (answered (requestCode k) r c d ws t) := by
  obtain ⟨-, -, hnone, -, hcalm⟩ := id h
  rw [exec_passed h hp hh (hphase.trans hnone), takePath_idle (hpath.trans hcalm)]

/-- A request that its own checks refuse. -/
theorem exec_refused {k : RequestKind} {r : Request} {s : State} {c : ResultCode} {d : Nat}
    (h : Ready r s) (hp : Passes k r s) (hh : handlerOf k r s = refuse c d s) :
    exec (requestInstr k r) s = .next (answered (requestCode k) r c d [] s) :=
  exec_answered h hp hh rfl rfl

/-- A request whose handler changes nothing. -/
theorem exec_unchanged {k : RequestKind} {r : Request} {s : State} {c : ResultCode} {d : Nat} {ws : List Word}
    (h : Ready r s) (hp : Passes k r s) (hh : handlerOf k r s = ⟨c, d, ws, s⟩) :
    exec (requestInstr k r) s = .next (answered (requestCode k) r c d ws s) :=
  exec_answered h hp hh rfl rfl

/-! ## Requests that are not taken (R4, R21, R28, R35) -/

theorem requestStep_full {code : BitVec 6} {answer : Request → State → Answer} {r : Request} {s : State}
    (hpath : s.uplink.pathRaised = false) (hl : s.linked = true) (h0 : r.dest ≠ 0)
    (hd : s.ring.position = some r.dest) (hphase : s.msg.resetPhase = .none) (hfull : 4 ≤ s.msg.queue.length) :
    requestStep code answer r s = dropRequest s := by
  have htake : takeRequest code answer r s = dropRequest s := by
    unfold takeRequest answerRequest
    rw [if_neg (by simp [hphase]), if_neg (by simp [hd]), if_neg h0, if_pos hfull]
  unfold requestStep
  rw [if_pos (by simp [hl, addressed, hd]), htake, takePath_idle (s := dropRequest s) hpath]
  exact settleReset_idle (by rw [show (dropRequest s).msg.resetPhase = s.msg.resetPhase from rfl, hphase]; decide)

theorem requestStep_pending {code : BitVec 6} {answer : Request → State → Answer} {r : Request} {s : State}
    (hpath : s.uplink.pathRaised = false) (hphase : s.msg.resetPhase = .pending) :
    requestStep code answer r s = s := by
  have htake : takeRequest code answer r s = s := if_pos (by rw [hphase]; decide)
  unfold requestStep
  rw [htake, takePath_idle hpath, settleReset_idle (by rw [hphase]; decide), ite_self]

/-- Settles O15. -/
theorem requestsNotTaken : Obligations.RequestsNotTaken := by
  intro k r s hpath
  rw [exec_request]
  refine ⟨fun hl h0 hd hphase hfull => ?_, fun hphase => ?_, fun h0 hd => ?_, fun hl => ?_⟩
  · exact congrArg Host.Outcome.next (requestStep_full hpath hl h0 hd hphase hfull)
  · exact congrArg Host.Outcome.next (requestStep_pending hpath hphase)
  · exact congrArg Host.Outcome.next (requestStep_elsewhere (.inr ⟨h0, hd⟩))
  · exact congrArg Host.Outcome.next (requestStep_elsewhere (.inl hl))

/-! ## Kind codes (R25, check 1) -/

theorem requestKindOf_requestCode (k : RequestKind) : requestKindOf (requestCode k) = some k := by
  cases k <;> rfl

theorem requestKindOf_eq_none {code : BitVec 6}
    (h : code.toNat ∉ [1, 2, 3, 4, 5, 6, 8, 9, 10, 11, 16, 17, 18, 19, 20, 24, 25, 28, 29, 48, 49, 50, 51, 52, 53]) :
    requestKindOf code = none := by
  refine List.find?_eq_none.mpr fun k _ hk => h ?_
  rw [← beq_iff_eq.mp hk]
  cases k <;> decide

/-- Settles O16: the code decides which handler answers. -/
theorem badKindAnswered : Obligations.BadKindAnswered := by
  refine ⟨fun code r s h hcode => ?_, fun k r s => ?_⟩
  · have hanswer : answerCode code r s = ⟨.badKind, 0, [], s⟩ := by
      unfold answerCode
      rw [requestKindOf_eq_none hcode]
      rfl
    obtain ⟨-, -, hphase, -, hpath⟩ := id h
    have hstep := requestStep_answered (code := code) h hanswer hphase
    rw [takePath_idle hpath] at hstep
    exact congrArg Host.Outcome.next hstep
  · have hanswer : answerCode (requestCode k) = judge k (handlerOf k) := by
      funext r s
      unfold answerCode
      rw [requestKindOf_requestCode]
    rw [exec_request, ← hanswer]
    rfl

/-! ## RESET (R35) -/

/-- Settles O22: a numbered RESET waits for its reply, a broadcast one is due at once. -/
theorem reset : Obligations.Reset := by
  have hjudge {r : Request} {s : State} (hp : Passes .reset r s) : judge .reset (handlerOf .reset) r s =
      answerOk (s.setMsg { s.msg with resetPhase := if r.dest = 0 then .due else .pending }) := by
    unfold judge
    rw [show refusalOf .reset r s = none from hp]
    rfl
  refine ⟨fun r s h hp h0 => ?_, fun r s h hp h0 => ?_, fun s hdue => ?_, fun s hdue => ?_⟩
  · refine congrArg Host.Outcome.next ((requestStep_ready h).trans ?_)
    have hj := hjudge hp
    rw [if_neg h0] at hj
    obtain ⟨-, -, -, -, hpath⟩ := h
    rw [if_neg h0, show judge .reset handleReset r s = _ from hj]
    refine (congrArg settleReset (takePath_idle ?_)).trans (settleReset_idle ?_)
    · exact hpath
    · exact show ResetPhase.pending ≠ .due by decide
  · refine congrArg Host.Outcome.next ((requestStep_ready h).trans ?_)
    have hj := hjudge hp
    rw [if_pos h0] at hj
    obtain ⟨-, -, -, -, hpath⟩ := h
    rw [if_pos h0, show judge .reset handleReset r s = _ from hj]
    refine (congrArg settleReset (takePath_idle ?_)).trans (if_pos ?_)
    · exact hpath
    · rfl
  · exact congrArg Host.Outcome.next (if_pos hdue)
  · exact congrArg Host.Outcome.next (if_neg hdue)

/-! ## Checks 2 to 5 (R25, R26, R32) -/

theorem lengthRight_iff (k : RequestKind) (r : Request) :
    lengthRight k r = true ↔ ∀ n, requestLength k = some n → r.payload.length = n := by
  unfold lengthRight
  cases requestLength k with
  | none => simp
  | some n => simp

theorem takenInPattern_iff (k : RequestKind) :
    takenInPattern k = true ↔ k = .state ∨ k = .tableRead ∨ k = .patternEnter ∨ k = .patternExit ∨ k = .reset := by
  cases k <;> decide

theorem seatOf_eq_some_iff (n : Nat) (z : Fin 2) : seatOf n = some z ↔ (seatZone z).val = n := by
  constructor
  · intro h
    unfold seatOf at h
    split at h <;> cases h <;> rfl
  · rintro rfl
    revert z
    decide

/-- The panel check in the words of R26. -/
theorem panelMay_iff (r : Request) (s : State) :
    panelMay r s = true ↔ ∃ z : Fin 5, 3 ≤ z.val ∧ z.val = field (argument r 0) 31 28 ∧
      s.mix.zones[z].panel = r.origin ∧ s.mix.zones[z].lock = false := by
  unfold panelMay
  cases hz : seatOf (field (argument r 0) 31 28) with
  | none =>
    simp only [Bool.false_eq_true, false_iff, not_exists]
    rintro z ⟨h3, hcode, -⟩
    have hseat := (seatOf_eq_some_iff (field (argument r 0) 31 28) ⟨z.val - 3, by omega⟩).mpr
      (by simp only [seatZone]; omega)
    rw [hz] at hseat
    cases hseat
  | some a =>
    have ha := (seatOf_eq_some_iff _ a).mp hz
    have hzone : (seatZone a).val = a.val + 3 := rfl
    simp only [Bool.and_eq_true, beq_iff_eq, Bool.not_eq_true']
    constructor
    · rintro ⟨hpanel, hlock⟩
      exact ⟨seatZone a, by omega, ha, hpanel, hlock⟩
    · rintro ⟨z, -, hcode, hpanel, hlock⟩
      obtain rfl : z = seatZone a := Fin.ext (hcode.trans ha.symm)
      exact ⟨hpanel, hlock⟩

theorem permitted_iff (k : RequestKind) (r : Request) (s : State) :
    permitted k r s = true ↔ r.origin = 0 ∨ k = .state ∨
      ((k = .zoneSet ∨ k = .zoneMute ∨ k = .zoneSource) ∧ panelMay r s = true) := by
  unfold permitted
  cases k <;> simp

/-- The operating states of R32's table. -/
theorem takenIn_iff (k : RequestKind) (op : OpState) :
    takenIn k op = true ↔ match k with
      | .state | .tableRead | .reset => True
      | .start => op = .config
      | .stop | .callAlert | .callConnect | .callHold | .callResume | .callMove | .callEnd => op = .run
      | .patternEnter => op ≠ .stopping
      | .patternExit => op = .pattern
      | .tableOpen | .tableWrite | .tableClose | .routeSet | .zoneSet | .zoneMute | .zoneLock | .zoneSource
      | .bankActivate | .protectClear | .radioMode | .radioTune => op = .config ∨ op = .run := by
  cases k <;> cases op <;> decide

/-- The refusal of the first check that fails. -/
theorem refusalOf_of_length {k : RequestKind} {r : Request} {s : State} (h : ¬ lengthRight k r = true) :
    refusalOf k r s = some (.badArg, 65535) := by
  unfold refusalOf
  rw [if_pos (by simpa using h)]

theorem refusalOf_of_pattern {k : RequestKind} {r : Request} {s : State} (hlen : lengthRight k r = true)
    (hop : s.msg.op = .pattern) (h : ¬ takenInPattern k = true) : refusalOf k r s = some (.mode, 0) := by
  unfold refusalOf
  rw [if_neg (by simpa using hlen), if_pos (by simpa [hop] using h)]

theorem refusalOf_of_permission {k : RequestKind} {r : Request} {s : State} (hlen : lengthRight k r = true)
    (hpat : s.msg.op = .pattern → takenInPattern k = true) (h : ¬ permitted k r s = true) :
    refusalOf k r s = some (.denied, 0) := by
  unfold refusalOf
  rw [if_neg (by simpa using hlen), if_neg (by simpa using hpat), if_pos (by simpa using h)]

theorem refusalOf_of_taken {k : RequestKind} {r : Request} {s : State} (hlen : lengthRight k r = true)
    (hpat : s.msg.op = .pattern → takenInPattern k = true) (hper : permitted k r s = true) :
    refusalOf k r s = if takenIn k s.msg.op = true then none else some (.state, 0) := by
  unfold refusalOf
  rw [if_neg (by simpa using hlen), if_neg (by simpa using hpat), if_neg (by simpa using hper)]
  cases takenIn k s.msg.op <;> rfl

theorem passes_iff (k : RequestKind) (r : Request) (s : State) :
    Passes k r s ↔ lengthRight k r = true ∧ (s.msg.op = .pattern → takenInPattern k = true) ∧
      permitted k r s = true ∧ takenIn k s.msg.op = true := by
  unfold Passes refusalOf
  constructor
  · intro h
    split_ifs at h with hl hp hm ht
    exact ⟨by simpa using hl, by simpa using hp, by simpa using hm, by simpa using ht⟩
  · rintro ⟨hl, hp, hm, ht⟩
    rw [if_neg (by simpa using hl), if_neg (by simpa using hp), if_neg (by simpa using hm), if_neg (by simpa using ht)]

theorem exec_failed {k : RequestKind} {r : Request} {s : State} {code : ResultCode} {detail : Nat} (h : Ready r s)
    (hp : refusalOf k r s = some (code, detail)) :
    exec (requestInstr k r) s = .next (answered (requestCode k) r code detail [] s) := by
  rw [exec_request]
  exact congrArg Host.Outcome.next (requestStep_fails h hp)

/-- Settles O14: each check in the words of its rule, and the order of the refusals. -/
theorem refusalOrder : Obligations.RefusalOrder := by
  intro k r s needed longEnough inPattern zone mayAsk takenNow
  have hneeded : requestLength k = needed := by cases k <;> rfl
  have hlong : lengthRight k r = true ↔ longEnough := by
    rw [lengthRight_iff, hneeded]
  have hpattern : takenInPattern k = true ↔ inPattern := takenInPattern_iff k
  have hmay : permitted k r s = true ↔ mayAsk := by
    rw [permitted_iff, panelMay_iff]
    rfl
  have htaken : takenIn k s.msg.op = true ↔ takenNow := takenIn_iff k s.msg.op
  rw [← hlong, ← hpattern, ← hmay, ← htaken]
  refine ⟨passes_iff k r s, fun h => ⟨fun hl => ?_, fun hl hop hp => ?_, fun hl hp hm => ?_, fun hl hp hm ht => ?_⟩⟩
  · exact exec_failed h (refusalOf_of_length hl)
  · exact exec_failed h (refusalOf_of_pattern hl hop hp)
  · exact exec_failed h (refusalOf_of_permission hl hp hm)
  · exact exec_failed h ((refusalOf_of_taken hl hp hm).trans (if_neg ht))

end Sys2Proof.Machine

/-! Requests that store fields: PATTERN ENTER and EXIT, TABLE OPEN, routes and zones, PROTECT CLEAR and RADIO TUNE. -/

namespace Sys2Proof.Machine

/-! ## Fields and codes -/

theorem field_lt (w : Word) (hi lo : Nat) : field w hi lo < 2 ^ (hi + 1 - lo) := Nat.mod_lt _ (Nat.two_pow_pos _)

theorem bitAt_eq_getLsbD (w : Word) (i : Nat) : bitAt w i = w.getLsbD i := by
  have hone : i + 1 - i = 1 := by omega
  unfold bitAt field
  rw [hone, BitVec.getLsbD, Nat.testBit_eq_decide_div_mod_eq, pow_one]
  rfl

theorem finOf_of_le {n i : Nat} (h : n ≤ i) : finOf n i = none := dif_neg (not_lt.mpr h)

/-- A step field without MUTE, in the words of 2.7: the MUTE code is the lowest step, any other is signed. -/
theorem clampSteps_stepOf (lo hi : Int) (code : Nat) :
    clampSteps lo hi (stepOf code) =
      if code = 512 then lo else max lo (min hi (if code < 512 then (code : Int) else (code : Int) - 1024)) := by
  unfold stepOf
  rw [show muteCode = 512 from rfl]
  split
  · rfl
  · rfl

/-! ## PATTERN ENTER and PATTERN EXIT (R18, R20) -/

theorem patternWords_eq (r : Request) :
    patternWords r = #v[(argument r 1).setWidth 24, (argument r 2).setWidth 24, (argument r 3).setWidth 24,
      (argument r 4).setWidth 24] := rfl

theorem formatOf_three : formatOf 3 = none := rfl

/-- Settles O23: by the format code and, from CONFIG, by the map. -/
theorem patternEnterExit : Obligations.PatternEnterExit := by
  refine ⟨fun r s h hp hcode => ?_, fun r s f h hp hcode => ⟨fun i hop hmap => ?_, fun hok => ?_⟩, fun r s h hp => ?_⟩
  · refine exec_refused (k := .patternEnter) h hp ?_
    simp only [handlerOf, handlePatternEnter, hcode, formatOf_three]
  · have hformat : formatOf (field (argument r 0) 1 0) = some f := by
      rw [hcode]
      cases f <;> rfl
    refine exec_refused (k := .patternEnter) h hp ?_
    simp only [handlerOf, handlePatternEnter, hformat, hop, hmap, if_true]
  · have hformat : formatOf (field (argument r 0) 1 0) = some f := by
      rw [hcode]
      cases f <;> rfl
    have hmap : (if s.msg.op = .config then mapFault s.ring.slotMap else none) = none := by
      split
      · next hop => exact hok.resolve_left (not_not.mpr hop)
      · rfl
    refine exec_answered (k := .patternEnter) h hp ?_ rfl rfl
    simp only [handlerOf, handlePatternEnter, hformat, hmap]
    rfl
  · exact exec_answered (k := .patternExit) h hp rfl rfl rfl

/-! ## TABLE OPEN (R37, R40, R97) -/

theorem openFault_iff (c : Cursor) :
    openFault c = true ↔ tableEntries c.table ≤ c.index ∨ (c.spare = true ∧ c.table ≠ .coef) ∨
      (c.spare = false ∧ c.table = .coef) ∨ (c.activate = true ∧ c.spare = false) := by
  simp only [openFault, Bool.or_eq_true, Bool.and_eq_true, decide_eq_true_eq, bne_iff_ne, beq_iff_eq,
    Bool.not_eq_true', or_assoc]

theorem tableWritable_iff (t : Table) (op : OpState) :
    tableWritable t op = true ↔
      ¬(op ≠ .config ∧ ¬(op = .run ∧ t ∉ [Table.slotMap, .channel, .route, .zone])) := by
  cases t <;> cases op <;> decide

theorem spareInTransition_iff (s : State) (c : Fin 28) :
    spareInTransition s c = true ↔ s.chan.channels[c].spare = .queued ∨ s.chan.channels[c].spare = .fading := by
  simp only [spareInTransition, Bool.or_eq_true, beq_iff_eq]

/-- An aborted close leaves no cursor, and a COEF one's spare LOADED. -/
theorem closeCursor_aborted (s : State) :
    closeCursor false s =
      (let t := s.setMsg { s.msg with cursor := none }
       match s.msg.cursor with
       | none => s
       | some c => if c.table = Table.coef then setSpareState c.chan .loaded t else t) := by
  unfold closeCursor
  cases s.msg.cursor with
  | none => rfl
  | some c => simp only [Bool.false_and, Bool.false_eq_true, if_false]

/-- A cursor that opens replaces an open one, whose COEF spare returns to LOADED. -/
theorem openCursor_eq (k : Cursor) (s : State) :
    openCursor k s =
      (let u := match s.msg.cursor with
        | some c => if c.table = Table.coef then setSpareState c.chan .loaded s else s
        | none => s
       let v := u.setMsg { u.msg with cursor := some k }
       if k.table = Table.coef then setSpareState k.chan .open_ v else v) := by
  unfold openCursor
  rw [closeCursor_aborted]
  cases s.msg.cursor with
  | none => rfl
  | some c =>
    by_cases hc : c.table = .coef
    · simp only [if_pos hc]
      rfl
    · simp only [if_neg hc]
      rfl

theorem openCursor_phase (k : Cursor) (s : State) : (openCursor k s).msg.resetPhase = s.msg.resetPhase := by
  rw [openCursor_eq]
  cases s.msg.cursor with
  | none => dsimp only; split <;> rfl
  | some c =>
    dsimp only
    split <;> split <;> rfl

/-- Settles O24: the three refusals in their order, and the cursor that replaces another. -/
theorem tableOpen : Obligations.TableOpen := by
  intro r s h hp w t i ch bad locked busy
  let c := cursorOfWord w
  have hbad : openFault c = true ↔ bad := openFault_iff c
  have hlocked : tableWritable t s.msg.op = true ↔ ¬locked := tableWritable_iff t s.msg.op
  have hhandle : handlerOf .tableOpen r s =
      if openFault c then refuse .badArg 0 s
      else if !tableWritable t s.msg.op then refuse .state 0 s
      else if c.spare && spareInTransition s ch then refuse .busy 0 s
      else answerOk (openCursor c s) := rfl
  have hbusy (hnb : ¬bad) : (c.spare && spareInTransition s ch) = true ↔ busy := by
    have hspare : c.spare = true ↔ t = .coef := by
      rw [← hbad, openFault_iff] at hnb
      push Not at hnb
      obtain ⟨-, hoff, hon, -⟩ := hnb
      refine ⟨hoff, fun ht => ?_⟩
      by_contra hs
      exact hon (Bool.eq_false_iff.mpr hs) ht
    rw [Bool.and_eq_true, hspare, spareInTransition_iff]
  refine ⟨fun hb => ?_, fun hnb hl => ?_, fun hnb hnl hb => ?_, fun hnb hnl hnbusy => ?_⟩
  · refine exec_refused (k := .tableOpen) h hp ?_
    rw [hhandle, if_pos (hbad.mpr hb)]
  · refine exec_refused (k := .tableOpen) h hp ?_
    rw [hhandle, if_neg (mt hbad.mp hnb), if_pos (by simpa using mt hlocked.mp (not_not.mpr hl))]
  · refine exec_refused (k := .tableOpen) h hp ?_
    rw [hhandle, if_neg (mt hbad.mp hnb), if_neg (by simpa using hlocked.mpr hnl), if_pos ((hbusy hnb).mpr hb)]
  · have hopen : openCursor c s = _ := openCursor_eq c s
    refine exec_answered (k := .tableOpen) h hp ?_ ?_ ?_
    · rw [hhandle, if_neg (mt hbad.mp hnb), if_neg (by simpa using hlocked.mpr hnl),
        if_neg (mt (hbusy hnb).mp hnbusy), hopen]
      rfl
    · exact hopen ▸ openCursor_phase c s
    · obtain ⟨-, -, -, -, -, -, -, huplink, -⟩ := openCursor_frame c s
      exact congrArg UplinkUnit.pathRaised (hopen ▸ huplink)

/-! ## ROUTE SET (R52) -/

theorem routeStateOf_of_two {n : Nat} (h : n = 1 ∨ n = 2) :
    routeStateOf n = some (if n = 1 then .enabled else .disabled) := by
  rcases h with rfl | rfl <;> rfl

theorem duckOf_of_le {n : Nat} (h : n ≤ 2) :
    duckOf n = some (if n = 0 then .none else if n = 1 then .media else .prompt) := by
  interval_cases n <;> rfl

/-- The arguments that ROUTE SET refuses whatever the entry holds. -/
theorem handleRouteSet_badArg {r : Request} {s : State}
    (h : 31 < field (argument r 0) 31 24 ∨ field (argument r 0) 23 22 = 0 ∨ field (argument r 0) 23 22 = 3 ∨
      field (argument r 0) 21 20 = 3) : handleRouteSet r s = refuse .badArg 0 s := by
  unfold handleRouteSet
  dsimp only
  cases hi : finOf 32 (field (argument r 0) 31 24) with
  | none => rfl
  | some i =>
    cases hst : routeStateOf (field (argument r 0) 23 22) with
    | none => rfl
    | some st =>
      cases hduck : duckOf (field (argument r 0) 21 20) with
      | none => rfl
      | some duck =>
        refine if_pos (.inr ?_)
        rcases h with h | h | h | h
        · rw [finOf_of_le h] at hi
          cases hi
        · rw [h] at hst
          cases hst
          rfl
        · rw [h] at hst
          cases hst
        · rw [h] at hduck
          cases hduck

theorem handleRouteSet_empty {r : Request} {s : State} {i : Fin 32} (hi : i.val = field (argument r 0) 31 24)
    (he : s.mix.routes[i].state = .empty) : handleRouteSet r s = refuse .badArg 0 s := by
  unfold handleRouteSet
  dsimp only
  rw [← hi, finOf_val]
  cases routeStateOf (field (argument r 0) 23 22) with
  | none => rfl
  | some st =>
    cases duckOf (field (argument r 0) 21 20) with
    | none => rfl
    | some duck => exact if_pos (.inl he)

/-- What a valid ROUTE SET stores. -/
theorem handleRouteSet_stores {r : Request} {s : State} {i : Fin 32} (hi : i.val = field (argument r 0) 31 24)
    (he : s.mix.routes[i].state ≠ .empty) (hst : field (argument r 0) 23 22 = 1 ∨ field (argument r 0) 23 22 = 2)
    (hduck : field (argument r 0) 21 20 ≤ 2) :
    handleRouteSet r s = answerOk (s.setMix { s.mix with
      routes := s.mix.routes.set i { s.mix.routes[i] with
        state := if field (argument r 0) 23 22 = 1 then .enabled else .disabled
        duck := if field (argument r 0) 21 20 = 0 then .none
          else if field (argument r 0) 21 20 = 1 then .media else .prompt
        trim := clampSteps (-320) 32 (stepOf (field (argument r 0) 9 0)) } }) := by
  have hset : (if field (argument r 0) 23 22 = 1 then RouteState.enabled else .disabled) ≠ .empty := by
    split <;> decide
  unfold handleRouteSet
  dsimp only
  rw [← hi, finOf_val, routeStateOf_of_two hst, duckOf_of_le hduck]
  exact if_neg (not_or.mpr ⟨he, hset⟩)

/-! ## The zones' requests (R46 to R48) -/

theorem onZone_badArg {r : Request} {s : State} (f : Fin 5 → Answer) (h : 4 < field (argument r 0) 31 28) :
    onZone r s f = refuse .badArg 0 s := by
  unfold onZone
  rw [finOf_of_le h]

theorem onZone_zone {r : Request} {s : State} (f : Fin 5 → Answer) {z : Fin 5}
    (h : z.val = field (argument r 0) 31 28) : onZone r s f = f z := by
  unfold onZone
  rw [← h, finOf_val]

/-- Settles O28: each request by its arguments. -/
theorem routeAndZoneRequests : Obligations.RouteAndZoneRequests := by
  refine ⟨fun r s h hp => ⟨fun hbad => ?_, fun i hi => ⟨fun he => ?_, fun he hst hduck => ?_⟩⟩, fun r s h =>
    ⟨fun hp => ⟨fun hz => ?_, fun z v hz hv => ?_⟩, fun hp => ⟨fun hz => ?_, fun z hz => ?_⟩,
      fun hp => ⟨fun hz => ?_, fun z hz => ?_⟩⟩⟩
  · exact exec_refused (k := .routeSet) h hp (handleRouteSet_badArg hbad)
  · exact exec_refused (k := .routeSet) h hp (handleRouteSet_empty hi he)
  · have hstores := handleRouteSet_stores hi he hst hduck
    rw [clampSteps_stepOf] at hstores
    exact exec_answered (k := .routeSet) h hp hstores rfl rfl
  · exact exec_refused (k := .zoneSet) h hp (onZone_badArg _ hz)
  · refine exec_answered (k := .zoneSet) h hp ?_ rfl rfl
    have hvolume : finWrap 63 (min 63 (field (argument r 0) 7 0)) = v := by
      apply Fin.ext
      rw [finWrap, Fin.val_ofNat, ← hv]
      exact Nat.mod_eq_of_lt v.isLt
    rw [show handlerOf .zoneSet r s = _ from onZone_zone _ hz, hvolume]
    rfl
  · exact exec_refused (k := .zoneMute) h hp (onZone_badArg _ hz)
  · refine exec_answered (k := .zoneMute) h hp ?_ rfl rfl
    rw [show handlerOf .zoneMute r s = _ from onZone_zone _ hz, bitAt_eq_getLsbD]
    rfl
  · exact exec_refused (k := .zoneLock) h hp (onZone_badArg _ hz)
  · refine exec_answered (k := .zoneLock) h hp ?_ rfl rfl
    rw [show handlerOf .zoneLock r s = _ from onZone_zone _ hz, bitAt_eq_getLsbD]
    rfl

/-! ## PROTECT CLEAR (R123, R124) -/

/-- The records of some channels returned to their reset values. -/
def clearRecords (cs : List (Fin 28)) (s : State) : State :=
  s.setProt { s.prot with records := cs.foldl (fun v (c : Fin 28) => v.set c .initial) s.prot.records }

theorem foldl_set_initial (cs : List (Fin 28)) (v : Vector ProtectRecord 28) (d : Fin 28) :
    (cs.foldl (fun v (c : Fin 28) => v.set c .initial) v)[d] = if d ∈ cs then .initial else v[d] := by
  induction cs generalizing v with
  | nil => rfl
  | cons c cs ih =>
    rw [List.foldl_cons, ih, vector_set_fin]
    by_cases hd : d = c
    · simp [hd]
    · simp [hd]

theorem clearRecords_all (s : State) :
    clearRecords (List.finRange 28) s = s.setProt { s.prot with records := Vector.replicate 28 .initial } := by
  have hrecords : (List.finRange 28).foldl (fun v (c : Fin 28) => v.set c .initial) s.prot.records =
      Vector.replicate 28 .initial := by
    refine Vector.ext fun i hi => ?_
    have hall := foldl_set_initial (List.finRange 28) s.prot.records ⟨i, hi⟩
    rw [if_pos (List.mem_finRange _)] at hall
    rw [Vector.getElem_replicate]
    exact hall
  unfold clearRecords
  rw [hrecords]

/-- Channel after channel cleared: the records all, and one event when some reduction was not 0. -/
theorem foldl_clearProtection {cs : List (Fin 28)} (hn : cs.Nodup) (s : State) :
    cs.foldl (fun t c => clearProtection c t) s =
      if s.msg.op = .run ∧ ∃ c ∈ cs, s.prot.records[c].reduction ≠ .steps 0 then raisePath (clearRecords cs s)
      else clearRecords cs s := by
  induction cs generalizing s with
  | nil => exact (if_neg fun ⟨_, _, hd, _⟩ => List.not_mem_nil hd).symm
  | cons c cs ih =>
    obtain ⟨hc, hcs⟩ := List.nodup_cons.mp hn
    have hrest (d : Fin 28) (hd : d ∈ cs) : (clearRecords [c] s).prot.records[d] = s.prot.records[d] :=
      (foldl_set_initial [c] s.prot.records d).trans
        (if_neg fun hmem => hc ((List.mem_singleton.mp hmem : d = c) ▸ hd))
    have hone : clearProtection c s =
        if s.msg.op = .run ∧ s.prot.records[c].reduction ≠ .steps 0 then raisePath (clearRecords [c] s)
        else clearRecords [c] s := rfl
    rw [List.foldl_cons, ih hcs, hone]
    by_cases hfirst : s.msg.op = .run ∧ s.prot.records[c].reduction ≠ .steps 0
    · have hsome : s.msg.op = .run ∧ ∃ d ∈ c :: cs, s.prot.records[d].reduction ≠ .steps 0 :=
        ⟨hfirst.1, c, List.mem_cons_self, hfirst.2⟩
      rw [if_pos hfirst, if_pos hsome]
      split <;> rfl
    · rw [if_neg hfirst]
      refine if_congr (and_congr_right fun hrun => ⟨?_, ?_⟩) rfl rfl
      · rintro ⟨d, hd, hne⟩
        exact ⟨d, List.mem_cons_of_mem c hd, hrest d hd ▸ hne⟩
      · rintro ⟨d, hd, hne⟩
        rcases List.mem_cons.mp hd with rfl | hd
        · exact absurd ⟨hrun, hne⟩ hfirst
        · exact ⟨d, hd, (hrest d hd).symm ▸ hne⟩

/-- A path-change event raised under a condition, taken. -/
theorem takePath_ite_raised {p : Prop} [Decidable p] {t : State} (h : t.uplink.pathRaised = false) :
    takePath (if p then raisePath t else t) = if p then pathEffect t else t := by
  split
  · exact takePath_raised h
  · exact takePath_idle h

/-- Settles O33: one channel's record or all, and the event when a reduction other than 0 is gone in RUN. -/
theorem protectClear : Obligations.ProtectClear := by
  intro r s h hp n
  obtain ⟨-, -, hphase, -, hpath⟩ := id h
  refine ⟨fun ⟨hlow, hhigh⟩ => ?_, fun c hc => ?_, fun hall => ?_⟩
  · refine exec_refused (k := .protectClear) h hp ((if_neg (show n ≠ 255 by omega)).trans ?_)
    rw [show finOf 28 n = none from finOf_of_le hlow]
  · have hhandle : handlerOf .protectClear r s = answerOk (clearProtection c s) := by
      refine (if_neg (show n ≠ 255 by omega)).trans ?_
      rw [show finOf 28 n = some c from hc ▸ finOf_val c]
    have hphase' : (clearProtection c s).msg.resetPhase = .none := by
      unfold clearProtection
      dsimp only
      split <;> exact hphase
    have hexec := exec_passed (k := .protectClear) h hp hhandle hphase'
    rw [clearProtection, takePath_ite_raised (by exact hpath)] at hexec
    exact hexec
  · have hhandle : handlerOf .protectClear r s =
        answerOk ((List.finRange 28).foldl (fun t c => clearProtection c t) s) := if_pos hall
    rw [foldl_clearProtection (List.nodup_finRange 28), clearRecords_all] at hhandle
    have hexec := exec_passed (k := .protectClear) h hp hhandle (by split <;> exact hphase)
    rw [takePath_ite_raised (by exact hpath)] at hexec
    simp only [List.mem_finRange, true_and] at hexec
    exact hexec

/-! ## RADIO TUNE (R147, R157, R159) -/

/-- Settles O35: the frequency's range, a repeat, a change of station. -/
theorem radioTune : Obligations.RadioTune := by
  intro r s h hp f id afresh
  have hid : (if bitAt (argument r 0) 31 then some ((argument r 1).setWidth 16) else none) = id := by
    rw [bitAt_eq_getLsbD]
  have hhandle : handlerOf .radioTune r s =
      if f < 8750 ∨ 10800 < f then refuse .badArg 0 s else answerOk (tuneAntennas (tuneRadio f id s)) := by
    rw [← hid]
    rfl
  refine ⟨fun hout => ?_, fun hlow hhigh hf hi => ?_, fun hlow hhigh hnew => ?_⟩
  · exact exec_refused (k := .radioTune) h hp (hhandle.trans (if_pos hout))
  · rw [if_neg (by omega), tuneRadio, if_pos ⟨hf, hi⟩] at hhandle
    exact exec_answered (k := .radioTune) h hp hhandle rfl rfl
  · rw [if_neg (by omega), tuneRadio, if_neg (fun hsame => hnew.elim (· hsame.1) (· hsame.2))] at hhandle
    by_cases hfair : s.radio.reception = .fair
    · rw [moveRadio, if_pos (by exact hfair.symm)] at hhandle
      dsimp only
      rw [if_pos hfair]
      exact exec_answered (k := .radioTune) h hp hhandle rfl rfl
    · rw [moveRadio, if_neg (by exact fun he => hfair he.symm)] at hhandle
      dsimp only
      rw [if_neg hfair]
      exact exec_answered (k := .radioTune) h hp hhandle rfl rfl

end Sys2Proof.Machine

/-! Words and their fields (spec 02, 2.7): a word built from its fields gives each of them back, so that every table
entry is read back from its words. -/

namespace Sys2Proof.Machine

/-! ## A word built from its fields -/

theorem wordOf_perm {l m : List Nat} (h : l.Perm m) : wordOf l = wordOf m := by
  unfold wordOf
  rw [h.sum_eq]

/-- A field of a word depends on the sum of its parts alone: what the word cuts off lies above every field. -/
theorem field_wordOf (parts : List Nat) {hi lo : Nat} (h : hi < 32) :
    field (wordOf parts) hi lo = parts.sum / 2 ^ lo % 2 ^ (hi + 1 - lo) := by
  unfold field wordOf
  rw [BitVec.toNat_ofNat]
  rcases lt_or_ge hi lo with hlo | hlo
  · have hz : hi + 1 - lo = 0 := by omega
    simp [hz, Nat.mod_one]
  · have hw : 2 ^ 32 = 2 ^ lo * 2 ^ (32 - lo) := by
      rw [← pow_add]
      congr 1
      omega
    rw [hw, Nat.mod_mul_right_div_self, Nat.mod_mod_of_dvd]
    exact pow_dvd_pow 2 (by omega)

/-- A part above a field does not reach it. -/
theorem field_wordOf_above {v k hi lo : Nat} {parts : List Nat} (hk : hi < k) (h : hi < 32) :
    field (wordOf (at_ v k :: parts)) hi lo = field (wordOf parts) hi lo := by
  rw [field_wordOf _ h, field_wordOf _ h, List.sum_cons, at_]
  rcases lt_or_ge hi lo with hlo | hlo
  · have hz : hi + 1 - lo = 0 := by omega
    simp [hz, Nat.mod_one]
  · have hsplit : v * 2 ^ k = 2 ^ lo * (2 ^ (hi + 1 - lo) * (v * 2 ^ (k - (hi + 1)))) := by
      have hpow : 2 ^ k = 2 ^ lo * (2 ^ (hi + 1 - lo) * 2 ^ (k - (hi + 1))) := by
        rw [← pow_add, ← pow_add]
        congr 1
        omega
      rw [hpow]
      ring
    rw [hsplit, Nat.mul_add_div (Nat.two_pow_pos lo), Nat.mul_add_mod]

/-- A part at a field is the field, when the parts below stay below. -/
theorem field_wordOf_at {v hi lo : Nat} {parts : List Nat} (hv : v < 2 ^ (hi + 1 - lo)) (hlow : parts.sum < 2 ^ lo)
    (h : hi < 32) : field (wordOf (at_ v lo :: parts)) hi lo = v := by
  rw [field_wordOf _ h, List.sum_cons, at_, mul_comm, Nat.mul_add_div (Nat.two_pow_pos lo), Nat.div_eq_of_lt hlow,
    add_zero, Nat.mod_eq_of_lt hv]

/-- A word's layout: its fields as value, lowest bit and width, the highest first. -/
def layoutSum (l : List (Nat × Nat × Nat)) : Nat := (l.map fun p => at_ p.1 p.2.1).sum

/-- The fields of a layout fit, one above the other, below a bit. -/
def LayoutFits : List (Nat × Nat × Nat) → Nat → Prop
  | [], _ => True
  | (v, lo, w) :: l, n => lo + w ≤ n ∧ v < 2 ^ w ∧ LayoutFits l lo

theorem at_zero (v : Nat) : at_ v 0 = v := Nat.mul_one v

theorem zero_at (lo : Nat) : at_ 0 lo = 0 := Nat.zero_mul _

/-- `List.sum_cons` for the parts of a word: stated for Nat, so that no proof about a word compares the structures on Nat
under the powers of two. -/
theorem parts_cons (n : Nat) (parts : List Nat) : (n :: parts).sum = n + parts.sum := List.sum_cons

@[simp] theorem layoutSum_nil : layoutSum [] = 0 := rfl

@[simp] theorem layoutSum_cons (v lo w : Nat) (l : List (Nat × Nat × Nat)) :
    layoutSum ((v, lo, w) :: l) = at_ v lo + layoutSum l := List.sum_cons

theorem layoutSum_lt {l : List (Nat × Nat × Nat)} {n : Nat} (h : LayoutFits l n) : layoutSum l < 2 ^ n := by
  induction l generalizing n with
  | nil => exact Nat.two_pow_pos n
  | cons p l ih =>
    obtain ⟨hn, hv, hl⟩ := h
    calc layoutSum (p :: l) = at_ p.1 p.2.1 + layoutSum l := List.sum_cons
      _ < p.1 * 2 ^ p.2.1 + 2 ^ p.2.1 := Nat.add_lt_add_left (ih hl) _
      _ = (p.1 + 1) * 2 ^ p.2.1 := (Nat.succ_mul _ _).symm
      _ ≤ 2 ^ p.2.2 * 2 ^ p.2.1 := Nat.mul_le_mul_right _ hv
      _ = 2 ^ (p.2.1 + p.2.2) := by rw [← pow_add, add_comm]
      _ ≤ 2 ^ n := Nat.pow_le_pow_right (by decide) hn

theorem LayoutFits.le_of_mem {l : List (Nat × Nat × Nat)} {n v lo w : Nat} (h : LayoutFits l n)
    (hm : (v, lo, w) ∈ l) : lo + w ≤ n := by
  induction l generalizing n with
  | nil => cases hm
  | cons p l ih =>
    obtain ⟨hn, -, hl⟩ := h
    rcases List.mem_cons.mp hm with rfl | hm
    · exact hn
    · exact (ih hl hm).trans ((Nat.le_add_right _ _).trans hn)

/-- A word that is the sum of a layout gives each of its fields back. -/
theorem field_of_layout {parts : List Nat} {l : List (Nat × Nat × Nat)} {v lo w : Nat}
    (hsum : parts.sum = layoutSum l) (h : LayoutFits l 32) (hm : (v, lo, w) ∈ l) (hw : 0 < w) :
    field (wordOf parts) (lo + w - 1) lo = v := by
  have hword : wordOf parts = wordOf (l.map fun p => at_ p.1 p.2.1) := congrArg (BitVec.ofNat 32) hsum
  rw [hword]
  clear hword hsum
  have hgen (n : Nat) (hn : n ≤ 32) (hfit : LayoutFits l n) :
      field (wordOf (l.map fun p => at_ p.1 p.2.1)) (lo + w - 1) lo = v := by
    clear h
    induction l generalizing n with
    | nil => cases hm
    | cons p l ih =>
      obtain ⟨v', lo', w'⟩ := p
      obtain ⟨hp, hv, hl⟩ := hfit
      rw [List.map_cons]
      rcases List.mem_cons.mp hm with he | hm
      · cases he
        refine field_wordOf_at ?_ (layoutSum_lt hl) (by omega)
        rwa [show lo + w - 1 + 1 - lo = w by omega]
      · have hbelow := hl.le_of_mem hm
        rw [field_wordOf_above (by dsimp only; omega) (by omega)]
        exact ih hm lo' (by omega) hl
  exact hgen 32 le_rfl h

/-- The lowest part of a word. -/
theorem field_wordOf_zero {v hi : Nat} (hv : v < 2 ^ (hi + 1)) (h : hi < 32) : field (wordOf [v]) hi 0 = v := by
  rw [field_wordOf _ h, List.sum_singleton, pow_zero, Nat.div_one, Nat.sub_zero, Nat.mod_eq_of_lt hv]

theorem bit_lt (b : Bool) : bit b < 2 := by
  cases b <;> decide

theorem bitAt_of_field {w : Word} {i : Nat} {b : Bool} (h : field w i i = bit b) : bitAt w i = b := by
  unfold bitAt
  rw [h]
  cases b <;> rfl

/-! ## Two's complement and step fields -/

theorem codeOf_lt (bits : Nat) (v : Int) : codeOf bits v < 2 ^ bits := by
  unfold codeOf
  have hpos : (0 : Int) < 2 ^ bits := by positivity
  have hlt := Int.emod_lt_of_pos v hpos
  have hnonneg := Int.emod_nonneg v hpos.ne'
  zify
  rwa [Int.toNat_of_nonneg hnonneg]

/-- A value in the range of a two's-complement field is read back from its code. -/
theorem signedOf_codeOf {n : Nat} {v : Int} (hlow : -2 ^ n ≤ v) (hhigh : v < 2 ^ n) :
    signedOf (n + 1) (codeOf (n + 1) v) = v := by
  unfold signedOf codeOf
  rw [Nat.add_sub_cancel, pow_succ]
  have hpos : (0 : Int) < 2 ^ n := by positivity
  rcases lt_or_ge v 0 with hv | hv
  · have hmod : v % (2 ^ n * 2) = v + 2 ^ n * 2 := by
      rw [← Int.add_mul_emod_self_left v (2 ^ n * 2) 1, mul_one, Int.emod_eq_of_lt (by omega) (by omega)]
    have hnat := Int.toNat_of_nonneg (a := v + 2 ^ n * 2) (by omega)
    rw [hmod, if_neg (by zify; omega), hnat]
    ring
  · have hmod : v % (2 ^ n * 2) = v := Int.emod_eq_of_lt hv (by omega)
    have hnat := Int.toNat_of_nonneg hv
    rw [hmod, if_pos (by zify; omega), hnat]

theorem codeOf_ten_ne_mute {v : Int} (hlow : -511 ≤ v) (hhigh : v ≤ 511) : codeOf 10 v ≠ muteCode := by
  unfold codeOf muteCode
  omega

theorem stepOf_codeOf {v : Int} (hlow : -511 ≤ v) (hhigh : v ≤ 511) : stepOf (codeOf 10 v) = .steps v := by
  unfold stepOf
  rw [if_neg (codeOf_ten_ne_mute hlow hhigh), signedOf_codeOf (n := 9) (by omega) (by omega)]

theorem stepCode_lt (x : Step) : stepCode x < 2 ^ 10 := by
  cases x with
  | mute => decide
  | steps n => exact codeOf_lt 10 n

theorem stepOf_stepCode {x : Step} (h : match x with | .mute => True | .steps n => -511 ≤ n ∧ n ≤ 511) :
    stepOf (stepCode x) = x := by
  cases x with
  | mute => rfl
  | steps n => exact stepOf_codeOf h.1 h.2

theorem clampInt_of_mem {lo hi v : Int} (hlow : lo ≤ v) (hhigh : v ≤ hi) : clampInt lo hi v = v := by
  unfold clampInt
  omega

/-- A trim or a reduction is read back from its step field. -/
theorem clampSteps_codeOf {lo hi v : Int} (hlow : lo ≤ v) (hhigh : v ≤ hi) (hlo : -511 ≤ lo) (hhi : hi ≤ 511) :
    clampSteps lo hi (stepOf (codeOf 10 v)) = v := by
  rw [stepOf_codeOf (by omega) (by omega)]
  exact clampInt_of_mem hlow hhigh

/-! ## The entries of the tables -/

theorem roleOfWord_wordOfRole (x : Role) : roleOfWord (wordOfRole x) = some x := by
  cases x with
  | unused | uplink => rfl
  | antI a n | antQ a n =>
    revert a n
    decide
  | mic m => revert m; decide
  | srcL x | srcR x => cases x <;> rfl
  | srcM x => cases x <;> rfl
  | out c => revert c; decide
  | amp a => revert a; decide

theorem channelZoneOf_noneSeven (z : Option (Fin 5)) : channelZoneOf (noneSeven z) = some z := by
  revert z
  decide

theorem channelAmpOf_noneSeven (a : Option (Fin 4)) : channelAmpOf (noneSeven a) = some a := by
  revert a
  decide

theorem noneSeven_lt {n : Nat} (hn : n ≤ 8) (x : Option (Fin n)) : noneSeven x < 8 := by
  cases x with
  | none => exact Nat.lt_succ_self 7
  | some y => exact y.isLt.trans_le hn

theorem sideCode_lt (x : Side) : sideCode x < 3 := by
  cases x <;> decide

theorem sideOf_sideCode (x : Side) : sideOf (sideCode x) = some x := by
  cases x <;> rfl

/-- The layout of a CHANNEL entry. -/
def channelLayout (x : ChannelRecord) : List (Nat × Nat × Nat) :=
  [(x.ampChannel.val, 24, 3), (noneSeven x.zone, 20, 3), (sideCode x.side, 18, 2), (x.cls.val, 16, 2),
    (noneSeven x.amp, 12, 3), (codeOf 10 x.trim, 0, 10)]

theorem wordOfChannel_field {x : ChannelRecord} {v lo w : Nat} (hm : (v, lo, w) ∈ channelLayout x) (hw : 0 < w) :
    field (wordOfChannel x) (lo + w - 1) lo = v := by
  have hside := sideCode_lt x.side
  have hfits : LayoutFits (channelLayout x) 32 :=
    ⟨by decide, x.ampChannel.isLt, by decide, noneSeven_lt (by decide) _, by decide, hside.trans (by decide), by decide,
      x.cls.isLt, by decide, noneSeven_lt (by decide) _, by decide, codeOf_lt 10 _, trivial⟩
  exact field_of_layout
    (by simp only [channelLayout, layoutSum_cons, layoutSum_nil, parts_cons, List.sum_nil, at_zero]) hfits hm hw

theorem channelOfWord_wordOfChannel {x : ChannelRecord} (hlow : -320 ≤ x.trim) (hhigh : x.trim ≤ 32) :
    channelOfWord (wordOfChannel x) = some x := by
  have hac : field (wordOfChannel x) 26 24 = x.ampChannel.val :=
    wordOfChannel_field (w := 3) (by simp [channelLayout]) (by decide)
  have hzone : field (wordOfChannel x) 22 20 = noneSeven x.zone :=
    wordOfChannel_field (w := 3) (by simp [channelLayout]) (by decide)
  have hside : field (wordOfChannel x) 19 18 = sideCode x.side :=
    wordOfChannel_field (w := 2) (by simp [channelLayout]) (by decide)
  have hcls : field (wordOfChannel x) 17 16 = x.cls.val :=
    wordOfChannel_field (w := 2) (by simp [channelLayout]) (by decide)
  have hamp : field (wordOfChannel x) 14 12 = noneSeven x.amp :=
    wordOfChannel_field (w := 3) (by simp [channelLayout]) (by decide)
  have htrim : field (wordOfChannel x) 9 0 = codeOf 10 x.trim :=
    wordOfChannel_field (w := 10) (by simp [channelLayout]) (by decide)
  simp only [channelOfWord, hac, hzone, hside, hcls, hamp, htrim, channelZoneOf_noneSeven, sideOf_sideCode,
    channelAmpOf_noneSeven, Option.bind_some, Option.map_some, clampSteps_codeOf hlow hhigh (by decide) (by decide),
    finWrap, Fin.ofNat_val_eq_self]

theorem sourceCode_lt (x : Source) : sourceCode x < 7 := by
  cases x <;> decide

theorem sourceOf_sourceCode (x : Source) : sourceOf (sourceCode x) = some x := by
  cases x <;> rfl

theorem routeStateCode_lt (x : RouteState) : routeStateCode x < 3 := by
  cases x <;> decide

theorem routeStateOf_routeStateCode (x : RouteState) : routeStateOf (routeStateCode x) = some x := by
  cases x <;> rfl

theorem duckCode_lt (x : DuckClass) : duckCode x < 3 := by
  cases x <;> decide

theorem duckOf_duckCode (x : DuckClass) : duckOf (duckCode x) = some x := by
  cases x <;> rfl

/-- The layout of a ROUTE entry. -/
def routeLayout (x : RouteRecord) : List (Nat × Nat × Nat) :=
  [(routeStateCode x.state, 30, 2), (sourceCode x.source, 27, 3), (x.zone.val, 24, 3), (duckCode x.duck, 20, 2),
    (codeOf 10 x.trim, 0, 10)]

theorem wordOfRoute_field {x : RouteRecord} {v lo w : Nat} (hm : (v, lo, w) ∈ routeLayout x) (hw : 0 < w) :
    field (wordOfRoute x) (lo + w - 1) lo = v := by
  have hzone := x.zone.isLt
  have hfits : LayoutFits (routeLayout x) 32 :=
    ⟨by decide, (routeStateCode_lt _).trans (by decide), by decide, (sourceCode_lt _).trans (by decide), by decide,
      hzone.trans (by decide), by decide, (duckCode_lt _).trans (by decide), by decide, codeOf_lt 10 _, trivial⟩
  exact field_of_layout
    (by simp only [routeLayout, layoutSum_cons, layoutSum_nil, parts_cons, List.sum_nil, at_zero]) hfits hm hw

theorem routeOfWord_wordOfRoute {x : RouteRecord} (hstate : x.state ≠ .empty) (hsource : x.source ≠ .call)
    (hlow : -320 ≤ x.trim) (hhigh : x.trim ≤ 32) : routeOfWord (wordOfRoute x) = some x := by
  have hst : field (wordOfRoute x) 31 30 = routeStateCode x.state :=
    wordOfRoute_field (w := 2) (by simp [routeLayout]) (by decide)
  have hsrc : field (wordOfRoute x) 29 27 = sourceCode x.source :=
    wordOfRoute_field (w := 3) (by simp [routeLayout]) (by decide)
  have hzone : field (wordOfRoute x) 26 24 = x.zone.val :=
    wordOfRoute_field (w := 3) (by simp [routeLayout]) (by decide)
  have hduck : field (wordOfRoute x) 21 20 = duckCode x.duck :=
    wordOfRoute_field (w := 2) (by simp [routeLayout]) (by decide)
  have htrim : field (wordOfRoute x) 9 0 = codeOf 10 x.trim :=
    wordOfRoute_field (w := 10) (by simp [routeLayout]) (by decide)
  simp only [routeOfWord, hst, hsrc, hzone, hduck, htrim, routeStateOf_routeStateCode, sourceOf_sourceCode,
    duckOf_duckCode, finOf_val, Option.bind_some, if_neg hstate, if_neg hsource,
    clampSteps_codeOf hlow hhigh (by decide) (by decide)]

/-- A coefficient is read back from its word. -/
theorem signedOf_coefWord {v : Int} (hlow : -8388608 ≤ v) (hhigh : v ≤ 8388607) :
    signedOf 24 (field (wordOf [codeOf 24 v]) 23 0) = v := by
  rw [field_wordOf_zero (codeOf_lt 24 v) (by decide), signedOf_codeOf (n := 23) (by omega) (by omega)]

theorem stageOfWords_wordsOfStage {x : Stage}
    (h : ∀ v ∈ [x.b0, x.b1, x.b2, x.a1, x.a2], -8388608 ≤ v ∧ v ≤ 8388607) : stageOfWords (wordsOfStage x) = x := by
  have hread (v : Int) (hv : v ∈ [x.b0, x.b1, x.b2, x.a1, x.a2]) :
      signedOf 24 (field (wordOf [codeOf 24 v]) 23 0) = v := signedOf_coefWord (h v hv).1 (h v hv).2
  simp only [List.forall_mem_cons] at hread
  obtain ⟨h0, h1, h2, h3, h4, -⟩ := hread
  simp [stageOfWords, wordsOfStage, h0, h1, h2, h3, h4]

/-- A word of two halves. -/
theorem field_wordOf_halves {a b : Nat} (ha : a < 2 ^ 16) (hb : b < 2 ^ 16) :
    field (wordOf [at_ a 16, b]) 31 16 = a ∧ field (wordOf [at_ a 16, b]) 15 0 = b := by
  refine ⟨field_wordOf_at ha (by simpa using hb) (by decide), ?_⟩
  rw [field_wordOf_above (by decide) (by decide)]
  exact field_wordOf_zero hb (by decide)

theorem levelField_wordOf {n : Nat} (h : n ≤ 8388607) : levelField (wordOf [n]) = n := by
  unfold levelField
  rw [field_wordOf_zero (by omega) (by decide)]
  omega

theorem classOfWords_wordsOfClass {x : ProtectClass} (h1 : x.t1Level ≤ 8388607) (h2 : x.t2Level ≤ 8388607)
    (h3 : x.t1Recover ≤ x.t1Level) (h4 : x.t2Recover ≤ x.t2Level) (h5 : x.t1Time ≤ 65535) (h6 : x.t2Time ≤ 65535)
    (h7 : 1 ≤ x.recoverTime ∧ x.recoverTime ≤ 65535) (h8 : 1 ≤ x.fastHold ∧ x.fastHold ≤ 65535)
    (h9 : 1 ≤ x.latchWindow ∧ x.latchWindow ≤ 65535) (h10 : x.derateFactor ≤ 255) (h11 : x.latchCount ≤ 15)
    (h12 : x.derateBand ≤ 100) (h13 : -320 ≤ x.t1Reduce) (h14 : x.t1Reduce ≤ 0) (h15 : -320 ≤ x.fastReduce)
    (h16 : x.fastReduce ≤ 0) : classOfWords (wordsOfClass x) = some x := by
  obtain ⟨ht1, ht2⟩ := field_wordOf_halves (a := x.t1Time) (b := x.t2Time) (by omega) (by omega)
  obtain ⟨hrec, hhold⟩ := field_wordOf_halves (a := x.recoverTime) (b := x.fastHold) (by omega) (by omega)
  obtain ⟨hl1, hl2, hl3⟩ :
      let w := wordOf [at_ x.latchWindow 16, at_ x.derateFactor 8, x.latchCount]
      field w 31 16 = x.latchWindow ∧ field w 15 8 = x.derateFactor ∧ field w 3 0 = x.latchCount := by
    have hread {v lo w : Nat} := field_of_layout (v := v) (lo := lo) (w := w)
      (parts := [at_ x.latchWindow 16, at_ x.derateFactor 8, x.latchCount])
      (l := [(x.latchWindow, 16, 16), (x.derateFactor, 8, 8), (x.latchCount, 0, 4)])
      (by simp only [layoutSum_cons, layoutSum_nil, parts_cons, List.sum_nil, at_zero])
      ⟨by decide, by omega, by decide, by omega, by decide, by omega, trivial⟩
    exact ⟨hread (w := 16) (by simp) (by decide), hread (w := 8) (by simp) (by decide),
      hread (w := 4) (by simp) (by decide)⟩
  obtain ⟨hr3, hr4, hr5⟩ :
      let w := wordOf [at_ (codeOf 10 x.t1Reduce) 20, at_ (codeOf 10 x.fastReduce) 10, x.derateBand]
      field w 29 20 = codeOf 10 x.t1Reduce ∧ field w 19 10 = codeOf 10 x.fastReduce ∧ field w 6 0 = x.derateBand := by
    have hread {v lo w : Nat} := field_of_layout (v := v) (lo := lo) (w := w)
      (parts := [at_ (codeOf 10 x.t1Reduce) 20, at_ (codeOf 10 x.fastReduce) 10, x.derateBand])
      (l := [(codeOf 10 x.t1Reduce, 20, 10), (codeOf 10 x.fastReduce, 10, 10), (x.derateBand, 0, 7)])
      (by simp only [layoutSum_cons, layoutSum_nil, parts_cons, List.sum_nil, at_zero])
      ⟨by decide, codeOf_lt 10 _, by decide, codeOf_lt 10 _, by decide, by omega, trivial⟩
    exact ⟨hread (w := 10) (by simp) (by decide), hread (w := 10) (by simp) (by decide),
      hread (w := 7) (by simp) (by decide)⟩
  have hlevels : ¬(x.t1Level < x.t1Recover ∨ x.t2Level < x.t2Recover) := by omega
  simp only [classOfWords, wordsOfClass, List.getD_cons_zero, List.getD_cons_succ, levelField_wordOf h1,
    levelField_wordOf h2, levelField_wordOf (h3.trans h1), levelField_wordOf (h4.trans h2), ht1, ht2, hrec, hhold, hl1,
    hl2, hl3, hr3, hr4, hr5, if_neg hlevels, max_eq_right h7.1, max_eq_right h8.1, max_eq_right h9.1,
    min_eq_right h12, clampSteps_codeOf h13 h14 (by decide) (by decide),
    clampSteps_codeOf h15 h16 (by decide) (by decide)]

theorem beamOfWord_wordOfBeam {x : BeamEntry} (hlow : -32768 ≤ x.weight) (hhigh : x.weight ≤ 32767) :
    beamOfWord (wordOfBeam x) = x := by
  have hcode := codeOf_lt 16 x.weight
  have hdelay := x.delay.isLt
  have hfield : field (wordOfBeam x) 20 16 = x.delay.val ∧ field (wordOfBeam x) 15 0 = codeOf 16 x.weight := by
    refine ⟨field_wordOf_at hdelay (by simpa using hcode) (by decide), ?_⟩
    unfold wordOfBeam
    rw [field_wordOf_above (by decide) (by decide)]
    exact field_wordOf_zero hcode (by decide)
  unfold beamOfWord
  rw [hfield.1, hfield.2, signedOf_codeOf (n := 15) (by omega) (by omega), finWrap, Fin.ofNat_val_eq_self]

theorem clampStep_stepCode {lo hi : Int} (hlo : -511 ≤ lo) (hhi : hi ≤ 511) {x : Step}
    (h : match x with | .mute => True | .steps n => lo ≤ n ∧ n ≤ hi) : clampStep lo hi (stepOf (stepCode x)) = x := by
  cases x with
  | mute => rfl
  | steps n =>
    rw [stepOf_stepCode (x := .steps n) ⟨hlo.trans h.1, h.2.trans hhi⟩]
    exact congrArg Step.steps (clampInt_of_mem h.1 h.2)

theorem blendOfWord_wordOfBlend {x : BlendEntry} (hsep : x.separation ≤ 16) (hcut : x.highCut ≤ 7)
    (hmute : match x.softMute with | .mute => True | .steps n => -320 ≤ n ∧ n ≤ 0) :
    blendOfWord (wordOfBlend x) = x := by
  have hcode := stepCode_lt x.softMute
  have hfield : field (wordOfBlend x) 28 24 = x.separation ∧ field (wordOfBlend x) 18 16 = x.highCut ∧
      field (wordOfBlend x) 9 0 = stepCode x.softMute := by
    have hread {v lo w : Nat} := field_of_layout (v := v) (lo := lo) (w := w)
      (parts := [at_ x.separation 24, at_ x.highCut 16, stepCode x.softMute])
      (l := [(x.separation, 24, 5), (x.highCut, 16, 3), (stepCode x.softMute, 0, 10)])
      (by simp only [layoutSum_cons, layoutSum_nil, parts_cons, List.sum_nil, at_zero])
      ⟨by decide, by omega, by decide, by omega, by decide, hcode, trivial⟩
    exact ⟨hread (w := 5) (by simp) (by decide), hread (w := 3) (by simp) (by decide),
      hread (w := 10) (by simp) (by decide)⟩
  obtain ⟨h1, h2, h3⟩ := hfield
  simp only [blendOfWord, h1, h2, h3, min_eq_right hsep, clampStep_stepCode (by decide) (by decide) hmute]

/-- A word of four bytes. -/
theorem field_wordOf_bytes {a b c d : Nat} (ha : a < 2 ^ 8) (hb : b < 2 ^ 8) (hc : c < 2 ^ 8) (hd : d < 2 ^ 8) :
    let w := wordOf [at_ a 24, at_ b 16, at_ c 8, d]
    field w 31 24 = a ∧ field w 23 16 = b ∧ field w 15 8 = c ∧ field w 7 0 = d := by
  have hread {v lo w : Nat} := field_of_layout (v := v) (lo := lo) (w := w) (parts := [at_ a 24, at_ b 16, at_ c 8, d])
    (l := [(a, 24, 8), (b, 16, 8), (c, 8, 8), (d, 0, 8)])
    (by simp only [layoutSum_cons, layoutSum_nil, parts_cons, List.sum_nil, at_zero])
    ⟨by decide, ha, by decide, hb, by decide, hc, by decide, hd, trivial⟩
  exact ⟨hread (w := 8) (by simp) (by decide), hread (w := 8) (by simp) (by decide),
    hread (w := 8) (by simp) (by decide), hread (w := 8) (by simp) (by decide)⟩

/-- A word of two bytes above a half. -/
theorem field_wordOf_bytes_half {a b c : Nat} (ha : a < 2 ^ 8) (hb : b < 2 ^ 8) (hc : c < 2 ^ 16) :
    let w := wordOf [at_ a 24, at_ b 16, c]
    field w 31 24 = a ∧ field w 23 16 = b ∧ field w 15 0 = c := by
  have hread {v lo w : Nat} := field_of_layout (v := v) (lo := lo) (w := w) (parts := [at_ a 24, at_ b 16, c])
    (l := [(a, 24, 8), (b, 16, 8), (c, 0, 16)])
    (by simp only [layoutSum_cons, layoutSum_nil, parts_cons, List.sum_nil, at_zero])
    ⟨by decide, ha, by decide, hb, by decide, hc, trivial⟩
  exact ⟨hread (w := 8) (by simp) (by decide), hread (w := 8) (by simp) (by decide),
    hread (w := 16) (by simp) (by decide)⟩

theorem radioOfWords_wordsOfRadio {x : RadioRecord} (h1 : x.switchLevel ≤ 127) (h2 : x.hysteresis ≤ 127)
    (h3 : x.margin ≤ 127) (h4 : x.pairMargin ≤ 127) (h5 : x.goodLevel ≤ 127) (h6 : x.poorLevel ≤ 127)
    (h7 : x.tuneSettle ≤ 65535) (h8 : 1 ≤ x.dwell ∧ x.dwell ≤ 65535) (h9 : 1 ≤ x.pairDwell ∧ x.pairDwell ≤ 65535)
    (h10 : 1 ≤ x.poorTime ∧ x.poorTime ≤ 65535) (h11 : 1 ≤ x.recoverTime ∧ x.recoverTime ≤ 65535) :
    radioOfWords (wordsOfRadio x) = x := by
  obtain ⟨ha, hb, hc, hd⟩ := field_wordOf_bytes (a := x.switchLevel) (b := x.hysteresis) (c := x.margin)
    (d := x.pairMargin) (by omega) (by omega) (by omega) (by omega)
  obtain ⟨he, hf, hg⟩ := field_wordOf_bytes_half (a := x.goodLevel) (b := x.poorLevel) (c := x.tuneSettle)
    (by omega) (by omega) (by omega)
  obtain ⟨hi, hj⟩ := field_wordOf_halves (a := x.dwell) (b := x.pairDwell) (by omega) (by omega)
  obtain ⟨hk, hl⟩ := field_wordOf_halves (a := x.poorTime) (b := x.recoverTime) (by omega) (by omega)
  simp only [radioOfWords, wordsOfRadio, List.getD_cons_zero, List.getD_cons_succ, ha, hb, hc, hd, he, hf, hg, hi, hj,
    hk, hl, min_eq_right h1, min_eq_right h2, min_eq_right h3, min_eq_right h4, min_eq_right h5, min_eq_right h6,
    max_eq_right h8.1, max_eq_right h9.1, max_eq_right h10.1, max_eq_right h11.1]

theorem echoOfWords_wordsOfEcho {x : EchoRecord} (h1 : x.farThreshold ≤ 8388607) (h2 : x.nearThreshold ≤ 8388607)
    (h3 : 1 ≤ x.nearRelax ∧ x.nearRelax ≤ 65535) (h4 : 1 ≤ x.farRelax ∧ x.farRelax ≤ 65535)
    (h5 : 1 ≤ x.convergeBlocks ∧ x.convergeBlocks ≤ 65535) (h6 : 1 ≤ x.divergeBlocks ∧ x.divergeBlocks ≤ 65535)
    (h7 : x.convergeLevel ≤ 255) (h8 : x.divergeLevel ≤ 255) (h9 : x.pathStep ≤ 255) (h10 : -320 ≤ x.attenuation)
    (h11 : x.attenuation ≤ 0) : echoOfWords (wordsOfEcho x) = x := by
  obtain ⟨ha, hb⟩ := field_wordOf_halves (a := x.nearRelax) (b := x.farRelax) (by omega) (by omega)
  obtain ⟨hc, hd⟩ := field_wordOf_halves (a := x.convergeBlocks) (b := x.divergeBlocks) (by omega) (by omega)
  obtain ⟨-, he, hf, hg⟩ := field_wordOf_bytes (a := 0) (b := x.convergeLevel) (c := x.divergeLevel) (d := x.pathStep)
    (by decide) (by omega) (by omega) (by omega)
  rw [show wordOf [at_ 0 24, at_ x.convergeLevel 16, at_ x.divergeLevel 8, x.pathStep] =
    wordOf [at_ x.convergeLevel 16, at_ x.divergeLevel 8, x.pathStep] by
      simp only [wordOf, parts_cons, zero_at, Nat.zero_add]] at he hf hg
  have hcode := field_wordOf_zero (v := codeOf 10 x.attenuation) (hi := 9) (codeOf_lt 10 _) (by decide)
  simp only [echoOfWords, wordsOfEcho, List.getD_cons_zero, List.getD_cons_succ, levelField_wordOf h1,
    levelField_wordOf h2, ha, hb, hc, hd, he, hf, hg, hcode, max_eq_right h3.1, max_eq_right h4.1, max_eq_right h5.1,
    max_eq_right h6.1, clampSteps_codeOf h10 h11 (by decide) (by decide)]

theorem rampsOfWords_wordsOfRamps {x : RampRecord} (h1 : 1 ≤ x.route ∧ x.route ≤ 65535)
    (h2 : 1 ≤ x.volume ∧ x.volume ≤ 65535) (h3 : 1 ≤ x.attack ∧ x.attack ≤ 65535)
    (h4 : 1 ≤ x.release ∧ x.release ≤ 65535) (h5 : 1 ≤ x.claim ∧ x.claim ≤ 65535)
    (h6 : 1 ≤ x.call ∧ x.call ≤ 65535) (h7 : 1 ≤ x.stop ∧ x.stop ≤ 65535) : rampsOfWords (wordsOfRamps x) = x := by
  obtain ⟨ha, hb⟩ := field_wordOf_halves (a := x.route) (b := x.volume) (by omega) (by omega)
  obtain ⟨hc, hd⟩ := field_wordOf_halves (a := x.attack) (b := x.release) (by omega) (by omega)
  obtain ⟨he, hf⟩ := field_wordOf_halves (a := x.claim) (b := x.call) (by omega) (by omega)
  have hg := field_wordOf_zero (v := x.stop) (hi := 15) (by omega) (by decide)
  simp only [rampsOfWords, wordsOfRamps, List.getD_cons_zero, List.getD_cons_succ, ha, hb, hc, hd, he, hf, hg,
    max_eq_right h1.1, max_eq_right h2.1, max_eq_right h3.1, max_eq_right h4.1, max_eq_right h5.1, max_eq_right h6.1,
    max_eq_right h7.1]

/-- The layout of an amplifier's entry, the bits above its fields 0. -/
def ampLayout (x : Amplifier) : List (Nat × Nat × Nat) :=
  [(0, 18, 14), (bit x.overTemp, 17, 1), (bit x.status, 16, 1), (x.temperature, 8, 8), (x.limit, 0, 8)]

/-- The fields of an amplifier's entry (R111). -/
theorem wordOfAmp_fields {x : Amplifier} (hl : x.limit ≤ 255) (ht : x.temperature ≤ 255) :
    field (wordOfAmp x) 7 0 = x.limit ∧ field (wordOfAmp x) 15 8 = x.temperature ∧ bitAt (wordOfAmp x) 16 = x.status ∧
      bitAt (wordOfAmp x) 17 = x.overTemp ∧ field (wordOfAmp x) 31 18 = 0 := by
  have hsum : [x.limit, at_ x.temperature 8, at_ (bit x.status) 16, at_ (bit x.overTemp) 17].sum =
      layoutSum (ampLayout x) := by
    simp only [ampLayout, layoutSum_cons, layoutSum_nil, at_zero, zero_at, parts_cons, List.sum_nil]
    ring
  have hfits : LayoutFits (ampLayout x) 32 :=
    ⟨by decide, by decide, by decide, bit_lt _, by decide, bit_lt _, by decide, by omega, by decide, by omega, trivial⟩
  have hread {v lo w : Nat} := field_of_layout (v := v) (lo := lo) (w := w) hsum hfits
  exact ⟨hread (w := 8) (by simp [ampLayout]) (by decide), hread (w := 8) (by simp [ampLayout]) (by decide),
    bitAt_of_field (hread (w := 1) (by simp [ampLayout]) (by decide)),
    bitAt_of_field (hread (w := 1) (by simp [ampLayout]) (by decide)),
    hread (w := 14) (by simp [ampLayout]) (by decide)⟩

/-- The claim a zone's entry shows, as source code and state code; 7 and 0 for none. -/
def claimCodes (m : MixUnit) (z : Fin 5) : Nat × Nat :=
  match (seatOf z.val).bind fun a => shownClaim m a with
  | none => (7, 0)
  | some c => (sourceCode c.source, claimCode c.state)

theorem claimFields_eq (m : MixUnit) (z : Fin 5) :
    claimFields m z = at_ (claimCodes m z).1 5 + at_ (claimCodes m z).2 3 := by
  unfold claimFields claimCodes
  cases (seatOf z.val).bind fun a => shownClaim m a <;> rfl

theorem claimCodes_lt (m : MixUnit) (z : Fin 5) : (claimCodes m z).1 < 8 ∧ (claimCodes m z).2 < 4 := by
  unfold claimCodes
  split
  · decide
  · next c _ =>
    refine ⟨(sourceCode_lt c.source).trans (by decide), ?_⟩
    show claimCode c.state < 4
    cases c.state <;> decide

/-- The layout of a ZONE entry, the two lowest bits 0. -/
def zoneLayout (m : MixUnit) (z : Fin 5) : List (Nat × Nat × Nat) :=
  [(m.zones[z].curve.val, 30, 2), (m.zones[z].panel.toNat, 26, 4), (codeOf 10 m.zones[z].cap, 16, 10),
    (m.zones[z].volume.val, 10, 6), (bit m.zones[z].mute, 9, 1), (bit m.zones[z].seatMode, 8, 1),
    ((claimCodes m z).1, 5, 3), ((claimCodes m z).2, 3, 2), (bit m.zones[z].lock, 2, 1), (0, 0, 2)]

theorem wordOfZone_field {m : MixUnit} {z : Fin 5} {v lo w : Nat} (hm : (v, lo, w) ∈ zoneLayout m z) (hw : 0 < w) :
    field (wordOfZone m z) (lo + w - 1) lo = v := by
  obtain ⟨hsource, hstate⟩ := claimCodes_lt m z
  have hfits : LayoutFits (zoneLayout m z) 32 :=
    ⟨by decide, m.zones[z].curve.isLt, by decide, m.zones[z].panel.isLt, by decide, codeOf_lt 10 _, by decide,
      m.zones[z].volume.isLt, by decide, bit_lt _, by decide, bit_lt _, by decide, hsource, by decide, hstate, by decide,
      bit_lt _, by decide, by decide, trivial⟩
  refine field_of_layout ?_ hfits hm hw
  rw [claimFields_eq]
  simp only [zoneLayout, layoutSum_cons, layoutSum_nil, at_zero, parts_cons, List.sum_nil]
  ring

/-- The fields of a zone's entry (R41). -/
theorem wordOfZone_fields (m : MixUnit) (z : Fin 5) :
    let w := wordOfZone m z
    let r := m.zones[z]
    field w 31 30 = r.curve.val ∧ field w 29 26 = r.panel.toNat ∧ field w 25 16 = codeOf 10 r.cap ∧
      field w 15 10 = r.volume.val ∧ bitAt w 9 = r.mute ∧ bitAt w 8 = r.seatMode ∧
      field w 7 5 = (claimCodes m z).1 ∧ field w 4 3 = (claimCodes m z).2 ∧ bitAt w 2 = r.lock ∧ field w 1 0 = 0 :=
  ⟨wordOfZone_field (w := 2) (by simp [zoneLayout]) (by decide),
    wordOfZone_field (w := 4) (by simp [zoneLayout]) (by decide),
    wordOfZone_field (w := 10) (by simp [zoneLayout]) (by decide),
    wordOfZone_field (w := 6) (by simp [zoneLayout]) (by decide),
    bitAt_of_field (wordOfZone_field (w := 1) (by simp [zoneLayout]) (by decide)),
    bitAt_of_field (wordOfZone_field (w := 1) (by simp [zoneLayout]) (by decide)),
    wordOfZone_field (w := 3) (by simp [zoneLayout]) (by decide),
    wordOfZone_field (w := 2) (by simp [zoneLayout]) (by decide),
    bitAt_of_field (wordOfZone_field (w := 1) (by simp [zoneLayout]) (by decide)),
    wordOfZone_field (w := 2) (by simp [zoneLayout]) (by decide)⟩

theorem zoneWritten_wordOfZone (m : MixUnit) (z : Fin 5) (x : ZoneRecord) :
    zoneWritten z (wordOfZone m z) x =
      { x with
        curve := m.zones[z].curve
        panel := m.zones[z].panel
        cap := if 3 ≤ z.val then clampSteps (-320) 0 (stepOf (codeOf 10 m.zones[z].cap)) else x.cap } := by
  obtain ⟨hcurve, hpanel, hcap, -⟩ := wordOfZone_fields m z
  simp only [zoneWritten, hcurve, hpanel, hcap, finWrap, Fin.ofNat_val_eq_self, BitVec.ofNat_toNat, BitVec.setWidth_eq]

/-- Settles O60: every kind of entry, by its fields. -/
theorem entriesReadBack : Obligations.EntriesReadBack := by
  refine ⟨roleOfWord_wordOfRole, fun x => channelOfWord_wordOfChannel, fun x => routeOfWord_wordOfRoute, rfl,
    fun x hx => ?_, fun x => stageOfWords_wordsOfStage, fun x => classOfWords_wordsOfClass,
    fun x => beamOfWord_wordOfBeam, fun x => blendOfWord_wordOfBlend, fun x => radioOfWords_wordsOfRadio,
    fun x => echoOfWords_wordsOfEcho, fun x => rampsOfWords_wordsOfRamps, fun x hl ht => (wordOfAmp_fields hl ht).1,
    fun n hn => field_wordOf_zero (by omega) (by decide), fun m z x => ⟨fun hz hlow hhigh => ?_, fun hz => ?_⟩⟩
  · rw [field_wordOf_zero (stepCode_lt x) (by decide)]
    exact stepOf_stepCode hx
  · rw [zoneWritten_wordOfZone, if_pos hz, clampSteps_codeOf hlow hhigh (by decide) (by decide)]
  · rw [zoneWritten_wordOfZone, if_neg (not_le.mpr hz)]

end Sys2Proof.Machine

/-! TABLE CLOSE, TABLE READ and STATE: what their replies hold (spec 02, 2.5 to 2.7). -/

namespace Sys2Proof.Machine

/-! ## TABLE CLOSE (R40) -/

/-- A clean close without ACTIVATE-ON-CLOSE. -/
theorem closeCursor_clean {s : State} {c : Cursor} (hc : s.msg.cursor = some c)
    (h : c.table ≠ .coef ∨ c.activate = false) :
    closeCursor true s =
      (let t := s.setMsg { s.msg with cursor := none }
       if c.table = Table.coef then setSpareState c.chan .loaded t else t) := by
  unfold closeCursor
  rw [hc]
  dsimp only
  split
  · next ht =>
    have hoff : c.activate = false := h.resolve_left (not_not.mpr ht)
    simp only [hoff, Bool.and_false, Bool.false_eq_true, if_false]
  · rfl

theorem closeCursor_none {s : State} (hc : s.msg.cursor = none) (b : Bool) : closeCursor b s = s := by
  unfold closeCursor
  rw [hc]

/-! ## The words of an entry (R41) -/

@[simp] theorem finWrap_val {n : Nat} (i : Fin (n + 1)) : finWrap n i.val = i := Fin.ofNat_val_eq_self i

theorem seatOf_seat (a : Fin 2) : seatOf (a.val + 3) = some a := by
  revert a
  decide

/-- The claims of a zone, in the order of the list. -/
def zoneClaims (m : MixUnit) (z : Fin 5) : List Claim := m.claims.filter fun c => c.zone.val + 3 == z.val

/-- The claim that a zone's entry shows: the first that is not RELEASING, otherwise the first. -/
def shownOf (l : List Claim) : Option Claim :=
  match l.find? fun c => c.state != .releasing with
  | some c => some c
  | none => l.head?

theorem shownClaim_eq (m : MixUnit) (a : Fin 2) : shownClaim m a = shownOf (zoneClaims m (seatZone a)) := by
  have hzone (c : Claim) : (c.zone.val + 3 == (seatZone a).val) = (c.zone == a) := by
    rw [Bool.eq_iff_iff, beq_iff_eq, beq_iff_eq, Fin.ext_iff]
    show c.zone.val + 3 = a.val + 3 ↔ _
    omega
  have hfind : (zoneClaims m (seatZone a)).find? (fun c => c.state != .releasing) = claimOf m a := by
    unfold zoneClaims claimOf
    simp only [List.find?_filter, hzone, Bool.decide_and, Bool.decide_eq_true]
  unfold shownClaim shownOf
  rw [hfind]
  cases hc : claimOf m a with
  | some c => rfl
  | none =>
    have hall (c : Claim) (hm : c ∈ m.claims) : (c.zone == a && c.state == .releasing) = (c.zone == a) := by
      have hno := List.find?_eq_none.mp hc c hm
      cases hz : c.zone == a
      · rfl
      · simpa [hz] using hno
    unfold zoneClaims releasingOf
    rw [List.head?_filter]
    simp only [hzone]
    exact List.find?_congr hall

/-- The codes that a zone's entry shows for its claim. -/
theorem claimCodes_eq (m : MixUnit) (z : Fin 5) :
    claimCodes m z = ((shownOf (zoneClaims m z)).map fun c => (sourceCode c.source, claimCode c.state)).getD (7, 0) := by
  unfold claimCodes
  rcases lt_or_ge z.val 3 with hz | hz
  · have hseat : seatOf z.val = none := by
      cases hs : seatOf z.val with
      | none => rfl
      | some a =>
        have := (seatOf_eq_some_iff z.val a).mp hs
        simp only [seatZone] at this
        omega
    have hnone : zoneClaims m z = [] := List.filter_eq_nil_iff.mpr fun c _ => by simp; omega
    rw [hseat, hnone]
    rfl
  · obtain ⟨a, rfl⟩ : ∃ a, seatZone a = z := ⟨⟨z.val - 3, by omega⟩, Fin.ext (by simp only [seatZone]; omega)⟩
    have hseat : seatOf (seatZone a).val = some a := (seatOf_eq_some_iff _ a).mpr rfl
    rw [hseat, Option.bind_some, shownClaim_eq]
    cases shownOf (zoneClaims m (seatZone a)) <;> rfl

/-! ## Replies of TABLE READ -/

/-- How many whole entries of a table a reply of fourteen words may hold. -/
def entriesFit : Table → Nat
  | .coef => 2
  | .protect | .radio | .echo | .ramp => 1
  | _ => 14

/-- A table of one entry fills no more of a reply than that one. -/
theorem min_readLimit {t : Table} {i : Nat} (x : Nat) (h : i < tableEntries t) :
    min (min x (tableEntries t - i)) (readLimit t) = min (min x (tableEntries t - i)) (entriesFit t) := by
  cases t with
  | radio | echo | ramp =>
    have hi : i < 1 := h
    simp only [tableEntries, readLimit, entryWords, entriesFit]
    omega
  | slotMap | channel | route | zone | curve | duck | placement | coef | protect | amp | beam | penalty | blend => rfl

/-- Settles O27: the close, the arguments of a read, and the words of each table's entries. -/
theorem tableCloseRead : Obligations.TableCloseRead := by
  refine ⟨fun r s h hp => ⟨fun hc => ?_, fun c hc hoff => ?_⟩, fun r s h hp => ?_, fun s b => ?_⟩
  · refine exec_unchanged (k := .tableClose) h hp ?_
    show answerOk (closeCursor true s) = _
    rw [closeCursor_none hc]
    rfl
  · have hclose : handlerOf .tableClose r s = answerOk _ := congrArg answerOk (closeCursor_clean hc hoff)
    refine exec_answered (k := .tableClose) h hp hclose ?_ ?_
    · dsimp only
      split <;> rfl
    · dsimp only
      split <;> rfl
  · intro w t i
    have hhandle : handlerOf .tableRead r s =
        if tableEntries t ≤ i ∨ (bitAt w 26 ∧ t ≠ .coef) then refuse .badArg 0 s
        else
          let n := min (min (field w 23 16) (tableEntries t - i)) (readLimit t)
          ⟨.ok, n, (List.range n).flatMap fun k => readEntry s t (bitAt w 26) (i + k), s⟩ := rfl
    refine ⟨fun hbad => ?_, fun hi hspare => ⟨_, rfl, ?_⟩⟩
    · exact exec_refused (k := .tableRead) h hp (hhandle.trans (if_pos hbad))
    · rw [if_neg (by push Not; exact ⟨hi, hspare⟩)] at hhandle
      rw [min_readLimit (field w 23 16) hi] at hhandle
      exact exec_unchanged (k := .tableRead) h hp hhandle
  · refine ⟨fun i => ?_, fun i => ?_, fun i => ?_, fun i => ?_, fun i => ?_, fun i => ?_, fun c i => ?_, fun i => ?_,
      fun i => ?_, fun i => ?_, fun i => ?_, rfl, rfl, rfl, fun a hl ht => ?_, fun z => ?_⟩
    iterate 6 · simp only [readEntry, finWrap_val]
    · have hchan : finWrap 27 ((8 * c.val + i.val) / 8) = c := by
        apply Fin.ext
        simp only [finWrap, Fin.val_ofNat]
        omega
      have hstage : finWrap 7 (8 * c.val + i.val) = i := by
        apply Fin.ext
        simp only [finWrap, Fin.val_ofNat]
        omega
      simp only [readEntry, hchan, hstage, bankRead]
      exact ⟨rfl, rfl⟩
    iterate 4 · simp only [readEntry, finWrap_val]
    · exact ⟨wordOfAmp s.prot.amps[a], by simp only [readEntry, finWrap_val], wordOfAmp_fields hl ht⟩
    · obtain ⟨hcurve, hpanel, hcap, hvolume, hmute, hmode, hsource, hstate, hlock, hlow⟩ := wordOfZone_fields s.mix z
      refine ⟨wordOfZone s.mix z, by simp only [readEntry, finWrap_val], hcurve, hpanel, fun h1 h2 => ⟨fun h3 => ?_,
        fun h3 => ?_⟩, hvolume, hmute, hmode, hlock, hlow, fun hnone => ?_, fun c hsome => ?_⟩
      · rw [hcap]
        unfold codeOf
        omega
      · rw [hcap, h3]
        rfl
      · have hcodes := claimCodes_eq s.mix z
        rw [show shownOf (zoneClaims s.mix z) = none from hnone] at hcodes
        rw [hsource, hstate, hcodes]
        exact ⟨rfl, rfl⟩
      · have hcodes := claimCodes_eq s.mix z
        rw [show shownOf (zoneClaims s.mix z) = some c from hsome] at hcodes
        rw [hsource, hstate, hcodes]
        refine ⟨?_, ?_⟩
        · show claimCode c.state = _
          cases c.state <;> rfl
        · show sourceCode c.source = _
          cases c.source <;> rfl

end Sys2Proof.Machine

/-! The words the part sends (spec 02): the STATE reply's fields, the queue's messages, what notices and replies hold. -/

namespace Sys2Proof.Machine

/-! ## The STATE reply (R36) -/

/-- The pending notice kinds as single bits, DROPPED the highest. -/
def kindLayout (p : NoticeKind → Bool) : List (Nat × Nat × Nat) :=
  [(bit (p .dropped), 29, 1), (bit (p .echo), 28, 1), (bit (p .call), 27, 1), (bit (p .reception), 26, 1),
    (bit (p .antenna), 25, 1), (bit (p .protect), 24, 1), (bit (p .claim), 23, 1), (bit (p .bank), 22, 1),
    (bit (p .link), 21, 1), (bit (p .state), 20, 1)]

theorem mem_kindLayout (p : NoticeKind → Bool) (k : NoticeKind) : (bit (p k), 20 + noticeIndex k, 1) ∈ kindLayout p := by
  cases k <;> simp [kindLayout, noticeIndex]

/-- One kind more is its bit more. -/
theorem layoutSum_kindLayout_insert {p q : NoticeKind → Bool} {k : NoticeKind} (hk : p k = false) (hq : q k = true)
    (hother : ∀ j, j ≠ k → q j = p j) :
    layoutSum (kindLayout q) = at_ 1 (20 + noticeIndex k) + layoutSum (kindLayout p) := by
  have hbit (j : NoticeKind) : bit (q j) = if j = k then 1 else bit (p j) := by
    split
    · next h => rw [h, hq]; rfl
    · next h => rw [hother j h]
  have hzero : bit (p k) = 0 := by rw [hk]; rfl
  simp only [kindLayout, layoutSum_cons, layoutSum_nil, hbit]
  cases k <;> simp only [noticeIndex, hzero, zero_at, reduceCtorEq, if_true, if_false] <;> ring

/-- Different pending kinds are as many single bits. -/
theorem pendingKinds_eq {set : List Notice} (h : (set.map fun n => n.detail.kind).Nodup) :
    pendingKinds set = layoutSum (kindLayout fun k => set.any fun n => n.detail.kind == k) := by
  induction set with
  | nil =>
    simp only [kindLayout, layoutSum_cons, layoutSum_nil, List.any_nil]
    rfl
  | cons n rest ih =>
    rw [List.map_cons, List.nodup_cons] at h
    obtain ⟨hn, hrest⟩ := h
    have hsum : pendingKinds (n :: rest) = at_ 1 (20 + noticeIndex n.detail.kind) + pendingKinds rest := parts_cons _ _
    rw [hsum, ih hrest]
    refine (layoutSum_kindLayout_insert ?_ ?_ fun j hj => ?_).symm
    · rw [List.any_eq_false]
      exact fun m hm hk => hn (List.mem_map.mpr ⟨m, hm, beq_iff_eq.mp hk⟩)
    · rw [List.any_cons, beq_self_eq_true, Bool.true_or]
    · rw [List.any_cons, beq_eq_false_iff_ne.mpr hj.symm, Bool.false_or]

theorem layoutSum_append (l m : List (Nat × Nat × Nat)) : layoutSum (l ++ m) = layoutSum l + layoutSum m := by
  unfold layoutSum
  rw [List.map_append, List.sum_append]

theorem opCode_lt (x : OpState) : opCode x < 4 := by
  cases x <;> decide

theorem formatCode_lt (x : PatternFormat) : formatCode x < 4 := by
  cases x <;> decide

theorem positionCode_lt (p : Option Node) : positionCode p < 16 := by
  cases p with
  | none => decide
  | some p => exact p.isLt

theorem tableNumber_lt (t : Table) : tableNumber t < 16 := by
  cases t <;> decide

/-- The layout of the cursor's fields in the first STATE word. -/
def cursorLayout (s : State) : List (Nat × Nat × Nat) :=
  match s.msg.cursor with
  | some c =>
    [(bit c.cont, 26, 1), (bit c.spare, 25, 1), (bit c.activate, 24, 1), (tableNumber c.table, 20, 4), (1, 16, 1)]
  | none => [((Config.closedCursorTable s.draws).toNat, 20, 7), (0, 16, 1)]

/-- The layout of the first STATE word below the cursor's fields. -/
def stateLayout (s : State) : List (Nat × Nat × Nat) :=
  [(formatCode s.ring.patternFormat, 8, 2), (positionCode s.ring.position, 4, 4), (opCode s.msg.patternFrom, 2, 2),
    (opCode s.msg.op, 0, 2)]

theorem cursorFields_eq (s : State) : cursorFields s = layoutSum (cursorLayout s) := by
  unfold cursorFields cursorLayout
  cases s.msg.cursor with
  | none => simp only [layoutSum_cons, layoutSum_nil, zero_at, Nat.add_zero]
  | some c =>
    simp only [layoutSum_cons, layoutSum_nil]
    ring

theorem stateLayout_fits (s : State) : LayoutFits (stateLayout s) 16 :=
  ⟨by decide, formatCode_lt _, by decide, positionCode_lt _, by decide, opCode_lt _, by decide, opCode_lt _, trivial⟩

theorem cursorLayout_fits (s : State) : LayoutFits (cursorLayout s ++ stateLayout s) 32 := by
  have hstate := stateLayout_fits s
  unfold cursorLayout
  cases s.msg.cursor with
  | none => exact ⟨by decide, (Config.closedCursorTable s.draws).isLt, by decide, by decide, hstate⟩
  | some c =>
    exact ⟨by decide, bit_lt _, by decide, bit_lt _, by decide, bit_lt _, by decide, tableNumber_lt _, by decide,
      by decide, hstate⟩

/-- A field of the first STATE word. -/
theorem stateWord_field {s : State} {v lo w : Nat} (hm : (v, lo, w) ∈ cursorLayout s ++ stateLayout s) (hw : 0 < w) :
    field (wordOf [opCode s.msg.op, at_ (opCode s.msg.patternFrom) 2, at_ (positionCode s.ring.position) 4,
      at_ (formatCode s.ring.patternFormat) 8, cursorFields s]) (lo + w - 1) lo = v := by
  refine field_of_layout ?_ (cursorLayout_fits s) hm hw
  rw [layoutSum_append, ← cursorFields_eq]
  simp only [stateLayout, layoutSum_cons, layoutSum_nil, parts_cons, List.sum_nil, at_zero]
  ring

theorem cursorIndex_lt {s : State} (h : ∀ c, s.msg.cursor = some c → c.index < 65536) : cursorIndex s < 65536 := by
  unfold cursorIndex
  cases hc : s.msg.cursor with
  | none => exact (Config.closedCursorIndex s.draws).isLt
  | some c => exact h c hc

/-- A field of the second STATE word. -/
theorem queueWord_field {s : State} (hs : MessageInv s) (hi : ∀ c, s.msg.cursor = some c → c.index < 65536)
    {v lo w : Nat}
    (hm : (v, lo, w) ∈ kindLayout (fun k => s.msg.notices.any fun n => n.detail.kind == k) ++
      [(s.msg.queue.length, 16, 3), (cursorIndex s, 0, 16)]) (hw : 0 < w) :
    field (wordOf [cursorIndex s, at_ s.msg.queue.length 16, pendingKinds s.msg.notices]) (lo + w - 1) lo = v := by
  obtain ⟨hqueue, -, -, -, -, -, hkinds, -⟩ := hs
  have hfits : LayoutFits (kindLayout (fun k => s.msg.notices.any fun n => n.detail.kind == k) ++
      [(s.msg.queue.length, 16, 3), (cursorIndex s, 0, 16)]) 32 :=
    ⟨by decide, bit_lt _, by decide, bit_lt _, by decide, bit_lt _, by decide, bit_lt _, by decide, bit_lt _, by decide,
      bit_lt _, by decide, bit_lt _, by decide, bit_lt _, by decide, bit_lt _, by decide, bit_lt _, by decide,
      hqueue.trans_lt (by decide), by decide, cursorIndex_lt hi, trivial⟩
  refine field_of_layout ?_ hfits hm hw
  rw [layoutSum_append, ← pendingKinds_eq hkinds]
  simp only [layoutSum_cons, layoutSum_nil, parts_cons, List.sum_nil, at_zero]
  ring

theorem callCode_lt (x : CallState) : callCode x < 8 := by
  cases x <;> decide

theorem echoCode_lt (x : EchoState) : echoCode x < 4 := by
  cases x <;> decide

theorem talkCode_lt (x : TalkState) : talkCode x < 4 := by
  cases x <;> decide

theorem receptionCode_lt (x : Reception) : receptionCode x < 4 := by
  cases x <;> decide

theorem modeCode_lt (x : DiversityMode) : modeCode x < 4 := by
  cases x with
  | fixed a => exact Nat.zero_lt_succ 3
  | switched | paired => decide

theorem fixedCode_lt (x : DiversityMode) : fixedCode x < 4 := by
  cases x with
  | fixed a => exact a.isLt
  | switched | paired => decide

/-- The layout of the fifth STATE word. -/
def unitsLayout (s : State) : List (Nat × Nat × Nat) :=
  [(bit s.ant.pendingMode.isSome, 26, 1), (s.ant.current.val, 24, 2), (fixedCode s.ant.mode, 22, 2),
    (modeCode s.ant.mode, 20, 2), (bit s.radio.pilot, 18, 1), (receptionCode s.radio.reception, 16, 2),
    (talkCode s.uplink.talk, 12, 2), (echoCode s.uplink.echo, 8, 2), (s.call.placement.val, 4, 2),
    (callCode s.call.state, 0, 3)]

/-- A field of the fifth STATE word. -/
theorem unitsWord_field {s : State} {v lo w : Nat} (hm : (v, lo, w) ∈ unitsLayout s) (hw : 0 < w) :
    field (wordOf [callCode s.call.state, at_ s.call.placement.val 4, at_ (echoCode s.uplink.echo) 8,
      at_ (talkCode s.uplink.talk) 12, at_ (receptionCode s.radio.reception) 16, at_ (bit s.radio.pilot) 18,
      at_ (modeCode s.ant.mode) 20, at_ (fixedCode s.ant.mode) 22, at_ s.ant.current.val 24,
      at_ (bit s.ant.pendingMode.isSome) 26]) (lo + w - 1) lo = v := by
  have hfits : LayoutFits (unitsLayout s) 32 :=
    ⟨by decide, bit_lt _, by decide, s.ant.current.isLt, by decide, fixedCode_lt _, by decide, modeCode_lt _, by decide,
      bit_lt _, by decide, receptionCode_lt _, by decide, talkCode_lt _, by decide, echoCode_lt _, by decide,
      s.call.placement.isLt, by decide, callCode_lt _, trivial⟩
  refine field_of_layout ?_ hfits hm hw
  simp only [unitsLayout, layoutSum_cons, layoutSum_nil, parts_cons, List.sum_nil, at_zero]
  ring

/-- STATE with no payload passes in every operating state and from every origin. -/
theorem passes_state {r : Request} (s : State) (h : r.payload = []) : Passes .state r s := by
  rw [passes_iff]
  refine ⟨(lengthRight_iff _ _).mpr fun n hn => ?_, fun _ => rfl, (permitted_iff _ _ _).mpr (.inr (.inl rfl)), rfl⟩
  cases hn
  rw [h]
  rfl

theorem exec_state {r : Request} {s : State} (h : Ready r s) (hr : r.payload = []) :
    exec (.state r) s = .next (answered 1 r .ok 0 (stateWords s)
      { s with draws := if s.msg.cursor = none then s.draws + 1 else s.draws }) := by
  cases hc : s.msg.cursor with
  | none =>
    have hhandle : handlerOf .state r s = ⟨.ok, 0, stateWords s, s.drawn⟩ := by
      simp only [handlerOf, handleState, hc, Option.isNone_none, if_true]
    exact exec_answered (k := .state) h (passes_state s hr) hhandle rfl rfl
  | some c =>
    have hhandle : handlerOf .state r s = ⟨.ok, 0, stateWords s, s⟩ := by
      simp only [handlerOf, handleState, hc, Option.isNone_some, Bool.false_eq_true, if_false]
    exact exec_unchanged (k := .state) h (passes_state s hr) hhandle

/-- The cursor's fields of the first two words while one is open. -/
theorem stateWords_cursor {s : State} {c : Cursor} (hs : MessageInv s)
    (hi : ∀ c, s.msg.cursor = some c → c.index < 65536) (hc : s.msg.cursor = some c) :
    let w1 := wordOf [opCode s.msg.op, at_ (opCode s.msg.patternFrom) 2, at_ (positionCode s.ring.position) 4,
      at_ (formatCode s.ring.patternFormat) 8, cursorFields s]
    let w2 := wordOf [cursorIndex s, at_ s.msg.queue.length 16, pendingKinds s.msg.notices]
    field w1 23 20 = tableNumber c.table ∧ bitAt w1 24 = c.activate ∧ bitAt w1 25 = c.spare ∧ bitAt w1 26 = c.cont ∧
      field w2 15 0 = c.index := by
  have hindex : cursorIndex s = c.index := by
    unfold cursorIndex
    rw [hc]
  refine ⟨stateWord_field (w := 4) ?_ (by decide), bitAt_of_field (stateWord_field (w := 1) ?_ (by decide)),
    bitAt_of_field (stateWord_field (w := 1) ?_ (by decide)), bitAt_of_field (stateWord_field (w := 1) ?_ (by decide)),
    (queueWord_field hs hi (v := cursorIndex s) (w := 16) (by simp) (by decide)).trans hindex⟩ <;>
  · refine List.mem_append_left _ ?_
    simp [cursorLayout, hc]

/-- Settles O17: each field by the layout of its word. -/
theorem stateReply : Obligations.StateReply := by
  intro r s h hr hs hi
  have hmem {v lo w : Nat} (hm : (v, lo, w) ∈ stateLayout s) : (v, lo, w) ∈ cursorLayout s ++ stateLayout s :=
    List.mem_append_right _ hm
  obtain ⟨-, -, -, hbroken, hcheck, hdropped, -, -⟩ := id hs
  obtain ⟨hb, hc⟩ := field_wordOf_halves (a := s.msg.broken) (b := s.msg.checkFailed) (by omega) (by omega)
  have htally {v lo w : Nat} := field_of_layout (v := v) (lo := lo) (w := w)
    (parts := [s.msg.dropped, at_ s.msg.noticeSeq.toNat 16])
    (l := [(s.msg.noticeSeq.toNat, 16, 8), (s.msg.dropped, 0, 16)])
    (by simp only [layoutSum_cons, layoutSum_nil, parts_cons, List.sum_nil, at_zero]; ring)
    ⟨by decide, s.msg.noticeSeq.isLt, by decide, by omega, trivial⟩
  refine ⟨_, _, _, _, _, exec_state h hr, ?_, ?_, ?_, ?_, ?_, fun c hcur => stateWords_cursor hs hi hcur, ?_, fun k => ?_,
    hb, hc, htally (w := 16) (by simp) (by decide), htally (w := 8) (by simp) (by decide), ?_, ?_, ?_, ?_, ?_, ?_, ?_, ?_,
    ?_, ?_⟩
  · refine (stateWord_field (v := opCode s.msg.op) (w := 2) (hmem (by simp [stateLayout])) (by decide)).trans ?_
    cases s.msg.op <;> rfl
  · refine (stateWord_field (v := opCode s.msg.patternFrom) (w := 2) (hmem (by simp [stateLayout])) (by decide)).trans ?_
    cases s.msg.patternFrom <;> rfl
  · refine (stateWord_field (v := positionCode s.ring.position) (w := 4) (hmem (by simp [stateLayout]))
      (by decide)).trans ?_
    cases s.ring.position <;> rfl
  · refine (stateWord_field (v := formatCode s.ring.patternFormat) (w := 2) (hmem (by simp [stateLayout]))
      (by decide)).trans ?_
    cases s.ring.patternFormat <;> rfl
  · refine bitAt_of_field (stateWord_field (w := 1) (List.mem_append_left _ ?_) (by decide))
    unfold cursorLayout
    cases s.msg.cursor <;> simp [bit]
  · exact queueWord_field hs hi (w := 3) (by simp) (by decide)
  · exact bitAt_of_field (queueWord_field hs hi (w := 1) (List.mem_append_left _ (mem_kindLayout _ k)) (by decide))
  · refine (unitsWord_field (v := callCode s.call.state) (w := 3) (by simp [unitsLayout]) (by decide)).trans ?_
    cases s.call.state <;> rfl
  · exact unitsWord_field (w := 2) (by simp [unitsLayout]) (by decide)
  · refine (unitsWord_field (v := echoCode s.uplink.echo) (w := 2) (by simp [unitsLayout]) (by decide)).trans ?_
    cases s.uplink.echo <;> rfl
  · refine (unitsWord_field (v := talkCode s.uplink.talk) (w := 2) (by simp [unitsLayout]) (by decide)).trans ?_
    cases s.uplink.talk <;> rfl
  · refine (unitsWord_field (v := receptionCode s.radio.reception) (w := 2) (by simp [unitsLayout])
      (by decide)).trans ?_
    cases s.radio.reception <;> rfl
  · exact bitAt_of_field (unitsWord_field (w := 1) (by simp [unitsLayout]) (by decide))
  · refine (unitsWord_field (v := modeCode s.ant.mode) (w := 2) (by simp [unitsLayout]) (by decide)).trans ?_
    cases s.ant.mode <;> rfl
  · refine (unitsWord_field (v := fixedCode s.ant.mode) (w := 2) (by simp [unitsLayout]) (by decide)).trans ?_
    cases s.ant.mode <;> rfl
  · exact unitsWord_field (w := 2) (by simp [unitsLayout]) (by decide)
  · exact bitAt_of_field (unitsWord_field (w := 1) (by simp [unitsLayout]) (by decide))

/-! ## The queue and its words (R12, R28, R29, R31) -/

theorem linked_of_link {s : State} (h : s.ring.link = .linked) : s.linked = true := by
  simp [State.linked, h]

theorem not_linked_of_link {s : State} (h : s.ring.link ≠ .linked) : s.linked = false := by
  simpa [State.linked] using h

theorem enterNotice_enters {s : State} {p : Node} {n : Notice} {rest : List Notice} (hp : s.ring.position = some p)
    (hq : s.msg.queue = []) (hn : s.msg.notices = n :: rest) :
    enterNotice s.msg.queue.isEmpty s =
      s.setMsg { s.msg with
        queue := [noticeMessage n s.msg.noticeSeq], notices := rest, noticeSeq := s.msg.noticeSeq + 1 } := by
  unfold enterNotice oldestNotice
  rw [if_neg (by simp [hp, hq]), hn]
  simp only [hq, List.isEmpty_nil, if_true, enqueue, State.setMsg_msg, State.setMsg_twice, List.nil_append]

theorem enterNotice_waits {s : State} (h : s.ring.position = none ∨ s.msg.queue ≠ [] ∨ s.msg.notices = []) :
    enterNotice s.msg.queue.isEmpty s = s := by
  unfold enterNotice oldestNotice
  rcases h with h | h | h
  · exact if_pos (by simp [h])
  · exact if_pos (by simp [h])
  · rw [h]
    exact ite_self _

theorem sendWord_idle {s : State} (h : s.ring.position = none ∨ s.msg.queue = []) : sendWord s = s := by
  have hnone : nextWord s = none := by
    unfold nextWord
    rcases h with h | h
    · rw [h]
    · rw [h]
      cases s.ring.position <;> rfl
  unfold sendWord
  rw [hnone]

/-- The words of a message: one HEAD word, its body and one CHECK word. -/
theorem messageWords_check_iff {m : OutMessage} {p : Node} {n : Nat} {w : WordType × Word}
    (h : (messageWords m p)[n]? = some w) : w.1 = .check ↔ ¬ n < m.body.length + 1 := by
  unfold messageWords at h
  rcases n with _ | n
  · cases h
    simp
  · rw [List.cons_append, List.getElem?_cons_succ] at h
    rcases lt_trichotomy n m.body.length with hn | hn | hn
    · rw [List.getElem?_append_left (by simpa using hn), List.getElem?_map] at h
      obtain ⟨b, -, rfl⟩ := Option.map_eq_some_iff.mp h
      simpa using hn
    · subst hn
      rw [List.getElem?_append_right (by simp)] at h
      simp only [List.length_map, Nat.sub_self, List.getElem?_cons_zero, Option.some.injEq] at h
      subst h
      simp
    · rw [List.getElem?_append_right (by simp; omega)] at h
      rw [List.getElem?_eq_none (by simp; omega)] at h
      cases h

theorem sendWord_sends {s : State} {p : Node} {m : OutMessage} {rest : List OutMessage} {w : WordType × Word}
    (hp : s.ring.position = some p) (hq : s.msg.queue = m :: rest) (hw : (messageWords m p)[s.msg.sent]? = some w) :
    sendWord s = (s.setRing { s.ring with replyWritten := some ⟨w.1, p, w.2⟩ }).setMsg
      (if w.1 = .check then
        { s.msg with queue := rest, sent := 0, resetPhase := if m.resets then .due else s.msg.resetPhase }
      else { s.msg with sent := s.msg.sent + 1 }) := by
  have hnext : nextWord s = some ⟨w.1, p, w.2⟩ := by
    unfold nextWord
    rw [hp, hq]
    simp only [hw, Option.map_some]
  have hsent : s.msg.wordSent =
      if w.1 = .check then
        { s.msg with queue := rest, sent := 0, resetPhase := if m.resets then .due else s.msg.resetPhase }
      else { s.msg with sent := s.msg.sent + 1 } := by
    unfold MessageUnit.wordSent
    rw [hq]
    by_cases hmore : s.msg.sent < m.body.length + 1
    · rw [if_neg (fun hc => (messageWords_check_iff hw).mp hc hmore)]
      exact (if_pos hmore).trans (by rw [← hq])
    · rw [if_pos ((messageWords_check_iff hw).mpr hmore)]
      exact if_neg hmore
  unfold sendWord
  rw [hnext, ← hsent]

theorem wordSum_eq_sum (ws : List Word) : wordSum ws = ws.sum := List.sum_eq_foldl.symm

/-- The words of a message sum to zero (R23). -/
theorem messageWords_sum (m : OutMessage) (p : Node) : ((messageWords m p).map Prod.snd).sum = 0 := by
  have hbody : (m.body.map fun w => (WordType.body, w)).map Prod.snd = m.body := by
    rw [List.map_map]
    exact List.map_id _
  unfold messageWords checkWord
  dsimp only
  rw [wordSum_eq_sum, List.map_append, List.map_cons, hbody]
  simp

/-- The fields of a HEAD word (R21). -/
theorem headWord_fields (p : Node) (kind : BitVec 6) {n : Nat} (hn : n ≤ 15) (tag : BitVec 8) :
    let h := headWord 0 p kind n tag
    field h 31 28 = 0 ∧ field h 27 24 = p.toNat ∧ field h 23 18 = kind.toNat ∧ field h 17 14 = n ∧
      field h 7 0 = tag.toNat := by
  have hlength : n % 16 = n := Nat.mod_eq_of_lt (by omega)
  have hread {v lo w : Nat} := field_of_layout (v := v) (lo := lo) (w := w)
    (parts := [at_ (0 : Node).toNat 28, at_ p.toNat 24, at_ kind.toNat 18, at_ (n % 16) 14, tag.toNat])
    (l := [(0, 28, 4), (p.toNat, 24, 4), (kind.toNat, 18, 6), (n, 14, 4), (tag.toNat, 0, 8)])
    (by
      rw [hlength]
      simp only [layoutSum_cons, layoutSum_nil, parts_cons, List.sum_nil, at_zero]
      rfl)
    ⟨by decide, by decide, by decide, p.isLt, by decide, kind.isLt, by decide, by omega, by decide, tag.isLt, trivial⟩
  exact ⟨hread (w := 4) (by simp) (by decide), hread (w := 4) (by simp) (by decide),
    hread (w := 6) (by simp) (by decide), hread (w := 4) (by simp) (by decide), hread (w := 8) (by simp) (by decide)⟩

/-- A word's value when its parts fit. -/
theorem toNat_wordOf {parts : List Nat} (h : parts.sum < 2 ^ 32) : (wordOf parts).toNat = parts.sum :=
  (BitVec.toNat_ofNat _ _).trans (Nat.mod_eq_of_lt h)

/-! ## What notices and replies hold (R27, R31) -/

/-- A notice's first word: the occurrence count above the details, which fill the lower twenty-four bits. -/
theorem noticeFirst_toNat {n : Notice} {l : List (Nat × Nat × Nat)} (hc : n.count ≤ 255) (hl : LayoutFits l 24)
    (hsum : (noticeFields n.detail).sum = layoutSum l) :
    (noticeFirst n).toNat = at_ n.count 24 + layoutSum l := by
  have hfits : LayoutFits ((n.count, 24, 8) :: l) 32 := ⟨by decide, by omega, hl⟩
  have hparts : (at_ n.count 24 :: noticeFields n.detail).sum = layoutSum ((n.count, 24, 8) :: l) := by
    rw [parts_cons, layoutSum_cons, hsum]
  unfold noticeFirst
  rw [toNat_wordOf (hparts ▸ layoutSum_lt hfits), hparts, layoutSum_cons]

theorem outcomeCode_lt (x : BankOutcome) : outcomeCode x < 4 := by
  cases x <;> decide

theorem protectEventCode_lt (x : ProtectEvent) : protectEventCode x < 8 := by
  cases x <;> decide

theorem causeCode_lt (x : CallCause) : causeCode x < 4 := by
  cases x <;> decide

theorem resultCode_lt (x : ResultCode) : resultCode x < 16 := by
  cases x <;> decide

/-- The fields of a reply's first word (R27). -/
theorem replyFirst_fields (code : ResultCode) (kind : BitVec 6) {detail : Nat} (h : detail ≤ 65535) :
    let w := replyFirst code kind detail
    field w 31 28 = resultCode code ∧ field w 27 22 = kind.toNat ∧ field w 21 16 = 0 ∧ field w 15 0 = detail := by
  have hdetail : detail % 65536 = detail := Nat.mod_eq_of_lt (by omega)
  have hread {v lo w : Nat} := field_of_layout (v := v) (lo := lo) (w := w)
    (parts := [at_ (resultCode code) 28, at_ kind.toNat 22, detail % 65536])
    (l := [(resultCode code, 28, 4), (kind.toNat, 22, 6), (0, 16, 6), (detail, 0, 16)])
    (by
      rw [hdetail]
      simp only [layoutSum_cons, layoutSum_nil, parts_cons, List.sum_nil, at_zero, zero_at, Nat.zero_add])
    ⟨by decide, resultCode_lt _, by decide, kind.isLt, by decide, by decide, by decide, by omega, trivial⟩
  exact ⟨hread (w := 4) (by simp) (by decide), hread (w := 6) (by simp) (by decide),
    hread (w := 6) (by simp) (by decide), hread (w := 16) (by simp) (by decide)⟩


/-- Settles O13: the rows by what stands in the queue; the words by their layouts. -/
theorem sendingQueue : Obligations.SendingQueue := by
  refine ⟨⟨fun s p n rest hl hp hq hn => ?_, fun s h => ?_, fun s p m rest w hl hp hq hw => ?_, fun s h => ?_⟩,
    fun m p hm => ?_, fun n hc => ?_, fun code kind detail hd => ?_⟩
  · refine congrArg Host.Outcome.next ((if_pos (linked_of_link hl)).trans ?_)
    exact enterNotice_enters hp hq hn
  · refine congrArg Host.Outcome.next ?_
    rcases h with hl | h
    · exact if_neg (by rw [not_linked_of_link hl]; decide)
    · rw [enterNotice_waits h]
      exact ite_self _
  · refine congrArg Host.Outcome.next ((if_pos (linked_of_link hl)).trans ?_)
    exact sendWord_sends hp hq hw
  · refine congrArg Host.Outcome.next ?_
    rcases h with hl | h
    · exact if_neg (by rw [not_linked_of_link hl]; decide)
    · rw [sendWord_idle h]
      exact ite_self _
  · obtain ⟨h1, h2, h3, h4, h5⟩ := headWord_fields p m.kind hm m.tag
    exact ⟨_, _, rfl, h1, h2, h3, h4, h5, messageWords_sum m p⟩
  · obtain ⟨detail, count, changed⟩ := n
    cases detail with
    | state op =>
      refine ⟨rfl, (noticeFirst_toNat (l := [(opCode op, 0, 2)]) hc ⟨by decide, opCode_lt op, trivial⟩ ?_).trans ?_, rfl⟩
      · simp only [noticeFields, layoutSum_cons, layoutSum_nil, parts_cons, List.sum_nil, at_zero]
      · refine congrArg (at_ count 24 + ·) ?_
        simp only [layoutSum_cons, layoutSum_nil, at_zero, Nat.add_zero]
        cases op <;> rfl
    | link moved long p q =>
      refine ⟨rfl, (noticeFirst_toNat (l := [(bit moved, 20, 1), (bit long, 16, 1), (positionCode p, 4, 4),
        (positionCode q, 0, 4)]) hc ⟨by decide, bit_lt _, by decide, bit_lt _, by decide, positionCode_lt _, by decide,
        positionCode_lt _, trivial⟩ ?_).trans ?_, rfl⟩
      · simp only [noticeFields, layoutSum_cons, layoutSum_nil, parts_cons, List.sum_nil, at_zero]
      · refine congrArg (at_ count 24 + ·) ?_
        simp only [layoutSum_cons, layoutSum_nil, at_zero, Nat.add_zero, ← Nat.add_assoc]
        cases p <;> cases q <;> rfl
    | bank c x i =>
      intro holds hi
      refine ⟨rfl, (noticeFirst_toNat (l := [(c.val, 16, 5), (outcomeCode x, 8, 2), (i, 0, 8)]) hc
        ⟨by decide, c.isLt.trans (by decide), by decide, outcomeCode_lt x, by decide, by omega, trivial⟩ ?_).trans ?_, rfl⟩
      · simp only [noticeFields, layoutSum_cons, layoutSum_nil, parts_cons, List.sum_nil, at_zero]
      · refine congrArg (at_ count 24 + ·) ?_
        simp only [layoutSum_cons, layoutSum_nil, at_zero, Nat.add_zero, ← Nat.add_assoc]
        cases x <;> rfl
    | claim y x held =>
      have hflag : (if held then 2 else 0) < 2 ^ 2 := by cases held <;> decide
      have hsecond : (wordOf [changed.toNat % 32]).toNat = changed.toNat % 32 :=
        toNat_wordOf (show changed.toNat % 32 + 0 < 2 ^ 32 by omega)
      refine ⟨_, hsecond, rfl, (noticeFirst_toNat
        (l := [((seatZone y).val, 16, 3), (sourceCode x, 8, 3), (if held then 2 else 0, 0, 2)]) hc
        ⟨by decide, (seatZone y).isLt.trans (by decide), by decide, (sourceCode_lt x).trans (by decide), by decide, hflag,
          trivial⟩ ?_).trans ?_, rfl⟩
      · simp only [noticeFields, layoutSum_cons, layoutSum_nil, parts_cons, List.sum_nil, at_zero]
      · refine congrArg (at_ count 24 + ·) ?_
        simp only [layoutSum_cons, layoutSum_nil, at_zero, Nat.add_zero, ← Nat.add_assoc]
        cases x <;> rfl
    | protect c e =>
      have hlt := changed.isLt
      have hsecond : (wordOf [changed.toNat]).toNat = changed.toNat :=
        toNat_wordOf (show changed.toNat + 0 < 2 ^ 32 by omega)
      refine ⟨_, hsecond, rfl, (noticeFirst_toNat (l := [(c.val, 16, 5), (protectEventCode e, 0, 3)]) hc
        ⟨by decide, c.isLt.trans (by decide), by decide, protectEventCode_lt e, trivial⟩ ?_).trans ?_, rfl⟩
      · simp only [noticeFields, layoutSum_cons, layoutSum_nil, parts_cons, List.sum_nil, at_zero]
      · refine congrArg (at_ count 24 + ·) ?_
        simp only [layoutSum_cons, layoutSum_nil, at_zero, Nat.add_zero]
        cases e <;> rfl
    | antenna a here long =>
      intro holds hlong
      refine ⟨rfl, (noticeFirst_toNat (l := [(bit here, 20, 1), (a.val, 16, 2), (long, 0, 16)]) hc
        ⟨by decide, bit_lt _, by decide, a.isLt, by decide, by omega, trivial⟩ ?_).trans ?_, rfl⟩
      · simp only [noticeFields, layoutSum_cons, layoutSum_nil, parts_cons, List.sum_nil, at_zero]
      · refine congrArg (at_ count 24 + ·) ?_
        simp only [layoutSum_cons, layoutSum_nil, at_zero, Nat.add_zero, ← Nat.add_assoc]
        rfl
    | reception x y =>
      intro holds w hw
      have hword : noticeSecond ⟨.reception x y, count, changed⟩ = [w] := by
        refine congrArg (fun v => [v]) (BitVec.eq_of_toNat_eq ?_)
        have hlt : y + 0 < 2 ^ 32 := hw ▸ w.isLt
        exact (toNat_wordOf (parts := [y]) hlt).trans hw.symm
      refine ⟨rfl, (noticeFirst_toNat (l := [(receptionCode x, 0, 2)]) hc ⟨by decide, receptionCode_lt x, trivial⟩
        ?_).trans ?_, hword⟩
      · simp only [noticeFields, layoutSum_cons, layoutSum_nil, parts_cons, List.sum_nil, at_zero]
      · refine congrArg (at_ count 24 + ·) ?_
        simp only [layoutSum_cons, layoutSum_nil, at_zero, Nat.add_zero]
        cases x <;> rfl
    | call x =>
      refine ⟨rfl, (noticeFirst_toNat (l := [(causeCode x, 0, 2)]) hc ⟨by decide, causeCode_lt x, trivial⟩ ?_).trans ?_,
        rfl⟩
      · simp only [noticeFields, layoutSum_cons, layoutSum_nil, parts_cons, List.sum_nil, at_zero]
      · refine congrArg (at_ count 24 + ·) ?_
        simp only [layoutSum_cons, layoutSum_nil, at_zero, Nat.add_zero]
        cases x <;> rfl
    | echo x =>
      refine ⟨rfl, (noticeFirst_toNat (l := [(echoCode x, 0, 2)]) hc ⟨by decide, echoCode_lt x, trivial⟩ ?_).trans ?_, rfl⟩
      · simp only [noticeFields, layoutSum_cons, layoutSum_nil, parts_cons, List.sum_nil, at_zero]
      · refine congrArg (at_ count 24 + ·) ?_
        simp only [layoutSum_cons, layoutSum_nil, at_zero, Nat.add_zero]
        cases x <;> rfl
    | dropped x =>
      intro holds hx
      refine ⟨rfl, (noticeFirst_toNat (l := [(x, 0, 16)]) hc ⟨by decide, by omega, trivial⟩ ?_).trans ?_, rfl⟩
      · simp only [noticeFields, layoutSum_cons, layoutSum_nil, parts_cons, List.sum_nil, at_zero]
      · refine congrArg (at_ count 24 + ·) ?_
        simp only [layoutSum_cons, layoutSum_nil, at_zero, Nat.add_zero]
  · obtain ⟨hcode, hkind, hzero, hdetail⟩ := replyFirst_fields code kind hd
    refine ⟨hcode.trans ?_, hkind, hzero, hdetail⟩
    cases code <;> rfl

end Sys2Proof.Machine


namespace Sys2Proof.Machine

/-! ## An event that raises no path-change event -/

/-- An event that is due, has its effect and raises nothing. -/
theorem eventStep_effect {due : Bool} {effect : State → State} {s : State} (ha : s.active = true) (hd : due = true)
    (hpath : (effect s).uplink.pathRaised = false) : eventStep due effect s = effect s :=
  (eventStep_due ha hd).trans (takePath_idle hpath)

/-! ## Calls (R169 to R175, R181, R187) -/

/-- The echo state at a call event, written as one update of the uplink unit and the notice of a change. -/
theorem callEcho_eq (e : EchoState) (s : State) :
    callEcho e s = if s.uplink.echo = e then s.setUplink { s.uplink with echo := e, converge := 0, diverge := 0 }
      else postNotice (.echo e) (s.setUplink { s.uplink with echo := e, converge := 0, diverge := 0 }) := by
  unfold callEcho setEcho
  split <;> rfl

/-- A call event raises no path-change event. -/
theorem callEcho_path (e : EchoState) (s : State) : (callEcho e s).uplink.pathRaised = s.uplink.pathRaised := by
  rw [callEcho_eq]
  split <;> rfl

theorem callEcho_phase (e : EchoState) (s : State) : (callEcho e s).msg.resetPhase = s.msg.resetPhase := by
  rw [callEcho_eq]
  split <;> rfl

/-- The beam point that is not live, as a number. -/
theorem otherPoint_val (u : UplinkUnit) : (otherPoint u).val = 1 - u.live.val := by
  unfold otherPoint
  omega

theorem set_otherPoint (u : UplinkUnit) (sel : List SeatBeam) :
    u.selections.set (otherPoint u) sel = u.selections.set (1 - u.live) sel := by
  simp only [otherPoint_val]

/-- What a placement leaves, its path-change event taken (R173, R181); `takePath_placeCall` ties it to the model. -/
def placed (p : Fin 4) (s : State) : State :=
  if p = s.call.placement then s.setCall { s.call with placement := p }
  else if s.uplink.fading then
    (s.setCall { s.call with placement := p }).setUplink { s.uplink with changePending := true }
  else pathEffect ((s.setCall { s.call with placement := p }).setUplink { s.uplink with
    selections := s.uplink.selections.set (1 - s.uplink.live) (selectionOf s.uplink.beams p), fading := true })

theorem takePath_placeCall {s : State} (hpath : s.uplink.pathRaised = false) (p : Fin 4) :
    takePath (placeCall p s) = placed p s := by
  unfold placeCall changeBeams placed
  by_cases hp : p = s.call.placement
  · rw [if_pos hp, if_pos hp, takePath_idle (by exact hpath)]
  · rw [if_neg hp, if_neg hp]
    by_cases hf : s.uplink.fading = true
    · rw [if_pos hf, if_pos (by exact hf), takePath_idle (by exact hpath)]
      rfl
    · rw [if_neg hf, if_neg (by exact hf)]
      have hcalm : (((s.setCall { s.call with placement := p }).setUplink { s.uplink with
          selections := s.uplink.selections.set (1 - s.uplink.live) (selectionOf s.uplink.beams p),
          fading := true })).uplink.pathRaised = false := hpath
      rw [startBeamFade, set_otherPoint]
      exact takePath_raised hcalm

theorem placeCall_phase (p : Fin 4) (s : State) : (placeCall p s).msg.resetPhase = s.msg.resetPhase := by
  unfold placeCall changeBeams
  split
  · rfl
  · dsimp only
    split <;> rfl

/-- Settles O36: the call states of R169, the placement's beam change and the echo state at CONNECT. -/
theorem callAlertConnectMove : Obligations.CallAlertConnectMove := by
  intro r s h p g gain
  obtain ⟨-, -, hphase, -, hpath⟩ := id h
  have hplace {k : RequestKind} (hp : Passes k r s) {t : State} (hh : handlerOf k r s = answerOk (placeCall p t))
      (ht : t.uplink.pathRaised = false) (hnone : t.msg.resetPhase = .none) :
      exec (requestInstr k r) s = .next (answered (requestCode k) r .ok 0 [] (placed p t)) := by
    rw [exec_passed h hp hh ((placeCall_phase p t).trans hnone), takePath_placeCall ht]
  refine ⟨fun hp => ?_, fun hp => ?_, fun hp => ?_⟩
  · cases hc : s.call.state with
    | idle =>
      have hh : handleCallAlert r s = answerOk (placeCall p (s.setCall { s.call with state := .alerting })) := by
        rw [handleCallAlert, hc]
        rfl
      exact hplace (k := .callAlert) hp hh hpath hphase
    | closing | alerting | active | onHold =>
      exact exec_refused (k := .callAlert) h hp (by rw [handlerOf, handleCallAlert, hc])
  · have hconnect (hh : handleCallConnect r s = answerOk (connectCall gain s)) :
        exec (.callConnect r) s = .next (answered 49 r .ok 0 [] (connectCall gain s)) :=
      exec_answered (k := .callConnect) h hp hh (callEcho_phase _ _) (callEcho_path _ _)
    have hgain : clampSteps (-320) 32 (stepOf g) = gain := clampSteps_stepOf _ _ _
    rw [connectCall, callEcho_eq] at hconnect
    cases hc : s.call.state with
    | idle | alerting => exact hconnect (by rw [handleCallConnect, hc, ← hgain, ← callEcho_eq]; rfl)
    | closing | active | onHold =>
      exact exec_refused (k := .callConnect) h hp (by rw [handlerOf, handleCallConnect, hc])
  · cases hc : s.call.state with
    | alerting | active | onHold =>
      have hh : handleCallMove r s = answerOk (placeCall p s) := by
        rw [handleCallMove, hc]
        rfl
      exact hplace (k := .callMove) hp hh hpath hphase
    | idle | closing => exact exec_refused (k := .callMove) h hp (by rw [handlerOf, handleCallMove, hc])

/-- Settles O37: the call states of R169 and the echo state at each call event. -/
theorem callHoldResumeEnd : Obligations.CallHoldResumeEnd := by
  intro r s h
  have hecho {k : RequestKind} (hp : Passes k r s) {c : ResultCode} {e : EchoState} {t : State}
      (hh : handlerOf k r s = ⟨c, 0, [], callEcho e t⟩) (hpath : t.uplink.pathRaised = s.uplink.pathRaised)
      (hphase : t.msg.resetPhase = s.msg.resetPhase) :
      exec (requestInstr k r) s = .next (answered (requestCode k) r c 0 [] (if t.uplink.echo = e then
        t.setUplink { t.uplink with echo := e, converge := 0, diverge := 0 }
      else postNotice (.echo e) (t.setUplink { t.uplink with echo := e, converge := 0, diverge := 0 }))) := by
    rw [exec_answered h hp hh ((callEcho_phase e t).trans hphase) ((callEcho_path e t).trans hpath), callEcho_eq]
  refine ⟨fun hp => ?_, fun hp => ?_, fun hp => ?_⟩
  · cases hc : s.call.state with
    | active => exact hecho (k := .callHold) hp (by rw [handlerOf, handleCallHold, hc]; rfl) rfl rfl
    | idle | alerting | onHold | closing =>
      exact exec_refused (k := .callHold) h hp (by rw [handlerOf, handleCallHold, hc])
  · cases hc : s.call.state with
    | onHold => exact hecho (k := .callResume) hp (by rw [handlerOf, handleCallResume, hc]; rfl) rfl rfl
    | idle | alerting | active | closing =>
      exact exec_refused (k := .callResume) h hp (by rw [handlerOf, handleCallResume, hc])
  · cases hc : s.call.state with
    | alerting | active | onHold =>
      exact hecho (k := .callEnd) hp (by rw [handlerOf, handleCallEnd, hc]; rfl) rfl rfl
    | closing | idle => exact exec_unchanged (k := .callEnd) h hp (by rw [handlerOf, handleCallEnd, hc]; rfl)

theorem duckingRamp_iff (p : GainPoint) : duckingRamp p = true ↔ ∃ x, p.ramp = some x ∧ x.cause = .ducking := by
  unfold duckingRamp
  cases p.ramp with
  | none => simp
  | some x => simp

/-- The three conditions of R175 in the words of the rule. -/
theorem callSilent_iff (g : GainUnit) :
    callSilent g = true ↔ (∀ z : Fin 5, g.feed[z].current = 0) ∧ g.uplink.current = 0 ∧
      ∀ (i : Fin 32) (x : Ramp), g.route[i].ramp = some x → x.cause ≠ .ducking := by
  have hfeed : (g.feed.all fun p => p.current == 0) = true ↔ ∀ z : Fin 5, g.feed[z].current = 0 := by
    simp [Vector.all_eq_true, Fin.forall_iff]
  have hroute : (!g.route.any duckingRamp) = true ↔
      ∀ (i : Fin 32) (x : Ramp), g.route[i].ramp = some x → x.cause ≠ .ducking := by
    rw [Bool.not_eq_true', Vector.any_eq_false]
    simp only [duckingRamp_iff, Fin.forall_iff, not_exists, not_and]
    rfl
  rw [callSilent, Bool.and_eq_true, Bool.and_eq_true, hfeed, hroute, beq_iff_eq, and_assoc]

/-- Settles O38: R175's test in its own words, and what an end of a closing does. -/
theorem closingEnds : Obligations.ClosingEnds := by
  intro s hpath silent due
  have hdue : s.active = true ∧ closingDue s = true ↔ due := by
    have hruns : s.active = true → s.running = true := fun ha => (Bool.and_eq_true _ _ ▸ ha : _ ∧ _).2
    rw [closingDue, Bool.and_eq_true, Bool.and_eq_true, Bool.and_eq_true, Bool.and_eq_true, callSilent_iff, beq_iff_eq,
      bne_iff_ne]
    constructor
    · rintro ⟨ha, ⟨⟨⟨hcall, hop⟩, -⟩, harmed⟩, hsilent⟩
      exact ⟨ha, hop, hcall, harmed, hsilent⟩
    · rintro ⟨ha, hop, hcall, harmed, hsilent⟩
      exact ⟨ha, ⟨⟨⟨hcall, hop⟩, hruns ha⟩, harmed⟩, hsilent⟩
  constructor
  · intro h
    obtain ⟨ha, hd⟩ := hdue.mpr h
    exact congrArg Host.Outcome.next (eventStep_effect ha hd hpath)
  · intro h
    refine congrArg Host.Outcome.next (eventStep_idle ?_)
    rw [← hdue] at h
    simpa only [Bool.not_eq_true] using not_and_or.mp h

end Sys2Proof.Machine


namespace Sys2Proof.Machine

/-! ## The claims of a seat -/

theorem pendingOf_spec {m : MixUnit} {z : Fin 2} {c : Claim} (h : pendingOf m z = some c) :
    c ∈ m.claims ∧ c.zone = z ∧ c.state = .pending := by
  have hp := List.find?_some h
  rw [Bool.and_eq_true, beq_iff_eq, beq_iff_eq] at hp
  exact ⟨List.mem_of_find?_eq_some h, hp⟩

theorem claimOf_spec {m : MixUnit} {z : Fin 2} {c : Claim} (h : claimOf m z = some c) :
    c ∈ m.claims ∧ c.zone = z ∧ c.state ≠ .releasing := by
  have hp := List.find?_some h
  rw [Bool.and_eq_true, beq_iff_eq, bne_iff_ne] at hp
  exact ⟨List.mem_of_find?_eq_some h, hp⟩

theorem releasingOf_eq_none_iff (m : MixUnit) (z : Fin 2) :
    releasingOf m z = none ↔ ∀ d ∈ m.claims, d.zone = z → d.state ≠ .releasing := by
  rw [releasingOf, List.find?_eq_none]
  simp only [Bool.and_eq_true, beq_iff_eq, not_and]

theorem claimBecomesHeld_of {z : Fin 2} {s : State} {c : Claim} (h : pendingOf s.mix z = some c) :
    claimBecomesHeld z s =
      postNotice (.claim z c.source true) (s.setMix { s.mix with claims := s.mix.claims.map (Claim.holding z) }) := by
  rw [claimBecomesHeld, h]
  rfl

theorem claimReachesNone_of {z : Fin 2} {s : State} {c : Claim} (h : releasingOf s.mix z = some c) :
    claimReachesNone z s = postNotice (.claim z c.source false) (s.setMix { s.mix with
      claims := s.mix.claims.filter fun d => !(d.zone == z && d.state == .releasing) }) := by
  rw [claimReachesNone, h]

theorem claimReachesNone_of_none {z : Fin 2} {s : State} (h : releasingOf s.mix z = none) : claimReachesNone z s = s := by
  rw [claimReachesNone, h]

theorem claims_iff (m : MixUnit) (z : Fin 2) (x : Source) :
    claims m z x = true ↔ ∃ c, claimOf m z = some c ∧ c.source = x := by
  rw [claims, Option.any_eq_true]
  simp only [beq_iff_eq]

theorem not_claims_of_none {m : MixUnit} {z : Fin 2} (h : claimOf m z = none) (x : Source) : ¬ claims m z x = true := by
  rw [claims_iff, h]
  rintro ⟨c, hc, -⟩
  cases hc

theorem not_claims_of_ne {m : MixUnit} {z : Fin 2} {c : Claim} {x : Source} (h : claimOf m z = some c)
    (hne : c.source ≠ x) : ¬ claims m z x = true := by
  rw [claims_iff, h]
  rintro ⟨d, hd, hdx⟩
  exact hne (Option.some.inj hd ▸ hdx)

/-! ## CLAIM_HELD and CLAIM_NONE (R61, R62) -/

theorem sharedRoutesSilent_iff (s : State) (x : Source) :
    sharedRoutesSilent s x = true ↔ ∀ i : Fin 32, s.mix.routes[i].state ≠ .empty → s.mix.routes[i].source = x →
      s.mix.routes[i].zone.val ≤ 2 → s.gain.route[i].current = 0 := by
  unfold sharedRoutesSilent
  rw [List.all_eq_true]
  refine ⟨fun h i he hx hz => ?_, fun h i _ => ?_⟩
  · have hi := h i (List.mem_finRange i)
    dsimp only at hi
    rw [bne_iff_ne.mpr he, beq_iff_eq.mpr hx, decide_eq_true hz] at hi
    exact beq_iff_eq.mp hi
  · by_cases hi : s.mix.routes[i].state ≠ .empty ∧ s.mix.routes[i].source = x ∧ s.mix.routes[i].zone.val ≤ 2
    · obtain ⟨he, hx, hz⟩ := hi
      simp [-Fin.getElem_fin, h i he hx hz]
    · dsimp only
      rw [Bool.or_eq_true, Bool.not_eq_true', ← Bool.not_eq_true]
      refine .inl fun hand => hi ?_
      simpa only [Bool.and_eq_true, bne_iff_ne, beq_iff_eq, decide_eq_true_eq, and_assoc] using hand

theorem heldDue_iff (s : State) (z : Fin 2) :
    heldDue s z = true ↔ ∃ c, pendingOf s.mix z = some c ∧
      (∀ i : Fin 32, s.mix.routes[i].state ≠ .empty → s.mix.routes[i].source = c.source →
        s.mix.routes[i].zone.val ≤ 2 → s.gain.route[i].current = 0) ∧
      ∀ d ∈ s.mix.claims, d.zone = z → d.state ≠ .releasing := by
  unfold heldDue
  cases pendingOf s.mix z with
  | none => simp
  | some c =>
    dsimp only
    rw [Bool.and_eq_true, sharedRoutesSilent_iff, Option.isNone_iff_eq_none, releasingOf_eq_none_iff]
    simp only [Option.some.injEq, exists_eq_left']

theorem noneDue_iff (s : State) (z : Fin 2) :
    noneDue s z = true ↔ (∃ c, releasingOf s.mix z = some c) ∧ s.gain.seat[z].current = 0 := by
  rw [noneDue, Bool.and_eq_true, Option.isSome_iff_exists, beq_iff_eq]

/-- Settles O30: the tests of R61 and R62 and what follows each. -/
theorem claimEvents : Obligations.ClaimEvents := by
  intro s z ha hpath
  refine ⟨fun c hc hsilent hfree => ?_, fun h => ?_, fun c hc hzero => ?_, fun h => ?_⟩
  · have heffect := claimBecomesHeld_of hc
    refine congrArg Host.Outcome.next ((eventStep_effect ha ((heldDue_iff s z).mpr ⟨c, hc, hsilent, hfree⟩) ?_).trans
      heffect)
    rw [heffect]
    exact hpath
  · refine congrArg Host.Outcome.next (eventStep_idle (.inr ?_))
    rw [← Bool.not_eq_true, heldDue_iff]
    rintro ⟨c, hc, hsilent, hfree⟩
    obtain hnone | ⟨d, hd, hz, hr⟩ | ⟨c', i, hc', he, hx, hz, hcurrent⟩ := h
    · rw [hc] at hnone
      cases hnone
    · exact hfree d hd hz hr
    · obtain rfl : c = c' := Option.some.inj (hc.symm.trans hc')
      exact hcurrent (hsilent i he hx hz)
  · have heffect := claimReachesNone_of hc
    refine congrArg Host.Outcome.next ((eventStep_effect ha ((noneDue_iff s z).mpr ⟨⟨c, hc⟩, hzero⟩) ?_).trans heffect)
    rw [heffect]
    exact hpath
  · refine congrArg Host.Outcome.next (eventStep_idle (.inr ?_))
    rw [← Bool.not_eq_true, noneDue_iff]
    rintro ⟨⟨c, hc⟩, hzero⟩
    rcases h with h | h
    · rw [hc] at h
      cases h
    · exact h hzero

/-! ## ZONE SOURCE (R59, R60, R62, R64) -/

/-- With no RELEASING claim of its own, a seat whose HELD claim is released and ends at once loses its HELD claim. -/
theorem filter_released {l : List Claim} {z : Fin 2} (hfree : ∀ d ∈ l, d.zone = z → d.state ≠ .releasing) :
    (l.map (Claim.released z)).filter (fun d => !(d.zone == z && d.state == .releasing)) =
      l.filter fun d => !(d.zone == z && d.state == .held) := by
  induction l with
  | nil => rfl
  | cons d l ih =>
    have hd := hfree d List.mem_cons_self
    have hrest := ih fun c hc => hfree c (List.mem_cons_of_mem d hc)
    rw [List.map_cons, List.filter_cons, List.filter_cons, hrest]
    by_cases hz : d.zone = z
    · have hnot := hd hz
      cases hs : d.state with
      | releasing => exact absurd hs hnot
      | held => simp [Claim.released, hz, hs]
      | pending => simp [Claim.released, hz, hs]
    · simp [Claim.released, hz]

/-- A seat's HELD claim, released, is its RELEASING one: it has no other beside. -/
theorem find_released {l : List Claim} (h : ClaimsSound l) {z : Fin 2} {c : Claim} (hc : c ∈ l) (hz : c.zone = z)
    (hheld : c.state = .held) :
    (l.map (Claim.released z)).find? (fun d => d.zone == z && d.state == .releasing) = some (c.released z) := by
  obtain ⟨-, -, hbeside, -, -⟩ := h
  have hpred (d : Claim) : ((d.released z).zone == z && (d.released z).state == .releasing) =
      (d.zone == z && d.state != .pending) := by
    by_cases hd : d.zone = z
    · cases hs : d.state <;> simp [Claim.released, hd, hs]
    · have hoff : (d.zone == z) = false := beq_eq_false_iff_ne.mpr hd
      simp [Claim.released, hd, hoff]
  rw [List.find?_map, Option.map_eq_some_iff]
  refine ⟨c, ?_, rfl⟩
  rw [show ((fun d : Claim => d.zone == z && d.state == .releasing) ∘ Claim.released z) = _ from funext hpred]
  have hcp : (c.zone == z && c.state != .pending) = true := by simp [hz, hheld]
  cases hf : l.find? fun d => d.zone == z && d.state != .pending with
  | none => exact absurd hcp (List.find?_eq_none.mp hf c hc)
  | some d =>
    have hdp : (d.zone == z && d.state != .pending) = true :=
      List.find?_some (p := fun d : Claim => d.zone == z && d.state != .pending) hf
    rw [eq_of_claimCount_le (hbeside z) (List.mem_of_find?_eq_some hf) hc hdp hcp]

/-- Beside a HELD claim of a seat stands no RELEASING one. -/
theorem not_releasing_of_held {l : List Claim} (h : ClaimsSound l) {z : Fin 2} {c : Claim} (hc : c ∈ l)
    (hz : c.zone = z) (hheld : c.state = .held) {d : Claim} (hd : d ∈ l) (hdz : d.zone = z) : d.state ≠ .releasing := by
  obtain ⟨-, -, hbeside, -, -⟩ := h
  intro hr
  have hdc := eq_of_claimCount_le (hbeside z) hd hc (by simp [hdz, hr]) (by simp [hz, hheld])
  rw [hdc, hheld] at hr
  cases hr

/-- A PENDING claim that joins a list with none of its seat's is the one found. -/
theorem find_pending_append {l : List Claim} {z : Fin 2} (hno : ∀ d ∈ l, d.zone = z → d.state ≠ .pending) (x : Source) :
    (l ++ [(⟨z, x, .pending⟩ : Claim)]).find? (fun d : Claim => d.zone == z && d.state == .pending) =
      some ⟨z, x, .pending⟩ := by
  have hnone : (l.find? fun d : Claim => d.zone == z && d.state == .pending) = none := by
    rw [List.find?_eq_none]
    intro d hd
    simpa using hno d hd
  rw [List.find?_append, hnone]
  simp

/-- That claim becomes HELD, every other one staying as it is. -/
theorem map_holding_append {l : List Claim} {z : Fin 2} (hno : ∀ d ∈ l, d.zone = z → d.state ≠ .pending) (x : Source) :
    (l ++ [(⟨z, x, .pending⟩ : Claim)]).map (Claim.holding z) = l ++ [⟨z, x, .held⟩] := by
  have hkeep : l.map (Claim.holding z) = l := by
    refine (List.map_congr_left fun d hd => ?_).trans (List.map_id l)
    exact if_neg fun ⟨hz, hp⟩ => hno d hd hz hp
  rw [List.map_append, hkeep]
  simp [Claim.holding]

/-- A seat with a HELD claim has no PENDING one beside it. -/
theorem not_pending_of_held {l : List Claim} (h : ClaimsSound l) {z : Fin 2} {c : Claim} (hc : c ∈ l)
    (hz : c.zone = z) (hheld : c.state = .held) {d : Claim} (hd : d ∈ l) (hdz : d.zone = z) : d.state ≠ .pending := by
  obtain ⟨hown, -, -, -, -⟩ := h
  intro hp
  have hdc := eq_of_claimCount_le (hown z) hd hc (by simp [hdz, hp]) (by simp [hz, hheld])
  rw [hdc, hheld] at hp
  cases hp

/-- A HELD claim's release in CONFIG (R64). -/
theorem releaseAtOnce_of_held {s : State} {z : Fin 2} {c : Claim} (h : ClaimInv s) (hc : claimOf s.mix z = some c)
    (hheld : c.state = .held) :
    releaseAtOnce z s = postNotice (.claim z c.source false) (silencePoint (.seat z) (s.setMix { s.mix with
      claims := s.mix.claims.filter fun d => !(d.zone == z && d.state == .held) })) := by
  obtain ⟨hmem, hz, -⟩ := claimOf_spec hc
  have hfind : releasingOf (silencePoint (.seat z) (releaseHeld z s)).mix z = some (c.released z) :=
    find_released h hmem hz hheld
  rw [releaseAtOnce, claimReachesNone_of hfind, Claim.released_source,
    ← filter_released fun d hd => not_releasing_of_held h hmem hz hheld hd]
  rfl

/-- A seat with no claim gets one in CONFIG (R64). -/
theorem claimAtOnce_of_free {s : State} {z : Fin 2} (hfree : ∀ c ∈ s.mix.claims, c.zone ≠ z) (x : Source) :
    claimAtOnce z x s = postNotice (.claim z x true) (silencePoint (.seat z) (silenceShared x (setSeatMode z true
      (s.setMix { s.mix with claims := s.mix.claims ++ [⟨z, x, .held⟩] })))) := by
  have hnone : claimOf s.mix z = none := by
    rw [claimOf, List.find?_eq_none]
    intro c hc
    simp [hfree c hc]
  have hnew : newClaim z x s =
      setSeatMode z true (s.setMix { s.mix with claims := s.mix.claims ++ [⟨z, x, .pending⟩] }) := by
    rw [newClaim, hnone]
  have hno (d : Claim) (hd : d ∈ s.mix.claims) (hz : d.zone = z) : d.state ≠ .pending := absurd hz (hfree d hd)
  have hquiet : releasingOf (silencePoint (.seat z) (silenceShared x (newClaim z x s))).mix z = none := by
    rw [hnew, releasingOf_eq_none_iff]
    intro d hd hz hr
    rcases List.mem_append.mp hd with hd | hd
    · exact hfree d hd hz
    · rw [List.mem_singleton.mp hd] at hr
      cases hr
  have hpending : pendingOf (silencePoint (.seat z) (silenceShared x (newClaim z x s))).mix z = some ⟨z, x, .pending⟩ := by
    rw [hnew]
    exact find_pending_append hno x
  rw [claimAtOnce, claimReachesNone_of_none hquiet, claimBecomesHeld_of hpending, hnew, ← map_holding_append hno x]
  rfl

/-- A seat's HELD claim gives way to another source in CONFIG (R64). -/
theorem claimAtOnce_of_held {s : State} {z : Fin 2} {c : Claim} (h : ClaimInv s) (hc : claimOf s.mix z = some c)
    (hheld : c.state = .held) (x : Source) :
    claimAtOnce z x s = postNotice (.claim z x true) (postNotice (.claim z c.source false)
      (silencePoint (.seat z) (silenceShared x (setSeatMode z true (s.setMix { s.mix with
        claims := (s.mix.claims.filter fun d => !(d.zone == z && d.state == .held)) ++ [⟨z, x, .held⟩] }))))) := by
  obtain ⟨hmem, hz, -⟩ := claimOf_spec hc
  have hnew : newClaim z x s = setSeatMode z true (s.setMix { s.mix with
      claims := s.mix.claims.map (Claim.released z) ++ [⟨z, x, .pending⟩] }) := by
    rw [newClaim, hc]
    exact congrArg (fun t : State => setSeatMode z true (t.setMix { t.mix with
      claims := t.mix.claims ++ [⟨z, x, .pending⟩] })) (if_neg (by rw [hheld]; decide))
  have hfree (d : Claim) (hd : d ∈ s.mix.claims) (hdz : d.zone = z) : d.state ≠ .releasing :=
    not_releasing_of_held h hmem hz hheld hd hdz
  have hno (d : Claim) (hd : d ∈ s.mix.claims.filter fun d => !(d.zone == z && d.state == .held)) (hdz : d.zone = z) :
      d.state ≠ .pending :=
    not_pending_of_held h hmem hz hheld (List.mem_of_mem_filter hd) hdz
  have hreleasing : releasingOf (silencePoint (.seat z) (silenceShared x (newClaim z x s))).mix z =
      some (c.released z) := by
    rw [hnew]
    show List.find? _ (_ ++ _) = _
    rw [List.find?_append, find_released h hmem hz hheld]
    rfl
  have hlist : (s.mix.claims.map (Claim.released z) ++ [(⟨z, x, .pending⟩ : Claim)]).filter
      (fun d => !(d.zone == z && d.state == .releasing)) =
        (s.mix.claims.filter fun d => !(d.zone == z && d.state == .held)) ++ [⟨z, x, .pending⟩] := by
    rw [List.filter_append, filter_released hfree]
    simp
  have hpending : pendingOf (claimReachesNone z (silencePoint (.seat z) (silenceShared x (newClaim z x s)))).mix z =
      some ⟨z, x, .pending⟩ := by
    rw [claimReachesNone_of hreleasing, hnew]
    exact (congrArg _ hlist).trans (find_pending_append hno x)
  rw [claimAtOnce, claimBecomesHeld_of hpending, claimReachesNone_of hreleasing, Claim.released_source, hnew,
    ← map_holding_append hno x, ← hlist]
  rfl

/-- ZONE SOURCE on a zone that is no seat's. -/
theorem handleZoneSource_elsewhere {r : Request} {s : State} (h3 : field (argument r 0) 31 28 ≠ 3)
    (h4 : field (argument r 0) 31 28 ≠ 4) : handleZoneSource r s = refuse .badArg 0 s := by
  cases hz : seatOf (field (argument r 0) 31 28) with
  | none => rw [handleZoneSource, hz]
  | some z =>
    have hcode := (seatOf_eq_some_iff _ z).mp hz
    have hval : (seatZone z).val = z.val + 3 := rfl
    omega

/-- ZONE SOURCE naming a source no claim is made on. -/
theorem handleZoneSource_unclaimable {r : Request} {s : State} {x : Source}
    (hx : sourceOf (field (argument r 0) 2 0) = some x) (hno : x.claimable = false) :
    handleZoneSource r s = refuse .badArg 0 s := by
  cases hz : seatOf (field (argument r 0) 31 28) with
  | none => rw [handleZoneSource, hz]
  | some z =>
    rw [handleZoneSource, hz, hx]
    exact if_neg (by rw [hno]; decide)

theorem handleZoneSource_none {r : Request} {s : State} {z : Fin 2} (hz : seatOf (field (argument r 0) 31 28) = some z)
    (hx : sourceOf (field (argument r 0) 2 0) = none) : handleZoneSource r s = releaseZone z s := by
  rw [handleZoneSource, hz, hx]

theorem handleZoneSource_some {r : Request} {s : State} {z : Fin 2} {x : Source}
    (hz : seatOf (field (argument r 0) 31 28) = some z) (hx : sourceOf (field (argument r 0) 2 0) = some x)
    (hclaim : x.claimable = true) : handleZoneSource r s = claimZone z x s := by
  rw [handleZoneSource, hz, hx]
  exact if_pos hclaim

theorem claimable_of_code {x : Source} (h : sourceCode x ≤ 3) : x.claimable = true := by
  cases x with
  | radio | mediaA | mediaB | mediaC => rfl
  | prompt | chime | call => exact absurd h (by decide)

/-- Settles O29: the refusals, the release in each claim state, and the new claim in each operating state. -/
theorem zoneSource : Obligations.ZoneSource := by
  intro r s h hp w src
  have hdone {c : ResultCode} {d : Nat} {t : State} (hh : handleZoneSource r s = ⟨c, d, [], t⟩)
      (hphase : t.msg.resetPhase = s.msg.resetPhase) (hpath : t.uplink.pathRaised = s.uplink.pathRaised) :
      exec (.zoneSource r) s = .next (answered 20 r c d [] t) :=
    exec_answered (k := .zoneSource) h hp hh hphase hpath
  have hrun {α : Sort _} (hop : s.msg.op = .run) (x y : α) : (if s.msg.op = .config then x else y) = y :=
    if_neg (by rw [hop]; decide)
  refine ⟨fun hbad => ?_, fun z hzone => ?_⟩
  · rcases hbad with ⟨h3, h4⟩ | ⟨hlow, hhigh⟩
    · exact hdone (handleZoneSource_elsewhere h3 h4) rfl rfl
    · obtain ⟨x, hx, hno⟩ : ∃ x, sourceOf src = some x ∧ x.claimable = false := by
        obtain hsrc | hsrc | hsrc : src = 4 ∨ src = 5 ∨ src = 6 := by omega
        all_goals rw [hsrc]; exact ⟨_, rfl, rfl⟩
      exact hdone (handleZoneSource_unclaimable hx hno) rfl rfl
  have hz := (seatOf_eq_some_iff _ z).mpr hzone.symm
  refine ⟨fun hsrc hnone => ?_, fun c hsrc hc hstate => ?_, fun c hsrc hc hstate => ?_, fun x hsrc hlow => ?_⟩
  · have hrelease := handleZoneSource_none (s := s) hz (congrArg sourceOf hsrc)
    rw [releaseZone, hnone] at hrelease
    exact hdone hrelease rfl rfl
  · have hrelease := handleZoneSource_none (s := s) hz (congrArg sourceOf hsrc)
    rw [releaseZone, hc] at hrelease
    exact hdone (hrelease.trans (if_pos hstate)) rfl rfl
  · have hrelease := handleZoneSource_none (s := s) hz (congrArg sourceOf hsrc)
    rw [releaseZone, hc] at hrelease
    replace hrelease := hrelease.trans (if_neg (by rw [hstate]; decide))
    refine ⟨fun hop => hdone (hrelease.trans (hrun hop _ _)) rfl rfl, fun hop hinv => ?_⟩
    replace hrelease := hrelease.trans (if_pos hop)
    rw [releaseAtOnce_of_held hinv hc hstate] at hrelease
    exact hdone hrelease rfl rfl
  have hx : sourceOf src = some x := hsrc ▸ sourceOf_sourceCode x
  have hclaim := handleZoneSource_some (s := s) hz hx (claimable_of_code (hsrc ▸ hlow))
  rw [claimZone] at hclaim
  refine ⟨fun c hc hcx => ?_, fun hfree => ?_⟩
  · replace hclaim := hclaim.trans (if_pos ((claims_iff _ _ _).mpr ⟨c, hc, hcx⟩))
    rw [show (seatZone (otherSeat z)).val = 3 + (1 - z).val from Nat.add_comm _ _] at hclaim
    exact hdone hclaim rfl rfl
  replace hclaim := hclaim.trans (if_neg fun hother => by
    obtain ⟨c, hc, hcx⟩ := (claims_iff _ _ _).mp hother
    exact hfree c hc hcx)
  refine ⟨fun c hc hcx => ?_, fun hnone hop => ?_, fun c hc hcx hstate hop => ?_, fun c hc hcx hstate hop => ?_,
    fun hno hop => ?_, fun c hc hcx hstate hop hinv => ?_⟩
  · exact hdone (hclaim.trans (if_pos ((claims_iff _ _ _).mpr ⟨c, hc, hcx⟩))) rfl rfl
  · replace hclaim := (hclaim.trans (if_neg (not_claims_of_none hnone x))).trans (hrun hop _ _)
    rw [newClaim, hnone] at hclaim
    exact hdone hclaim rfl rfl
  · replace hclaim := (hclaim.trans (if_neg (not_claims_of_ne hc hcx))).trans (hrun hop _ _)
    rw [newClaim, hc] at hclaim
    dsimp only at hclaim
    rw [if_pos hstate] at hclaim
    exact hdone hclaim rfl rfl
  · replace hclaim := (hclaim.trans (if_neg (not_claims_of_ne hc hcx))).trans (hrun hop _ _)
    rw [newClaim, hc] at hclaim
    dsimp only at hclaim
    rw [if_neg (by rw [hstate]; decide)] at hclaim
    exact hdone hclaim rfl rfl
  · have hown : claimOf s.mix z = none := List.find?_eq_none.mpr fun d hd => by simp [hno d hd]
    replace hclaim := (hclaim.trans (if_neg (not_claims_of_none hown x))).trans (if_pos hop)
    rw [claimAtOnce_of_free hno x] at hclaim
    exact hdone hclaim rfl rfl
  · replace hclaim := (hclaim.trans (if_neg (not_claims_of_ne hc hcx))).trans (if_pos hop)
    rw [claimAtOnce_of_held hinv hc hstate x] at hclaim
    exact hdone hclaim rfl rfl

end Sys2Proof.Machine


namespace Sys2Proof.Machine

/-! ## STOP (R34, R65, R176) -/

/-- The claims of a list after STOP has reached one seat. -/
def stoppedAt (z : Fin 2) (l : List Claim) : List Claim :=
  (l.filter fun c => !(c.zone == z && c.state == .pending)).map (Claim.released z)

/-- The notice of a seat's PENDING claim that STOP ends. -/
def stopNotices (m : MixUnit) (z : Fin 2) : List NoticeDetail :=
  match pendingOf m z with
  | some c => [.claim z c.source false]
  | none => []

/-- STOP at one seat: the step of `releaseAll` (R65). -/
def stopSeat (z : Fin 2) (t : State) : State :=
  setSeatMode z false (releaseHeld z (match pendingOf t.mix z with | some c => endPending z c t | none => t))

theorem releaseAll_eq (s : State) : releaseAll s = stopSeat 1 (stopSeat 0 s) := rfl

theorem filter_pending_of_none {m : MixUnit} {z : Fin 2} (h : pendingOf m z = none) :
    (m.claims.filter fun c => !(c.zone == z && c.state == .pending)) = m.claims := by
  rw [List.filter_eq_self]
  intro c hc
  have hno := List.find?_eq_none.mp h c hc
  simpa [imp_iff_not_or] using hno

theorem stopSeat_eq (z : Fin 2) (t : State) :
    stopSeat z t = (t.setMsg { t.msg with notices := (stopNotices t.mix z).foldl postTo t.msg.notices }).setMix
      { t.mix with claims := stoppedAt z t.mix.claims
                   zones := t.mix.zones.set (seatZone z) { t.mix.zones[seatZone z] with seatMode := false } } := by
  unfold stopSeat stopNotices
  cases h : pendingOf t.mix z with
  | some c => rfl
  | none =>
    unfold stoppedAt
    rw [filter_pending_of_none h]
    rfl

/-- What STOP does at one seat leaves the other's PENDING claim as it is. -/
theorem pendingOf_stoppedAt (m : MixUnit) {y z : Fin 2} (h : y ≠ z) :
    (stoppedAt z m.claims).find? (fun c => c.zone == y && c.state == .pending) = pendingOf m y := by
  unfold pendingOf stoppedAt
  induction m.claims with
  | nil => rfl
  | cons c l ih =>
    by_cases hc : c.zone = z
    · have hcy : (c.zone == y) = false := beq_eq_false_iff_ne.mpr fun hcy => h (hcy.symm.trans hc)
      have hry : ((c.released z).zone == y) = false := by rw [Claim.released_zone]; exact hcy
      cases hs : c.state == .pending with
      | true =>
        rw [List.filter_cons_of_neg (by simp [hc, hs]), List.find?_cons_of_neg (by simp [hcy])]
        exact ih
      | false =>
        rw [List.filter_cons_of_pos (by simp [hs]), List.map_cons, List.find?_cons_of_neg (by simp [hry]),
          List.find?_cons_of_neg (by simp [hcy])]
        exact ih
    · have hkeep : c.released z = c := if_neg fun hand => hc hand.1
      rw [List.filter_cons_of_pos (by simp [hc]), List.map_cons, hkeep, List.find?_cons, List.find?_cons, ih]

/-- Both seats' turns together: the PENDING claims leave, the others are RELEASING (R65). -/
theorem stoppedAt_both (l : List Claim) :
    stoppedAt 1 (stoppedAt 0 l) =
      (l.filter fun c => c.state != .pending).map fun c => { c with state := .releasing } := by
  unfold stoppedAt
  induction l with
  | nil => rfl
  | cons c l ih =>
    obtain ⟨z, x, st⟩ := c
    cases st with
    | pending =>
      rw [List.filter_cons_of_neg (p := fun c : Claim => c.state != .pending) (by simp), ← ih]
      obtain rfl | rfl : z = 0 ∨ z = 1 := by omega
      · rw [List.filter_cons_of_neg (by simp)]
      · rw [List.filter_cons_of_pos (by simp), List.map_cons, List.filter_cons_of_neg (by simp [Claim.released])]
    | held | releasing =>
      rw [List.filter_cons_of_pos (p := fun c : Claim => c.state != .pending) (by simp), List.map_cons, ← ih]
      rw [List.filter_cons_of_pos (by simp), List.map_cons]
      obtain rfl | rfl : z = 0 ∨ z = 1 := by omega
      · rw [List.filter_cons_of_pos (by simp [Claim.released]), List.map_cons]
        rfl
      · rw [List.filter_cons_of_pos (by simp [Claim.released]), List.map_cons]
        rfl

/-- STOP releases every claim, writing the mix unit and the notices alone (R65). -/
theorem releaseAll_mix (s : State) : (releaseAll s).mix.claims =
    (s.mix.claims.filter fun c => c.state != .pending).map fun c => { c with state := .releasing } := by
  rw [releaseAll_eq, stopSeat_eq, stopSeat_eq]
  exact stoppedAt_both _

theorem releaseAll_routes (s : State) : (releaseAll s).mix.routes = s.mix.routes := by
  rw [releaseAll_eq, stopSeat_eq, stopSeat_eq]
  rfl

theorem releaseAll_notices (s : State) : (releaseAll s).msg =
    { s.msg with notices := (stopNotices s.mix 0 ++ stopNotices s.mix 1).foldl postTo s.msg.notices } := by
  have hother : stopNotices (stopSeat 0 s).mix 1 = stopNotices s.mix 1 := by
    have hpending : pendingOf (stopSeat 0 s).mix 1 = pendingOf s.mix 1 := by
      rw [stopSeat_eq]
      exact pendingOf_stoppedAt s.mix (by decide)
    rw [stopNotices, hpending]
    rfl
  rw [releaseAll_eq, stopSeat_eq, hother, stopSeat_eq, List.foldl_append]
  rfl

theorem releaseAll_zones (s : State) (z : Fin 5) : (releaseAll s).mix.zones[z] =
    if 3 ≤ z.val then { s.mix.zones[z] with seatMode := false } else s.mix.zones[z] := by
  rw [releaseAll_eq, stopSeat_eq, stopSeat_eq]
  show ((s.mix.zones.set (seatZone 0) _).set (seatZone 1) _)[z] = _
  have h0 : (seatZone 0).val = 3 := rfl
  have h1 : (seatZone 1).val = 4 := rfl
  obtain hz | rfl | rfl : z.val < 3 ∨ z = 3 ∨ z = 4 := by omega
  · simp only [Fin.getElem_fin, h0, h1]
    rw [Vector.getElem_set_ne _ _ (by omega), Vector.getElem_set_ne _ _ (by omega), if_neg (by omega)]
  · simp [seatZone]
  · simp [seatZone]

/-- The notices STOP posts for a call (R176, R187). -/
def stoppedCallNotices (s : State) : List NoticeDetail :=
  if s.call.state = .idle then [] else (if s.uplink.echo = .off then [] else [.echo .off]) ++ [.call .stopped]

/-- A call that STOP ends (R176, R187). -/
theorem stopCall_taken {s : State} (h : s.call.state ≠ .idle) :
    stopCall s = { s with
      call := { s.call with state := .idle }
      msg := { s.msg with notices := (stoppedCallNotices s).foldl postTo s.msg.notices }
      gain := { s.gain with
        feed := s.gain.feed.map (fun p => { p with current := 0, ramp := none })
        uplink := { s.gain.uplink with current := 0, ramp := none } }
      uplink := { s.uplink with echo := .off, converge := 0, diverge := 0, out := 0 } } := by
  rw [stopCall, if_neg h, stoppedCallNotices, if_neg h, callEcho_eq]
  dsimp only
  have hecho : (silenceCall (setCallState .idle s)).uplink.echo = s.uplink.echo := rfl
  rw [hecho]
  by_cases he : s.uplink.echo = .off
  · rw [if_pos he, if_pos he]
    rfl
  · rw [if_neg he, if_neg he]
    rfl

theorem stopCall_msg (s : State) :
    (stopCall s).msg = { s.msg with notices := (stoppedCallNotices s).foldl postTo s.msg.notices } := by
  by_cases h : s.call.state = .idle
  · rw [stopCall, if_pos h, stoppedCallNotices, if_pos h]
    rfl
  · rw [stopCall_taken h]

theorem stopCall_call (s : State) : (stopCall s).call = { s.call with state := .idle } := by
  by_cases h : s.call.state = .idle
  · rw [stopCall, if_pos h, ← h]
  · rw [stopCall_taken h]

/-- Settles O21: STOPPING, the call ended, every claim released, all else as it stood. -/
theorem stop : Obligations.Stop := by
  intro r s h hp
  obtain ⟨hring, hgain, hchan, hprot, hant, hradio, hcall, huplink, hpending, hdraws⟩ :=
    releaseAll_frame (stopCall (setOp .stopping s))
  obtain ⟨cring, cmix, cchan, cprot, cant, cradio, cpending, cdraws⟩ := stopCall_frame (setOp .stopping s)
  have hmsg := releaseAll_notices (stopCall (setOp .stopping s))
  rw [cmix, stopCall_msg, ← List.foldl_append, ← List.append_assoc] at hmsg
  have hphase : (releaseAll (stopCall (setOp .stopping s))).msg.resetPhase = s.msg.resetPhase := by
    rw [hmsg]
    rfl
  have hpath : (releaseAll (stopCall (setOp .stopping s))).uplink.pathRaised = s.uplink.pathRaised := by
    rw [huplink]
    by_cases hidle : (setOp .stopping s).call.state = .idle
    · rw [stopCall, if_pos hidle]
      rfl
    · rw [stopCall_taken hidle]
      rfl
  refine ⟨_, exec_answered (k := .stop) h hp rfl hphase hpath, hring.trans cring, hchan.trans cchan, hprot.trans cprot,
    hant.trans cant, hradio.trans cradio, hpending.trans cpending, hdraws.trans cdraws, hmsg.trans rfl,
    hcall.trans (stopCall_call _), ?_, (releaseAll_mix _).trans ?_, fun z => ?_, fun hidle => ?_, fun hbusy => ?_⟩
  · rw [releaseAll_routes, cmix]
    rfl
  · rw [cmix]
    rfl
  · rw [releaseAll_zones, cmix]
    rfl
  · have hsame : stopCall (setOp .stopping s) = setOp .stopping s := if_pos hidle
    rw [hgain, huplink, hsame]
    exact ⟨rfl, rfl⟩
  · have htaken := stopCall_taken (s := setOp .stopping s) hbusy
    rw [hgain, huplink, htaken]
    exact ⟨rfl, rfl⟩

end Sys2Proof.Machine


namespace Sys2Proof.Machine

/-! ## BANK ACTIVATE and the close that activates (R98, R100, R101) -/

/-- What an immediate swap leaves of a channel (R92). -/
theorem swapNow_spec (x : Channel) :
    x.swapNow.record = x.record ∧ x.swapNow.peak = x.peak ∧ x.swapNow.out = x.out ∧ x.swapNow.liveB = !x.liveB ∧
      x.swapNow.live = x.spareBank.rested ∧ x.swapNow.spareBank = x.live.rested ∧ x.swapNow.spare = .loaded := by
  obtain ⟨record, bankA, bankB, liveB, spare, peak, out⟩ := x
  cases liveB <;> exact ⟨rfl, rfl, rfl, rfl, rfl, rfl, rfl⟩

/-- The swap does not look at the spare's state. -/
theorem swapNow_spare (x : Channel) (y : SpareState) : ({ x with spare := y } : Channel).swapNow = x.swapNow := by
  obtain ⟨record, bankA, bankB, liveB, spare, peak, out⟩ := x
  cases liveB <;> rfl

theorem setChannel_same (c : Fin 28) (x : Channel) (s : State) : (setChannel c x s).chan.channels[c] = x :=
  (vector_set_fin _ _ _ _).trans (if_pos rfl)

theorem setChannel_other {c d : Fin 28} (h : d ≠ c) (x : Channel) (s : State) :
    (setChannel c x s).chan.channels[d] = s.chan.channels[d] :=
  (vector_set_fin _ _ _ _).trans (if_neg h)

theorem handleBankActivate_badArg {r : Request} {s : State} (h : 27 < field (argument r 0) 7 0) :
    handleBankActivate r s = refuse .badArg 0 s := by
  have hc : finOf 28 (field (argument r 0) 7 0) = none := dif_neg (by omega)
  rw [handleBankActivate, hc]

/-- BANK ACTIVATE on a channel whose spare is not LOADED. -/
theorem handleBankActivate_busy {r : Request} {s : State} {c : Fin 28} (hc : c.val = field (argument r 0) 7 0)
    (hspare : s.chan.channels[c].spare ≠ .loaded) : handleBankActivate r s = refuse .busy 0 s := by
  rw [handleBankActivate, ← hc, finOf_val]
  exact if_pos hspare

/-- BANK ACTIVATE on a LOADED spare: its bank must be stable. -/
theorem handleBankActivate_loaded {r : Request} {s : State} {c : Fin 28} (hc : c.val = field (argument r 0) 7 0)
    (hspare : s.chan.channels[c].spare = .loaded) :
    handleBankActivate r s = match failingStage s.chan.channels[c].spareBank with
      | some i => refuse .unstable i.val s
      | none => if s.msg.op = .config then answerOk (swapChannel c s) else answerAccepted (queueActivation c s) := by
  rw [handleBankActivate, ← hc, finOf_val]
  exact if_neg (not_not.mpr hspare)

/-- A clean close of a COEF cursor with ACTIVATE-ON-CLOSE. -/
theorem closeCursor_activates {s : State} {k : Cursor} (hk : s.msg.cursor = some k) (ht : k.table = .coef)
    (ha : k.activate = true) :
    closeCursor true s =
      activateOnClose k.chan (setSpareState k.chan .loaded (s.setMsg { s.msg with cursor := none })) := by
  rw [closeCursor, hk]
  exact (if_pos ht).trans (if_pos (by rw [ha]; rfl))

/-- The bank an OPEN spare holds is the one its LOADED spare holds. -/
theorem setSpareState_spareBank (c : Fin 28) (x : SpareState) (s : State) :
    (setSpareState c x s).chan.channels[c].spareBank = s.chan.channels[c].spareBank := by
  rw [setSpareState, setChannel_same]
  rfl

/-- A channel's banks swap without a crossfade, whatever state its spare stood in; all else stays. -/
theorem swapChannel_only (c : Fin 28) (s : State) :
    { swapChannel c s with chan := s.chan } = s ∧ (swapChannel c s).chan.queue = s.chan.queue ∧
      (swapChannel c s).chan.fades = s.chan.fades ∧
      (∀ d : Fin 28, d ≠ c → (swapChannel c s).chan.channels[d] = s.chan.channels[d]) ∧
      (swapChannel c s).chan.channels[c] = s.chan.channels[c].swapNow :=
  ⟨rfl, rfl, rfl, fun _ hd => setChannel_other hd _ s, setChannel_same c _ s⟩

/-- A stable bank that a close activates: queued in RUN, swapped in CONFIG with a notice (R101). -/
theorem activateOnClose_stable {c : Fin 28} {s : State} (h : failingStage s.chan.channels[c].spareBank = none) :
    activateOnClose c s = if s.msg.op = .config then postNotice (.bank c .immediate 0) (swapChannel c s)
      else queueActivation c s := by
  rw [activateOnClose, h]

/-- The close that activates, in both operating states. -/
theorem closeActivates_spec {s : State} {k : Cursor} (hk : s.msg.cursor = some k) (ht : k.table = .coef)
    (ha : k.activate = true) (hstable : failingStage s.chan.channels[k.chan].spareBank = none) :
    (s.msg.op = .run → closeCursor true s =
      queueActivation k.chan (setSpareState k.chan .loaded (s.setMsg { s.msg with cursor := none }))) ∧
    (s.msg.op = .config → closeCursor true s = postNotice (.bank k.chan .immediate 0)
      (swapChannel k.chan (setSpareState k.chan .loaded (s.setMsg { s.msg with cursor := none })))) := by
  have hbank : failingStage (setSpareState k.chan .loaded
      (s.setMsg { s.msg with cursor := none })).chan.channels[k.chan].spareBank = none := by
    rw [setSpareState_spareBank]
    exact hstable
  have hclose := (closeCursor_activates hk ht ha).trans (activateOnClose_stable hbank)
  exact ⟨fun hop => hclose.trans (if_neg (by show s.msg.op ≠ _; rw [hop]; decide)), fun hop => hclose.trans (if_pos hop)⟩

/-- Settles O31: the request's refusals, the two operating states, and the same for the close that activates. -/
theorem bankActivate : Obligations.BankActivate := by
  refine ⟨fun r s h hp => ⟨fun hhigh => exec_refused (k := .bankActivate) h hp (handleBankActivate_badArg hhigh),
    fun c hc => ⟨fun hspare => exec_refused (k := .bankActivate) h hp (handleBankActivate_busy hc hspare),
      fun hspare => ⟨fun i hi => ?_, fun hstable => ⟨fun hop => ?_, fun hop => ?_⟩⟩⟩⟩,
    fun r s k h hp hk ht ha => ?_⟩
  · refine exec_refused (k := .bankActivate) h hp ((handleBankActivate_loaded hc hspare).trans ?_)
    rw [hi]
  · refine exec_answered (k := .bankActivate) h hp ((handleBankActivate_loaded hc hspare).trans ?_) rfl rfl
    rw [hstable]
    exact if_neg (by rw [hop]; decide)
  · obtain ⟨hrest, hqueue, hfades, hothers, hown⟩ := swapChannel_only c s
    refine ⟨swapChannel c s, exec_answered (k := .bankActivate) h hp ((handleBankActivate_loaded hc hspare).trans ?_)
      rfl rfl, rfl, hrest, hqueue, hfades, hothers, ?_⟩
    · rw [hstable]
      exact if_pos hop
    · rw [hown]
      exact swapNow_spec _
  · intro c u
    refine ⟨fun i hi => ?_, fun hstable => ?_⟩
    · have hbank : failingStage u.chan.channels[c].spareBank = some i := by
        rw [show u.chan.channels[c].spareBank = _ from setSpareState_spareBank c _ _]
        exact hi
      have hclose := closeCursor_activates hk ht ha
      rw [activateOnClose, hbank] at hclose
      exact exec_answered (k := .tableClose) h hp (congrArg answerOk hclose) rfl rfl
    · obtain ⟨hrun, hconfig⟩ := closeActivates_spec hk ht ha hstable
      refine ⟨fun hop => exec_answered (k := .tableClose) h hp (congrArg answerOk (hrun hop)) rfl rfl, fun hop => ?_⟩
      obtain ⟨hrest, hqueue, hfades, hothers, hown⟩ := swapChannel_only c u
      refine ⟨_, exec_answered (k := .tableClose) h hp (congrArg answerOk (hconfig hop)) rfl rfl, rfl, rfl, hqueue, hfades,
        fun d hd => (hothers d hd).trans (setChannel_other hd _ _), ?_⟩
      have hchannel : (swapChannel c u).chan.channels[c] = s.chan.channels[c].swapNow := by
        rw [hown, show u.chan.channels[c] = _ from setChannel_same c _ _]
        exact swapNow_spare _ _
      have hspec := swapNow_spec s.chan.channels[c]
      rw [← hchannel] at hspec
      exact hspec

end Sys2Proof.Machine


namespace Sys2Proof.Machine

/-! ## The activation queue is served (R103) -/

/-- A channel whose fade begins: its spare from zero histories, FADING. -/
def Channel.fadeBegun (x : Channel) : Channel := { x.setSpare x.spareBank.rested with spare := .fading }

theorem fadeBegun_spec (x : Channel) :
    x.fadeBegun.spare = .fading ∧ x.fadeBegun.live = x.live ∧ x.fadeBegun.spareBank = x.spareBank.rested ∧
      x.fadeBegun.record = x.record ∧ x.fadeBegun.peak = x.peak ∧ x.fadeBegun.out = x.out := by
  obtain ⟨record, bankA, bankB, liveB, spare, peak, out⟩ := x
  cases liveB <;> exact ⟨rfl, rfl, rfl, rfl, rfl, rfl⟩

theorem fadeBegun_again (x : Channel) : x.fadeBegun.fadeBegun = x.fadeBegun := by
  obtain ⟨record, bankA, bankB, liveB, spare, peak, out⟩ := x
  cases liveB <;> rfl

theorem serveUnit_busy {u : Fin 4} {s : State} (h : s.chan.fades[u].isNone = false ∨ s.chan.queue = []) :
    serveUnit u s = s := by
  unfold serveUnit
  cases hf : s.chan.fades[u] with
  | some f => rfl
  | none =>
    cases hq : s.chan.queue with
    | nil => rfl
    | cons c rest => simp [-Fin.getElem_fin, hf, hq] at h

theorem serveUnit_free {u : Fin 4} {s : State} {c : Fin 28} {rest : List (Fin 28)}
    (hf : s.chan.fades[u].isNone = true) (hq : s.chan.queue = c :: rest) :
    serveUnit u s = s.setChan { s.chan with
      channels := s.chan.channels.set c s.chan.channels[c].fadeBegun
      queue := rest
      fades := s.chan.fades.set u (some ⟨c, 0⟩) } := by
  unfold serveUnit
  rw [Option.isNone_iff_eq_none.mp hf, hq]
  rfl

/-- The free ones of some units, in their order. -/
def freeUnits (s : State) (l : List (Fin 4)) : List (Fin 4) := l.filter fun u => s.chan.fades[u].isNone

/-- What serving some units in ascending order leaves of a state: `serveUnits_spec`. -/
structure Served (l : List (Fin 4)) (s t : State) : Prop where
  rest : t = s.setChan t.chan
  queue : t.chan.queue = s.chan.queue.drop (freeUnits s l).length
  taken : ∀ u ∈ l, s.chan.fades[u].isNone = true → t.chan.fades[u] =
    (s.chan.queue[(l.filter fun v => decide (v.val < u.val) && s.chan.fades[v].isNone).length]?).map
      fun c => (⟨c, 0⟩ : BankFade)
  kept : ∀ u, u ∉ l ∨ s.chan.fades[u].isNone = false → t.chan.fades[u] = s.chan.fades[u]
  channels : ∀ c : Fin 28, t.chan.channels[c] =
    if c ∈ s.chan.queue.take (freeUnits s l).length then s.chan.channels[c].fadeBegun else s.chan.channels[c]

/-- A busy unit takes nothing. -/
theorem Served.busy {u : Fin 4} {l : List (Fin 4)} {s t : State} (h : Served l s t)
    (hf : s.chan.fades[u].isNone = false) : Served (u :: l) s t := by
  obtain ⟨hrest, hqueue, htaken, hkept, hchannels⟩ := h
  have hfree : freeUnits s (u :: l) = freeUnits s l := List.filter_cons_of_neg (by rw [hf]; decide)
  refine ⟨hrest, hfree ▸ hqueue, fun v hv hvf => ?_, fun v hv => hkept v (hv.imp_left fun hno hm => hno (.tail _ hm)),
    hfree ▸ hchannels⟩
  rcases List.mem_cons.mp hv with rfl | hv
  · rw [hf] at hvf
    cases hvf
  · rw [htaken v hv hvf, List.filter_cons_of_neg (by rw [hf, Bool.and_false]; decide)]

/-- Of an empty queue nothing is taken. -/
theorem Served.empty {u : Fin 4} {l : List (Fin 4)} {s t : State} (h : Served l s t) (hu : u ∉ l)
    (hq : s.chan.queue = []) : Served (u :: l) s t := by
  obtain ⟨hrest, hqueue, htaken, hkept, hchannels⟩ := h
  rw [hq] at hqueue htaken hchannels
  refine ⟨hrest, by rw [hq, hqueue]; simp, fun v hv hvf => ?_,
    fun v hv => hkept v (hv.imp_left fun hno hm => hno (.tail _ hm)), fun c => by rw [hchannels, hq]; simp⟩
  rw [hq]
  rcases List.mem_cons.mp hv with rfl | hv
  · rw [hkept v (.inl hu)]
    simpa using hvf
  · rw [htaken v hv hvf]
    rfl

/-- A free unit takes the oldest channel, the units above it the rest. -/
theorem Served.serve {u : Fin 4} {l : List (Fin 4)} {s t : State} {c : Fin 28} {rest : List (Fin 28)}
    (h : Served l (serveUnit u s) t) (hl : ∀ v ∈ l, u < v) (hf : s.chan.fades[u].isNone = true)
    (hq : s.chan.queue = c :: rest) : Served (u :: l) s t := by
  obtain ⟨hrest, hqueue, htaken, hkept, hchannels⟩ := h
  have hu : u ∉ l := fun hm => absurd (hl u hm) (lt_irrefl u)
  have hserved := serveUnit_free hf hq
  have hfades (v : Fin 4) : (serveUnit u s).chan.fades[v] = if v = u then some ⟨c, 0⟩ else s.chan.fades[v] := by
    rw [hserved]
    exact vector_set_fin _ _ _ _
  have hother {v : Fin 4} (hv : v ∈ l) : (serveUnit u s).chan.fades[v] = s.chan.fades[v] :=
    (hfades v).trans (if_neg (ne_of_mem_of_not_mem hv hu))
  have hsame : freeUnits (serveUnit u s) l = freeUnits s l := List.filter_congr fun v hv => by rw [hother hv]
  have hq' : (serveUnit u s).chan.queue = rest := by rw [hserved]; rfl
  have hfree : (freeUnits s (u :: l)).length = (freeUnits s l).length + 1 :=
    congrArg List.length (List.filter_cons_of_pos (p := fun v : Fin 4 => s.chan.fades[v].isNone) hf)
  refine ⟨?_, ?_, fun v hv hvf => ?_, fun v hv => ?_, fun d => ?_⟩
  · rw [hserved] at hrest
    exact hrest
  · rw [hqueue, hsame, hq', hfree, hq, List.drop_succ_cons]
  · rw [hq]
    rcases List.mem_cons.mp hv with rfl | hv
    · have hbelow : (v :: l).filter (fun w => decide (w.val < v.val) && s.chan.fades[w].isNone) = [] := by
        rw [List.filter_eq_nil_iff]
        intro w hw
        have hle : v.val ≤ w.val := by
          rcases List.mem_cons.mp hw with rfl | hw
          · exact le_refl _
          · exact (hl w hw).le
        simp [not_lt.mpr hle]
      rw [hbelow, hkept v (.inl hu), hfades, if_pos rfl]
      rfl
    · rw [htaken v hv (by rw [hother hv]; exact hvf), hq',
        List.filter_cons_of_pos (by rw [hf, Bool.and_true]; exact decide_eq_true (hl v hv)), List.length_cons,
        List.getElem?_cons_succ, List.filter_congr fun w hw => by rw [hother hw]]
  · have hvu : v ≠ u := by
      rintro rfl
      rcases hv with hv | hv
      · exact hv (.head _)
      · rw [hf] at hv
        cases hv
    have hsamev := (hfades v).trans (if_neg hvu)
    rw [hkept v (hv.imp (fun hno hm => hno (.tail _ hm)) fun hb => by rw [hsamev]; exact hb), hsamev]
  · rw [hchannels, hsame, hq', hfree, hq, List.take_succ_cons, hserved]
    show (if _ then Channel.fadeBegun (s.chan.channels.set c _)[d] else (s.chan.channels.set c _)[d]) = _
    rw [vector_set_fin]
    by_cases hd : d = c
    · subst hd
      rw [if_pos rfl, if_pos (List.mem_cons_self ..), fadeBegun_again, ite_self]
    · simp [-Fin.getElem_fin, hd]

/-- Units served in ascending order take the channels from the queue's oldest end. -/
theorem serveUnits_spec {l : List (Fin 4)} (hl : l.Pairwise (· < ·)) (s : State) :
    Served l s (l.foldl (fun t u => serveUnit u t) s) := by
  induction l generalizing s with
  | nil =>
    exact ⟨rfl, rfl, fun u hu => absurd hu List.not_mem_nil, fun _ _ => rfl, fun c => (if_neg List.not_mem_nil).symm⟩
  | cons u l ih =>
    obtain ⟨hhead, htail⟩ := List.pairwise_cons.mp hl
    rw [List.foldl_cons]
    cases hf : s.chan.fades[u].isNone with
    | false =>
      rw [serveUnit_busy (.inl hf)]
      exact (ih htail s).busy hf
    | true =>
      cases hq : s.chan.queue with
      | nil =>
        rw [serveUnit_busy (.inr hq)]
        exact (ih htail s).empty (fun hm => absurd (hhead u hm) (lt_irrefl u)) hq
      | cons c rest => exact (ih htail (serveUnit u s)).serve hhead hf hq

theorem serveQueue_spec (s : State) : Served (List.finRange 4) s (serveQueue s) :=
  serveUnits_spec (List.pairwise_lt_finRange 4) s

/-- The queue's service does not look at the uplink unit. -/
theorem serveUnit_raisePath (u : Fin 4) (s : State) : serveUnit u (raisePath s) = raisePath (serveUnit u s) := by
  have hchan : (raisePath s).chan = s.chan := rfl
  unfold serveUnit
  rw [hchan]
  split <;> rfl

theorem serveQueue_raisePath (s : State) : serveQueue (raisePath s) = raisePath (serveQueue s) := by
  unfold serveQueue
  simp only [serveUnit_raisePath]

theorem serviceDue_eq_false {s : State} (h : s.chan.queue = [] ∨ ∀ u : Fin 4, s.chan.fades[u] ≠ none) :
    serviceDue s = false := by
  unfold serviceDue
  rcases h with h | h
  · rw [h]
    rfl
  · have hany : s.chan.fades.toList.any (fun f => f.isNone) = false := by
      rw [List.any_eq_false]
      intro f hf
      obtain ⟨i, hi, rfl⟩ := List.mem_iff_getElem.mp hf
      have hne := h ⟨i, by simpa using hi⟩
      simpa [Option.isNone_iff_eq_none] using hne
    rw [hany, Bool.and_false]

/-- With nothing to serve the queue's service changes nothing. -/
theorem serveQueue_idle {s : State} (h : serviceDue s = false) : serveQueue s = s := by
  have hidle (u : Fin 4) : serveUnit u s = s := by
    apply serveUnit_busy
    by_contra hno
    rw [not_or, Bool.not_eq_false] at hno
    obtain ⟨hf, hq⟩ := hno
    have hany : s.chan.fades.toList.any (fun f => f.isNone) = true :=
      List.any_eq_true.mpr ⟨_, Vector.mem_toList_iff.mpr (Vector.getElem_mem u.isLt), hf⟩
    rw [serviceDue, hany, Bool.and_true, Bool.not_eq_false', List.isEmpty_iff] at h
    exact hq h
  unfold serveQueue
  rw [hidle, hidle, hidle, hidle]

/-- ACTIVATION_QUEUE_SERVED in a part that runs, due or not. -/
theorem exec_queueServed {s : State} (ha : s.active = true) (hpath : s.uplink.pathRaised = false) :
    exec .activationQueueServed s = .next (serveQueue s) := by
  refine congrArg Host.Outcome.next ?_
  cases hd : serviceDue s with
  | false => rw [eventStep_idle (.inr rfl), serveQueue_idle hd]
  | true =>
    have hcalm : (serveQueue s).uplink.pathRaised = false := by
      rw [(serveQueue_spec s).rest]
      exact hpath
    exact eventStep_effect ha rfl hcalm

/-! ## A fade's end and a fade's frame (R104, R105) -/

/-- What the end of a fade leaves of its channel: the spare bank live with the histories it has (R105). -/
theorem exchange_spec (x : Channel) :
    x.exchange.live = x.spareBank ∧ x.exchange.spareBank = x.live.rested ∧ x.exchange.spare = .loaded ∧
      x.exchange.record = x.record ∧ x.exchange.peak = x.peak ∧ x.exchange.out = x.out := by
  obtain ⟨record, bankA, bankB, liveB, spare, peak, out⟩ := x
  cases liveB <;> exact ⟨rfl, rfl, rfl, rfl, rfl, rfl⟩

/-- The channel unit once a unit's fade has ended, before the queue is served. -/
def fadeEnded (u : Fin 4) (f : BankFade) (s : State) : State :=
  let t := setChannel f.channel s.chan.channels[f.channel].exchange s
  t.setChan { t.chan with fades := t.chan.fades.set u none }

theorem endFade_eq {u : Fin 4} {f : BankFade} {s : State} (h : s.chan.fades[u] = some f) :
    endFade u s = raisePath (postNotice (.bank f.channel .swapped 0) (fadeEnded u f s)) := by
  rw [endFade, h]
  rfl

/-- Both banks of a fading channel take the channel's input; the output is their blend (R104). -/
theorem channelStep_fading (x : Channel) (f : BankFade) (gain : Nat) (buses : Vector (Int × Int) 5) :
    let l := bankStep x.live (channelInput x.record buses)
    let n := bankStep x.spareBank (channelInput x.record buses)
    (channelStep x (some f) gain buses).live = l.1 ∧ (channelStep x (some f) gain buses).spareBank = n.1 ∧
      (channelStep x (some f) gain buses).out = saturate (applyGain (blendBanks l.2 n.2 f.count) gain) ∧
      (channelStep x (some f) gain buses).spare = x.spare := by
  obtain ⟨record, bankA, bankB, liveB, spare, peak, out⟩ := x
  cases liveB <;> exact ⟨rfl, rfl, rfl, rfl⟩

/-- Settles O32: the queue's service, the end of a fade, and a fading channel's frame. -/
theorem bankCrossfades : Obligations.BankCrossfades := by
  refine ⟨fun s ha hpath => ?_, fun s ha h => ?_, fun s u f ha hpath hf hcount => ?_, fun s u h => ?_,
    fun x f gain buses => ?_⟩
  · obtain ⟨hrest, hqueue, htaken, hkept, hchannels⟩ := serveQueue_spec s
    refine ⟨serveQueue s, exec_queueServed ha hpath, ?_, hqueue, fun u => htaken u (List.mem_finRange u),
      fun u hu => hkept u (.inr hu), fun c hc => (hchannels c).trans (if_neg hc), fun c hc => ?_⟩
    · rw [hrest]
      rfl
    · have hown := (hchannels c).trans (if_pos hc)
      rw [hown]
      exact fadeBegun_spec _
  · exact congrArg Host.Outcome.next (eventStep_idle (.inr (serviceDue_eq_false h)))
  · have hdue : fadeDue s u = true := by
      rw [fadeDue, hf]
      exact decide_eq_true hcount
    have hcalm : (postNotice (.bank f.channel .swapped 0) (fadeEnded u f s)).uplink.pathRaised = false := hpath
    have hserved : (serveQueue (postNotice (.bank f.channel .swapped 0) (fadeEnded u f s))).uplink.pathRaised = false := by
      rw [(serveQueue_spec _).rest]
      exact hcalm
    have hactive : (postNotice (.bank f.channel .swapped 0) (fadeEnded u f s)).active = true := ha
    refine ⟨fadeEnded u f s, _, congrArg Host.Outcome.next ?_, exec_queueServed hactive hcalm, rfl, rfl, rfl,
      fun d hd => setChannel_other hd _ s, ?_⟩
    · rw [eventStep_due ha hdue, endFade_eq hf, serveQueue_raisePath, takePath_raised hserved]
    · have hown : (fadeEnded u f s).chan.channels[f.channel] = s.chan.channels[f.channel].exchange :=
        setChannel_same f.channel _ s
      dsimp only
      rw [hown]
      exact exchange_spec _
  · refine congrArg Host.Outcome.next (eventStep_idle (.inr ?_))
    unfold fadeDue
    cases hf : s.chan.fades[u] with
    | none => rfl
    | some f => exact decide_eq_false (not_le.mpr (h f hf))
  · obtain ⟨hlive, hspareBank, hout, hspare⟩ := channelStep_fading x f gain buses
    rw [bankStep_eq] at hlive hspareBank
    rw [bankStep_eq, bankStep_eq] at hout
    refine ⟨bankSample x.live (channelInput x.record buses), bankSample x.spareBank (channelInput x.record buses), ?_, ?_,
      fun i => ?_, fun i => ?_, hout, by rw [hlive], by rw [hspareBank], hspare⟩
    · rw [bankSample_zero]
      unfold channelInput
      cases x.record.zone with
      | none => rfl
      | some z => cases x.record.side <;> rfl
    · rw [bankSample_zero, bankSample_zero]
    · rw [stageStep_bankSample, hlive]
      simp
    · rw [stageStep_bankSample, hspareBank]
      simp

end Sys2Proof.Machine


namespace Sys2Proof.Machine

/-! ## Beams (R180 to R182) -/

theorem beamFadeOver_iff (s : State) :
    beamFadeOver s = true ↔ s.uplink.fading = true ∧ s.gain.beam[otherPoint s.uplink].ramp = none ∧
      s.gain.beam[otherPoint s.uplink].current = 1048576 ∧ s.gain.beam[s.uplink.live].ramp = none ∧
      s.gain.beam[s.uplink.live].current = 0 := by
  unfold beamFadeOver
  simp only [Bool.and_eq_true, Option.isNone_iff_eq_none, beq_iff_eq, and_assoc, unity]

theorem otherPoint_landed (u : UplinkUnit) : otherPoint u.landBeams = u.live := by
  show (1 - (1 - u.live) : Fin 2) = u.live
  omega

/-- A beam crossfade's start, its incoming point named. -/
theorem startBeamFade_at {s : State} {b : Fin 2} (h : otherPoint s.uplink = b) :
    startBeamFade s = raisePath (s.setUplink { s.uplink with
      selections := s.uplink.selections.set b (selectionOf s.uplink.beams s.call.placement), fading := true }) := by
  subst h
  rfl

/-- A beam crossfade's end with nothing pending, or with a pending change that the live selection already meets. -/
theorem endBeamFade_rests {s : State} (h : s.uplink.changePending = false ∨
    selectionOf s.uplink.beams s.call.placement = s.uplink.landBeams.selections[otherPoint s.uplink]) :
    endBeamFade s = s.setUplink { s.uplink.landBeams with changePending := false } := by
  refine if_neg fun ⟨hpending, hne⟩ => ?_
  rcases h with h | h
  · rw [h] at hpending
    cases hpending
  · exact hne h

/-- A pending change that differs starts another crossfade. -/
theorem endBeamFade_again {s : State} (hp : s.uplink.changePending = true)
    (hne : selectionOf s.uplink.beams s.call.placement ≠ s.uplink.landBeams.selections[otherPoint s.uplink]) :
    endBeamFade s = startBeamFade (s.setUplink { s.uplink.landBeams with changePending := false }) :=
  if_pos ⟨hp, hne⟩

/-- The incoming selection stands when the outgoing one is emptied. -/
theorem landed_selection (u : UplinkUnit) : u.landBeams.selections[otherPoint u] = u.selections[otherPoint u] := by
  have hne : otherPoint u ≠ u.live := by
    unfold otherPoint
    omega
  exact (vector_set_fin _ _ _ _).trans (if_neg hne)

/-- Settles O46: the end of the ramps, the pending change, the selections and their sums. -/
theorem beamCrossfadeEnd : Obligations.BeamCrossfadeEnd := by
  refine ⟨fun s ha hpath => ?_, fun beams p => ⟨?_, fun b hb m i hi => ?_⟩, fun mics sel => ?_⟩
  · intro u live want landed ended
    refine ⟨fun hended hrest => ?_, fun hended hp hne => ?_, fun hno => ?_⟩
    · have hrests := endBeamFade_rests (s := s) (hrest.imp_right fun h => h.trans (landed_selection u).symm)
      refine congrArg Host.Outcome.next ((eventStep_effect ha ((beamFadeOver_iff s).mpr hended) ?_).trans hrests)
      rw [hrests]
      exact hpath
    · have hagain := endBeamFade_again (s := s) hp fun h => hne (h.trans (landed_selection u))
      refine congrArg Host.Outcome.next ((eventStep_due ha ((beamFadeOver_iff s).mpr hended)).trans ?_)
      rw [hagain, startBeamFade_at (b := u.live) (otherPoint_landed u)]
      exact takePath_raised hpath
    · refine congrArg Host.Outcome.next (eventStep_idle (.inr ?_))
      rw [← Bool.not_eq_true, beamFadeOver_iff]
      exact hno
  · rw [selectionOf, List.map_map]
    refine (List.map_id _).trans ?_
    match p with
    | 0 | 1 | 2 | 3 => rfl
  · obtain ⟨seat, -, rfl⟩ := List.mem_map.mp hb
    have hval : i.val = seat.val * 6 + m.val := hi
    simp only [beamEntry, Fin.getElem_fin, Vector.getElem_ofFn, hval]
  · simp only [Fin.sum_univ_def]
    rfl

/-! ## The talk state (R185) -/

/-- The talk state's evaluation, the two activities named. -/
theorem talkMove_eq {u : UplinkUnit} {far cabin : Bool} (hfar : decide (u.record.farThreshold ≤ u.peakF) = far)
    (hcabin : decide (u.record.nearThreshold ≤ u.peakR) = cabin) :
    u.talkMove = { u with
      nearQuiet := if cabin then 0 else incSat u.nearQuiet
      farQuiet := if far then 0 else incSat u.farQuiet
      talk := nextTalk u.talk (rawTalk far cabin) (if cabin then 0 else incSat u.nearQuiet)
        (if far then 0 else incSat u.farQuiet) u.record.nearRelax u.record.farRelax } := by
  subst hfar hcabin
  rfl

theorem talkMove_talk (u : UplinkUnit) : ∃ far cabin, u.talkMove.talk = nextTalk u.talk (rawTalk far cabin)
    (if cabin then 0 else incSat u.nearQuiet) (if far then 0 else incSat u.farQuiet) u.record.nearRelax
      u.record.farRelax :=
  ⟨_, _, rfl⟩

/-- FAR_ONLY follows talk only once the near party has been quiet for near relax. -/
theorem nearRelaxDue_eq_false {u : UplinkUnit}
    (h : u.talk = .quiet ∨ u.talk = .farOnly ∨ incSat u.nearQuiet < u.record.nearRelax) : nearRelaxDue u = false := by
  unfold nearRelaxDue
  obtain ⟨far, cabin, htalk⟩ := talkMove_talk u
  rw [htalk]
  cases hu : u.talk with
  | quiet | farOnly => rfl
  | nearOnly | double =>
    have hlt : incSat u.nearQuiet < u.record.nearRelax := by simpa [hu] using h
    cases far <;> cases cabin <;> simp [rawTalk, nextTalk, hlt]

/-- FAR_ONLY gives way to QUIET only once the far party has been quiet for far relax. -/
theorem farRelaxDue_eq_false {u : UplinkUnit} (h : u.talk ≠ .farOnly ∨ incSat u.farQuiet < u.record.farRelax) :
    farRelaxDue u = false := by
  unfold farRelaxDue
  obtain ⟨far, cabin, htalk⟩ := talkMove_talk u
  rw [htalk]
  cases hu : u.talk with
  | quiet | nearOnly | double => rfl
  | farOnly =>
    have hlt : incSat u.farQuiet < u.record.farRelax := by simpa [hu] using h
    cases far <;> cases cabin <;> simp [rawTalk, nextTalk, hlt]

/-! ## The echo state (R186) -/

/-- The code 2h + b in the words of R186. -/
theorem levelCode_eq (v : Nat) : (levelCode v : Int) = if v = 0 then 0 else if v = 1 then 0
    else 2 * (v.log2 : Int) + (if v.testBit (v.log2 - 1) then 1 else 0) := by
  unfold levelCode
  by_cases h0 : v = 0
  · rw [if_pos h0, if_pos h0]
    rfl
  rw [if_neg h0, if_neg h0]
  dsimp only
  by_cases h1 : v = 1
  · subst h1
    rfl
  have hlog : v.log2 ≠ 0 := Nat.one_le_iff_ne_zero.mp ((Nat.le_log2 h0).mpr (by omega))
  rw [if_neg h1, if_neg hlog, Nat.testBit_eq_decide_div_mod_eq]
  have hbit : v / 2 ^ (v.log2 - 1) % 2 < 2 := Nat.mod_lt _ (by decide)
  by_cases hb : v / 2 ^ (v.log2 - 1) % 2 = 1
  · simp [hb]
  · have hb0 : v / 2 ^ (v.log2 - 1) % 2 = 0 := by omega
    simp [hb0]

theorem commitUpdate_eq (s : State) : commitUpdate s = s.setUplink { s.uplink with
    filters := if s.call.state = .active then updatedFilters s.uplink else s.uplink.filters } := by
  unfold commitUpdate
  split <;> rfl

/-- The converge count at a FAR_ONLY block. -/
def convergeNext (u : UplinkUnit) : Nat := if (u.record.convergeLevel : Int) ≤ erle u then incSat u.converge else 0

/-- The diverge count at a FAR_ONLY block. -/
def divergeNext (u : UplinkUnit) : Nat := if erle u < (u.record.divergeLevel : Int) then incSat u.diverge else 0

theorem convergeNext_lt {u : UplinkUnit} (hone : 1 ≤ u.record.convergeBlocks)
    (h : erle u < u.record.convergeLevel ∨ incSat u.converge < u.record.convergeBlocks) :
    convergeNext u < u.record.convergeBlocks := by
  unfold convergeNext
  split <;> omega

theorem divergeNext_lt {u : UplinkUnit} (hone : 1 ≤ u.record.divergeBlocks)
    (h : (u.record.divergeLevel : Int) ≤ erle u ∨ incSat u.diverge < u.record.divergeBlocks) :
    divergeNext u < u.record.divergeBlocks := by
  unfold divergeNext
  split <;> omega

theorem echoMove_converging {s : State} (ht : s.uplink.talk = .farOnly) (he : s.uplink.echo = .converging) :
    echoMove s = convergingMove (commitUpdate s) := by
  rw [echoMove, ht, he]

theorem echoMove_idle {s : State} (ht : s.uplink.talk ≠ .farOnly) : echoMove s = s := by
  rw [echoMove]
  cases h : s.uplink.talk with
  | farOnly => exact absurd h ht
  | quiet | nearOnly | double => rfl

theorem setEcho_changed {e : EchoState} {s : State} (h : s.uplink.echo ≠ e) :
    setEcho e s = postNotice (.echo e) (s.setUplink { s.uplink with echo := e }) :=
  if_neg h

/-- A block that brings the converge count to converge blocks. -/
theorem convergingMove_converged {s : State} (he : s.uplink.echo = .converging)
    (h : s.uplink.record.convergeBlocks ≤ convergeNext s.uplink) :
    convergingMove s = postNotice (.echo .converged)
      (s.setUplink { s.uplink with echo := .converged, converge := convergeNext s.uplink, diverge := 0 }) := by
  have hne : s.uplink.echo ≠ .converged := by rw [he]; decide
  exact (if_pos h).trans (congrArg (fun v : State => v.setUplink { v.uplink with diverge := 0 })
    (setEcho_changed (s := s.setUplink { s.uplink with converge := convergeNext s.uplink }) hne))

/-- A block that does not. -/
theorem convergingMove_waits {s : State} (h : convergeNext s.uplink < s.uplink.record.convergeBlocks) :
    convergingMove s = s.setUplink { s.uplink with converge := convergeNext s.uplink } :=
  if_neg (not_le.mpr h)

theorem convergedMove_diverged {s : State} (he : s.uplink.echo = .converged)
    (h : s.uplink.record.divergeBlocks ≤ divergeNext s.uplink) :
    convergedMove s = postNotice (.echo .converging) (s.setUplink { s.uplink with
      echo := .converging, converge := 0, diverge := divergeNext s.uplink, filters := zeroFilters }) := by
  have hne : s.uplink.echo ≠ .converging := by rw [he]; decide
  exact (if_pos h).trans (congrArg (fun v : State => v.setUplink { v.uplink with converge := 0, filters := zeroFilters })
    (setEcho_changed (s := s.setUplink { s.uplink with diverge := divergeNext s.uplink }) hne))

theorem convergedMove_waits {s : State} (h : divergeNext s.uplink < s.uplink.record.divergeBlocks) :
    convergedMove s = s.setUplink { s.uplink with diverge := divergeNext s.uplink } :=
  if_neg (not_le.mpr h)

theorem echoMove_diverged {s : State} (ht : s.uplink.talk = .farOnly) (he : s.uplink.echo = .converged)
    (h : s.uplink.record.divergeBlocks ≤ divergeNext s.uplink) : echoMove s = convergedMove s := by
  rw [echoMove, ht, he]
  refine if_neg ?_
  rw [convergedMove_diverged he h]
  exact nofun

theorem echoMove_undiverged {s : State} (ht : s.uplink.talk = .farOnly) (he : s.uplink.echo = .converged)
    (h : divergeNext s.uplink < s.uplink.record.divergeBlocks) :
    echoMove s = commitUpdate (s.setUplink { s.uplink with diverge := divergeNext s.uplink }) := by
  rw [echoMove, ht, he]
  dsimp only
  rw [convergedMove_waits h]
  exact if_pos he

theorem convergedDue_eq_false {s : State} (h : s.uplink.talk ≠ .farOnly ∨ s.uplink.echo ≠ .converging ∨
    convergeNext s.uplink < s.uplink.record.convergeBlocks) : convergedDue s = false := by
  unfold convergedDue
  by_cases he : s.uplink.echo = .converging
  · by_cases ht : s.uplink.talk = .farOnly
    · have hlt := (h.resolve_left (not_not.mpr ht)).resolve_left (not_not.mpr he)
      rw [echoMove_converging ht he, commitUpdate_eq, convergingMove_waits (by exact hlt)]
      show (s.uplink.echo == .converging && s.uplink.echo == .converged) = false
      rw [he]
      rfl
    · rw [echoMove_idle ht, he]
      rfl
  · rw [beq_eq_false_iff_ne.mpr he, Bool.false_and]

theorem divergedDue_eq_false {s : State} (h : s.uplink.talk ≠ .farOnly ∨ s.uplink.echo ≠ .converged ∨
    divergeNext s.uplink < s.uplink.record.divergeBlocks) : divergedDue s = false := by
  unfold divergedDue
  by_cases he : s.uplink.echo = .converged
  · by_cases ht : s.uplink.talk = .farOnly
    · have hlt := (h.resolve_left (not_not.mpr ht)).resolve_left (not_not.mpr he)
      rw [echoMove_undiverged ht he hlt, commitUpdate_eq]
      show (s.uplink.echo == .converged && s.uplink.echo == .converging) = false
      rw [he]
      rfl
    · rw [echoMove_idle ht, he]
      rfl
  · rw [beq_eq_false_iff_ne.mpr he, Bool.false_and]

/-- Settles O47: the relax counts, the echo counts, and what each change does. -/
theorem talkAndEchoEvents : Obligations.TalkAndEchoEvents := by
  refine ⟨fun s ha hpath => ?_, fun s ha hpath => ?_⟩
  · intro u near far
    have hdue {b : Bool} {x : UplinkUnit} (hd : b = true) (hx : u.talkMove = x) (hcalm : x.pathRaised = u.pathRaised) :
        Host.Outcome.next (eventStep b moveTalk s) = (.next (s.setUplink x) : Host.Outcome State Fault Refusal) := by
      have hmove : moveTalk s = s.setUplink x := congrArg s.setUplink hx
      refine congrArg Host.Outcome.next ((eventStep_effect ha hd ?_).trans hmove)
      rw [hmove]
      exact hcalm.trans hpath
    refine ⟨fun ht hf hr hn => ?_, fun ht hf hr hn => ?_, fun h => ?_, fun h => ?_⟩
    · have hmove := talkMove_eq (decide_eq_true hf) (decide_eq_false (not_le.mpr hr))
      have htalk : nextTalk u.talk .farOnly near 0 u.record.nearRelax u.record.farRelax = .farOnly := by
        rcases ht with ht | ht <;> rw [ht] <;> exact if_neg (not_lt.mpr hn)
      have hmoved : u.talkMove = { u with talk := .farOnly, nearQuiet := near, farQuiet := 0 } := by
        rw [← htalk]
        exact hmove
      refine hdue ?_ hmoved rfl
      rw [nearRelaxDue, hmoved]
      rcases ht with ht | ht <;> rw [ht] <;> rfl
    · have hmove := talkMove_eq (decide_eq_false (not_le.mpr hf)) (decide_eq_false (not_le.mpr hr))
      have htalk : nextTalk u.talk .quiet near far u.record.nearRelax u.record.farRelax = .quiet := by
        rw [ht]
        exact if_neg (not_lt.mpr hn)
      have hmoved : u.talkMove = { u with talk := .quiet, nearQuiet := near, farQuiet := far } := by
        rw [← htalk]
        exact hmove
      refine hdue ?_ hmoved rfl
      rw [farRelaxDue, hmoved, ht]
      rfl
    · exact congrArg Host.Outcome.next (eventStep_idle (.inr (nearRelaxDue_eq_false h)))
    · exact congrArg Host.Outcome.next (eventStep_idle (.inr (farRelaxDue_eq_false h)))
  · intro u erle' up down
    have herle : erle u = erle' := congrArg₂ (· - ·) (levelCode_eq _) (levelCode_eq _)
    refine ⟨fun ht he hc hn => ?_, fun ht he hc hn => ?_, fun h => ?_, fun h => ?_⟩
    · have hnext : convergeNext u = up := if_pos (herle ▸ hc)
      have hblocks : u.record.convergeBlocks ≤ convergeNext u := hnext ▸ hn
      have hmove := (echoMove_converging ht he).trans ((congrArg convergingMove (commitUpdate_eq s)).trans
        (convergingMove_converged he hblocks))
      refine congrArg Host.Outcome.next ((eventStep_effect ha ?_ ?_).trans (hmove.trans ?_))
      · rw [convergedDue, hmove, he]
        rfl
      · rw [hmove]
        exact hpath
      · rw [← hnext]
        rfl
    · have hnext : divergeNext u = down := if_pos (herle ▸ hc)
      have hblocks : u.record.divergeBlocks ≤ divergeNext u := hnext ▸ hn
      have hmove := (echoMove_diverged ht he hblocks).trans (convergedMove_diverged he hblocks)
      rw [hnext] at hmove
      refine congrArg Host.Outcome.next ((eventStep_effect ha ?_ ?_).trans hmove)
      · rw [divergedDue, hmove, he]
        rfl
      · rw [hmove]
        exact hpath
    · refine congrArg Host.Outcome.next (eventStep_idle (.inr (convergedDue_eq_false ?_)))
      exact h.imp_right fun h => h.imp_right fun ⟨hone, h⟩ => convergeNext_lt hone (h.imp_left herle.trans_lt)
    · refine congrArg Host.Outcome.next (eventStep_idle (.inr (divergedDue_eq_false ?_)))
      exact h.imp_right fun h => h.imp_right fun ⟨hone, h⟩ => divergeNext_lt hone (h.imp_left herle.ge.trans')

end Sys2Proof.Machine


namespace Sys2Proof.Machine

/-! ## The reception state (R156, R157) -/

/-- What moves a unit whose reception was not POOR: the poor count first, then the quality (R156). -/
theorem receptionMove_of_not_poor {u : RadioUnit} (h : u.reception ≠ .poor) (k : RadioRecord) (q : Nat) :
    u.receptionMove k q =
      if k.poorTime ≤ (if q < k.poorLevel then incSat u.poorCount else 0) then
        { u with reception := .poor, poorCount := 0, recoverCount := 0 }
      else { u with reception := if k.goodLevel ≤ q then .good else .fair
                    poorCount := if q < k.poorLevel then incSat u.poorCount else 0 } := by
  unfold RadioUnit.receptionMove
  cases hr : u.reception with
  | poor => exact absurd hr h
  | good | fair => rfl

/-- What moves a unit in POOR: the recover count (R156). -/
theorem receptionMove_of_poor {u : RadioUnit} (h : u.reception = .poor) (k : RadioRecord) (q : Nat) :
    u.receptionMove k q =
      if k.recoverTime ≤ (if k.poorLevel + k.hysteresis ≤ q then incSat u.recoverCount else 0) then
        { u with reception := .fair, poorCount := 0, recoverCount := 0 }
      else { u with recoverCount := if k.poorLevel + k.hysteresis ≤ q then incSat u.recoverCount else 0 } := by
  unfold RadioUnit.receptionMove
  rw [h]

theorem settling_eq_false {s : State} (h : s.ant.record.tuneSettle ≤ s.radio.blocksSinceTune) : settling s = false :=
  decide_eq_false (not_lt.mpr h)

theorem settling_eq_true {s : State} (h : s.radio.blocksSinceTune < s.ant.record.tuneSettle) : settling s = true :=
  decide_eq_true h

/-- A reception state that changes posts its notice. -/
theorem moveRadio_changed {u : RadioUnit} {s : State} (h : u.reception ≠ s.radio.reception) :
    moveRadio u s = postNotice (.reception u.reception u.frequency) (s.setRadio u) :=
  if_neg h

theorem moveRadio_path (u : RadioUnit) (s : State) : (moveRadio u s).uplink.pathRaised = s.uplink.pathRaised := by
  unfold moveRadio
  dsimp only
  split <;> rfl

/-- A quality that is not poor: the poor count is 0 and the level decides between GOOD and FAIR. -/
theorem receptionMove_keeps {u : RadioUnit} (h : u.reception ≠ .poor) {k : RadioRecord} {q : Nat}
    (hq : k.poorLevel ≤ q) (hone : 1 ≤ k.poorTime) :
    u.receptionMove k q = { u with reception := if k.goodLevel ≤ q then .good else .fair, poorCount := 0 } := by
  rw [receptionMove_of_not_poor h, if_neg (not_lt.mpr hq), if_neg (by omega)]

/-- A reception event in a part that runs: the new unit and the notice of the change. -/
theorem eventStep_reception {s : State} {due : Bool} {x : RadioUnit} (ha : s.active = true)
    (hpath : s.uplink.pathRaised = false) (hd : due = true) (hx : receptionNext s = x)
    (hne : x.reception ≠ s.radio.reception) :
    eventStep due (fun t => moveRadio (receptionNext t) t) s =
      postNotice (.reception x.reception x.frequency) (s.setRadio x) := by
  refine (eventStep_effect ha hd ((moveRadio_path _ _).trans hpath)).trans ?_
  rw [hx, moveRadio_changed hne]

/-- The quality of what the antennas hand over (R147, R152). -/
theorem blendQuality_handOver (u : AntennaUnit) : blendQuality (handOver u) = qualityOf u := by
  unfold handOver qualityOf
  cases anyPresent u with
  | false => rfl
  | true =>
    cases u.mode with
    | fixed a => rfl
    | switched => rfl
    | paired =>
      match u.pair with
      | [] => rfl
      | [a] => rfl
      | a :: b :: l => rfl

/-- The reception does not become POOR: it is already, the settle runs, or the quality does not count. -/
theorem poorDue_eq_false {s : State} (h : s.radio.blocksSinceTune < s.ant.record.tuneSettle ∨ s.radio.reception = .poor ∨
    (1 ≤ s.ant.record.poorTime ∧ s.ant.record.poorLevel ≤ blendQuality (handOver s.ant))) : poorDue s = false := by
  unfold poorDue receptionNext
  rcases h with h | h | ⟨hone, hq⟩
  · rw [settling_eq_true h]
    rfl
  · rw [h, bne_self_eq_false, Bool.and_false, Bool.false_and]
  · by_cases hr : s.radio.reception = .poor
    · rw [hr, bne_self_eq_false, Bool.and_false, Bool.false_and]
    · have hnext : (if s.ant.record.goodLevel ≤ blendQuality (handOver s.ant) then Reception.good else .fair) ≠ .poor := by
        split <;> nofun
      rw [receptionMove_keeps hr hq hone, beq_eq_false_iff_ne.mpr hnext, Bool.and_false]

/-- The reception does not leave POOR: it is not POOR, the settle runs, or the quality does not count. -/
theorem recoveredDue_eq_false {s : State} (h : s.radio.blocksSinceTune < s.ant.record.tuneSettle ∨
    s.radio.reception ≠ .poor ∨ (1 ≤ s.ant.record.recoverTime ∧
      blendQuality (handOver s.ant) < s.ant.record.poorLevel + s.ant.record.hysteresis)) : recoveredDue s = false := by
  unfold recoveredDue receptionNext
  rcases h with h | h | ⟨hone, hq⟩
  · rw [settling_eq_true h]
    rfl
  · rw [beq_eq_false_iff_ne.mpr h, Bool.and_false, Bool.false_and]
  · by_cases hr : s.radio.reception = .poor
    · rw [receptionMove_of_poor hr, if_neg (not_le.mpr hq), if_neg (by omega), hr]
      simp
    · rw [beq_eq_false_iff_ne.mpr hr, Bool.and_false, Bool.false_and]

/-! ## The tune settle (R154, R155, R158) -/

/-- The tune count that ends the settle: steps 4 to 6 of R152 on the entry of the quality. -/
theorem endSettle_eq {s : State} {e : Fin 32} (hr : s.radio.reception ≠ .poor)
    (hq : s.ant.record.poorLevel ≤ blendQuality (handOver s.ant)) (hone : 1 ≤ s.ant.record.poorTime)
    (hlast : s.ant.record.tuneSettle ≤ incSat s.radio.blocksSinceTune) (he : e.val = blendQuality (handOver s.ant) / 4) :
    endSettle s = moveRadio { s.radio with
      blocksSinceTune := incSat s.radio.blocksSinceTune
      settle := s.ant.record.tuneSettle
      separation := toward s.radio.separation (if s.radio.pilot then s.radio.blend[e].separation else 0)
      highCut := toward s.radio.highCut s.radio.blend[e].highCut
      softMute := s.radio.blend[e].softMute
      reception := if s.ant.record.goodLevel ≤ blendQuality (handOver s.ant) then .good else .fair
      poorCount := 0 } s := by
  have hentry : blendEntry s.radio (blendQuality (handOver s.ant)) = s.radio.blend[e] := by
    have hindex : finWrap 31 (blendQuality (handOver s.ant) / 4) = e := by rw [← he, finWrap_val]
    exact congrArg (fun i : Fin 32 => s.radio.blend[i]) hindex
  have hover (t : State) (ht : t.ant = s.ant) (hdone : s.ant.record.tuneSettle ≤ t.radio.blocksSinceTune)
      (hnot : t.radio.reception ≠ .poor) :
      evaluateReception (handOver s.ant) t = moveRadio { t.radio.blendMove (blendQuality (handOver s.ant)) with
        reception := if s.ant.record.goodLevel ≤ blendQuality (handOver s.ant) then .good else .fair
        poorCount := 0 } t := by
    have hoff : settling t = false := settling_eq_false (by rw [ht]; exact hdone)
    have hmove := receptionMove_keeps (u := t.radio.blendMove (blendQuality (handOver s.ant))) hnot hq hone
    rw [evaluateReception, hoff, ht, hmove]
    rfl
  refine (hover (s.setRadio { s.radio with
    blocksSinceTune := incSat s.radio.blocksSinceTune, settle := s.ant.record.tuneSettle }) rfl hlast hr).trans ?_
  rw [← hentry]
  rfl

theorem endSettle_path (s : State) : (endSettle s).uplink.pathRaised = s.uplink.pathRaised := by
  unfold endSettle evaluateReception
  dsimp only
  split
  · rfl
  · exact moveRadio_path _ _

theorem settleDue_eq_false {s : State} (h : s.radio.settle ≤ s.radio.blocksSinceTune ∨
    incSat s.radio.blocksSinceTune < s.ant.record.tuneSettle) : settleDue s = false := by
  unfold settleDue settleForced
  rcases h with h | h
  · rw [decide_eq_false (not_lt.mpr h), Bool.false_and]
  · rw [decide_eq_false (not_le.mpr h), Bool.and_false]

/-- Settles O45: the pilot, the tune settle's end, and the two changes of the reception. -/
theorem radioEvents : Obligations.RadioEvents := by
  refine ⟨fun s ha hpath => ⟨fun h => ?_, fun h => ?_, fun h => ?_, ?_⟩, fun s ha hpath => ?_⟩
  · have hmove : s.radio.pilotMove (!s.radio.pilot) = { s.radio with pilot := !s.radio.pilot, pilotRun := 0 } :=
      (if_neg (by simp)).trans (if_pos (by omega))
    refine congrArg Host.Outcome.next ((eventStep_effect ha (decide_eq_true h) ?_).trans (congrArg s.setRadio hmove))
    exact hpath
  · exact congrArg Host.Outcome.next (eventStep_idle (.inr (decide_eq_false (not_le.mpr h))))
  · exact congrArg Host.Outcome.next (eventStep_idle (.inr (settleDue_eq_false h)))
  · intro q hq hpoor hr hone hmax hforced hlast e he b next t
    subst hq
    have hinc : incSat s.radio.blocksSinceTune = s.radio.blocksSinceTune + 1 := by
      unfold incSat
      omega
    have hdue : settleDue s = true := by
      rw [settleDue, settleForced, decide_eq_true hforced, decide_eq_true (hinc.symm ▸ hlast)]
      rfl
    have heffect := endSettle_eq hr hpoor hone (hinc.symm ▸ hlast) he
    rw [hinc] at heffect
    exact congrArg Host.Outcome.next ((eventStep_effect ha hdue ((endSettle_path s).trans hpath)).trans heffect)
  · intro q k toward
    have hq : blendQuality (handOver s.ant) = q := blendQuality_handOver s.ant
    refine ⟨fun hs hr hlow hn => ?_, fun hs hr hhigh hn => ?_, fun h => ?_, fun h => ?_⟩
    · have hmove : receptionNext s = { s.radio with reception := .poor, poorCount := 0, recoverCount := 0 } := by
        rw [receptionNext, hq, receptionMove_of_not_poor hr, if_pos hlow]
        exact if_pos hn
      refine congrArg Host.Outcome.next (eventStep_reception ha hpath ?_ hmove (Ne.symm hr))
      rw [poorDue, settling_eq_false hs, hmove, bne_iff_ne.mpr hr]
      rfl
    · have hmove : receptionNext s = { s.radio with reception := .fair, poorCount := 0, recoverCount := 0 } := by
        rw [receptionNext, hq, receptionMove_of_poor hr, if_pos hhigh]
        exact if_pos hn
      refine congrArg Host.Outcome.next (eventStep_reception ha hpath ?_ hmove (by rw [hr]; nofun))
      rw [recoveredDue, settling_eq_false hs, hmove, hr]
      rfl
    · refine congrArg Host.Outcome.next (eventStep_idle (.inr (poorDue_eq_false ?_)))
      rw [hq]
      exact h
    · refine congrArg Host.Outcome.next (eventStep_idle (.inr (recoveredDue_eq_false ?_)))
      rw [hq]
      exact h

end Sys2Proof.Machine


namespace Sys2Proof.Machine

/-! ## Mode changes and the end of a switch crossfade (R142, R145, R146) -/

theorem align_mode (u : AntennaUnit) : u.align.mode = u.mode := by
  unfold AntennaUnit.align
  split <;> rfl

theorem switchTo_mode (u : AntennaUnit) (b : Fin 4) : (u.switchTo b).mode = u.mode := by
  unfold AntennaUnit.switchTo
  split <;> rfl

/-- A mode change leaves the mode it names. -/
theorem changeMode_mode (u : AntennaUnit) (m : DiversityMode) : (u.changeMode m).mode = m := by
  unfold AntennaUnit.changeMode
  split
  · next h => exact h.symm
  · dsimp only
    split
    · rfl
    · rfl
    · exact switchTo_mode _ _
    · rfl
    · exact align_mode _

/-- The antenna unit once a crossfade has ended and the pending mode has taken effect. -/
def modeTaken (u : AntennaUnit) (m : DiversityMode) : AntennaUnit :=
  { ({ u with fade := none } : AntennaUnit).changeMode m with pendingMode := none }

/-- The notice of that change (R146). -/
def modeNotice (u : AntennaUnit) : NoticeDetail :=
  .antenna (noticeAntenna u) u.antennas[noticeAntenna u].present u.antennas[noticeAntenna u].lastAbsence

theorem modeNotice_of {u : AntennaUnit} {a : Fin 4} (h : noticeAntenna u = a) :
    modeNotice u = .antenna a u.antennas[a].present u.antennas[a].lastAbsence := by
  subst h
  rfl

/-- The antenna a mode change's notice names: the first member in PAIRED, else the current antenna. -/
theorem noticeAntenna_eq (u : AntennaUnit) : noticeAntenna u = match u.mode, u.pair with
    | .paired, x :: _ => x
    | _, _ => u.current := by
  unfold noticeAntenna
  cases u.mode with
  | fixed a => rfl
  | switched => rfl
  | paired => cases u.pair <;> rfl

theorem endSwitchFade_none {post : NoticeDetail → State → State} {s : State} (h : s.ant.fade = none) :
    endSwitchFade post s = s :=
  if_neg (by rw [h]; decide)

theorem endSwitchFade_idle {post : NoticeDetail → State → State} {s : State} (h : s.ant.fade ≠ none)
    (hp : s.ant.pendingMode = none) : endSwitchFade post s = s.setAnt { s.ant with fade := none } := by
  refine (if_pos (Option.isSome_iff_ne_none.mpr h)).trans ?_
  rw [applyPendingMode, show (s.setAnt { s.ant with fade := none }).ant.pendingMode = none from hp]

theorem endSwitchFade_mode {post : NoticeDetail → State → State} {s : State} {m : DiversityMode} (h : s.ant.fade ≠ none)
    (hp : s.ant.pendingMode = some m) :
    endSwitchFade post s = post (modeNotice (modeTaken s.ant m)) (s.setAnt (modeTaken s.ant m)) := by
  refine (if_pos (Option.isSome_iff_ne_none.mpr h)).trans ?_
  rw [applyPendingMode, show (s.setAnt { s.ant with fade := none }).ant.pendingMode = some m from hp]
  rfl

/-- With nothing pending the crossfade alone is over. -/
theorem endSwitchFade_unpending {post : NoticeDetail → State → State} {s : State} (hp : s.ant.pendingMode = none) :
    endSwitchFade post s = s.setAnt { s.ant with fade := none } := by
  by_cases h : s.ant.fade = none
  · rw [endSwitchFade_none h, ← h]
    rfl
  · exact endSwitchFade_idle h hp

/-- The antennas after a crossfade's end, whatever is pending. -/
theorem endSwitchFade_ant {post : NoticeDetail → State → State} (hpost : ∀ d s, (post d s).ant = s.ant) (s : State) :
    (s.ant.fade = none ∨ s.ant.pendingMode = none → (endSwitchFade post s).ant = { s.ant with fade := none }) ∧
      ∀ m, s.ant.fade ≠ none → s.ant.pendingMode = some m → (endSwitchFade post s).ant = modeTaken s.ant m := by
  refine ⟨fun h => ?_, fun m h hp => ?_⟩
  · rcases h with h | h
    · rw [endSwitchFade_none h, ← h]
    · rw [endSwitchFade_unpending h]
      rfl
  · rw [endSwitchFade_mode h hp, hpost]
    rfl

/-! ## The beam crossfade resolved at once (R182) -/

/-- The live selection built anew, nothing pending. -/
def UplinkUnit.rebuilt (v : UplinkUnit) (p : Fin 4) : UplinkUnit :=
  { v with selections := v.selections.set v.live (selectionOf v.beams p), changePending := false }

theorem rebuild_eq (u : UplinkUnit) (p : Fin 4) : u.rebuild p = (if u.fading then u.landBeams else u).rebuilt p := rfl

theorem rebuilt_selection {x v : UplinkUnit} {p : Fin 4} (h : x = v.rebuilt p) :
    x.selections[x.live] = selectionOf v.beams p := by
  subst h
  exact (vector_set_fin v.selections v.live v.live _).trans (if_pos rfl)

theorem rebuild_spec (u : UplinkUnit) (p : Fin 4) :
    (u.rebuild p).fading = false ∧ (u.rebuild p).changePending = false ∧
      (u.rebuild p).live = (if u.fading then 1 - u.live else u.live) ∧
      (u.rebuild p).selections[(u.rebuild p).live] = selectionOf u.beams p ∧
      (u.rebuild p).echo = u.echo ∧ (u.rebuild p).filters = u.filters := by
  have hsettled : ∃ v : UplinkUnit, u.rebuild p = v.rebuilt p ∧ v.fading = false ∧
      v.live = (if u.fading then 1 - u.live else u.live) ∧ v.beams = u.beams ∧ v.echo = u.echo ∧
      v.filters = u.filters := by
    refine ⟨_, rebuild_eq u p, ?_⟩
    cases h : u.fading with
    | false => exact ⟨h, rfl, rfl, rfl, rfl⟩
    | true => exact ⟨rfl, rfl, rfl, rfl, rfl⟩
  obtain ⟨v, hv, hfading, hlive, hbeams, hecho, hfilters⟩ := hsettled
  exact ⟨(congrArg UplinkUnit.fading hv).trans hfading, (congrArg UplinkUnit.changePending hv).trans rfl,
    (congrArg UplinkUnit.live hv).trans hlive, (rebuilt_selection hv).trans (congrArg (selectionOf · p) hbeams),
    (congrArg UplinkUnit.echo hv).trans hecho, (congrArg UplinkUnit.filters hv).trans hfilters⟩

theorem rebuild_counts (u : UplinkUnit) (p : Fin 4) :
    (u.rebuild p).converge = u.converge ∧ (u.rebuild p).diverge = u.diverge := by
  rw [rebuild_eq]
  split <;> exact ⟨rfl, rfl⟩

/-! ## Activations completed at once (R106, R107) -/

theorem foldl_post_chan {post : NoticeDetail → State → State} (hc : ∀ d s, (post d s).chan = s.chan)
    (ds : List NoticeDetail) (s : State) : (ds.foldl (fun t d => post d t) s).chan = s.chan := by
  induction ds generalizing s with
  | nil => rfl
  | cons d ds ih => rw [List.foldl_cons, ih, hc]

theorem foldl_postNotice (ds : List NoticeDetail) (s : State) :
    ds.foldl (fun t d => postNotice d t) s =
      s.setMsg { s.msg with notices := ds.foldl postTo s.msg.notices } := by
  induction ds generalizing s with
  | nil => rfl
  | cons d ds ih => rw [List.foldl_cons, ih]; rfl

theorem foldl_deferNotice (ds : List NoticeDetail) (s : State) :
    ds.foldl (fun t d => deferNotice d t) s = s.setMsg { s.msg with deferred := s.msg.deferred ++ ds } := by
  induction ds generalizing s with
  | nil => rw [List.foldl_nil, List.append_nil]; rfl
  | cons d ds ih =>
    rw [List.foldl_cons, ih]
    show s.setMsg { s.msg with deferred := (s.msg.deferred ++ [d]) ++ ds } = _
    rw [List.append_assoc]
    rfl

/-- The notices of the activations under way. -/
def bankNotices (u : ChannelUnit) : List NoticeDetail := (underWay u).map fun c => .bank c .immediate 0

theorem completeActivations_posted (s : State) : completeActivations postNotice s =
    (s.setMsg { s.msg with notices := (bankNotices s.chan).foldl postTo s.msg.notices }).setChan (completed s.chan) := by
  rw [completeActivations_eq postNotice_movesMsg fun _ _ => rfl, foldl_postNotice]
  rfl

theorem completeActivations_deferred (s : State) : completeActivations deferNotice s =
    (s.setMsg { s.msg with deferred := s.msg.deferred ++ bankNotices s.chan }).setChan (completed s.chan) := by
  rw [completeActivations_eq deferNotice_movesMsg fun _ _ => rfl, foldl_deferNotice]
  rfl

/-- What completing the activations leaves of each channel (R92, R106, R107). -/
theorem completed_spec {s : State} (h : BankInv s) (c : Fin 28) :
    (c ∈ underWay s.chan ↔ s.chan.channels[c].spare = .queued ∨ s.chan.channels[c].spare = .fading) ∧
    (s.chan.channels[c].spare = .loaded ∨ s.chan.channels[c].spare = .open_ →
      (completed s.chan).channels[c] = s.chan.channels[c]) ∧
    (s.chan.channels[c].spare = .queued ∨ s.chan.channels[c].spare = .fading →
      (completed s.chan).channels[c].spare = .loaded ∧
      (completed s.chan).channels[c].record = s.chan.channels[c].record ∧
      (completed s.chan).channels[c].live = s.chan.channels[c].spareBank.rested ∧
      (completed s.chan).channels[c].spareBank = s.chan.channels[c].live.rested) := by
  obtain ⟨-, hq, hf, -, -⟩ := (bankInv_iff s).mp h
  have hc := completed_channels hq hf c
  refine ⟨mem_underWay_iff_spare hq hf c, fun hs => hc.trans (if_neg ?_), fun hs => ?_⟩
  · rcases hs with hs | hs <;> rw [hs] <;> decide
  · obtain ⟨hrecord, -, -, -, hlive, hspareBank, hspare⟩ := swapNow_spec s.chan.channels[c]
    rw [hc, if_pos hs]
    exact ⟨hspare, hrecord, hlive, hspareBank⟩

/-! ## STOPPING reaches CONFIG (R34) -/

/-- A posted notice stands in the set. -/
theorem exists_mem_postTo (set : List Notice) (d : NoticeDetail) : ∃ n ∈ postTo set d, n.detail = d := by
  by_cases h : ∃ n ∈ set, n.detail.kind = d.kind
  · obtain ⟨n, hn, hk⟩ := h
    rw [postTo_of_present ⟨n, hn, hk⟩]
    exact ⟨_, List.mem_map_of_mem hn, congrArg Notice.detail (if_pos hk)⟩
  · rw [postTo_of_absent fun n hn hk => h ⟨n, hn, hk⟩]
    exact ⟨_, List.mem_append_right _ (List.mem_singleton_self _), rfl⟩

/-- A pending notice of another kind stays. -/
theorem mem_postTo {set : List Notice} {d : NoticeDetail} {n : Notice} (hn : n ∈ set) (hk : n.detail.kind ≠ d.kind) :
    n ∈ postTo set d := by
  unfold postTo
  split
  · exact List.mem_map.mpr ⟨n, hn, if_neg (by rw [beq_iff_eq]; exact hk)⟩
  · exact List.mem_append_left _ hn

theorem mem_foldl_postTo {ds : List NoticeDetail} {set : List Notice} {n : Notice} (hn : n ∈ set)
    (hk : ∀ d ∈ ds, n.detail.kind ≠ d.kind) : n ∈ ds.foldl postTo set := by
  induction ds generalizing set with
  | nil => exact hn
  | cons d ds ih =>
    exact ih (mem_postTo hn (hk d List.mem_cons_self)) fun e he => hk e (List.mem_cons_of_mem d he)

/-- A seat's RELEASING claim, if it has one, leaves the list with a CLAIM notice. -/
theorem claimReachesNone_eq (z : Fin 2) (s : State) : ∃ ds : List NoticeDetail, (∀ d ∈ ds, d.kind = .claim) ∧
    claimReachesNone z s = (s.setMsg { s.msg with notices := ds.foldl postTo s.msg.notices }).setMix { s.mix with
      claims := s.mix.claims.filter fun d => !(d.zone == z && d.state == .releasing) } := by
  cases h : releasingOf s.mix z with
  | some c => exact ⟨[.claim z c.source false], by simp [NoticeDetail.kind], claimReachesNone_of h⟩
  | none =>
    refine ⟨[], by simp, ?_⟩
    rw [claimReachesNone_of_none h, List.filter_eq_self.mpr]
    · rfl
    · intro d hd
      rw [releasingOf_eq_none_iff] at h
      by_cases hz : d.zone = z
      · simp [hz, h d hd hz]
      · simp [hz]

theorem dropReleasing_eq (s : State) : ∃ ds : List NoticeDetail, (∀ d ∈ ds, d.kind = .claim) ∧
    dropReleasing s = (s.setMsg { s.msg with notices := ds.foldl postTo s.msg.notices }).setMix { s.mix with
      claims := s.mix.claims.filter fun c => c.state != .releasing } := by
  obtain ⟨ds, hds, hfirst⟩ := claimReachesNone_eq 0 s
  obtain ⟨es, hes, hsecond⟩ := claimReachesNone_eq 1 (claimReachesNone 0 s)
  have hfilter : (s.mix.claims.filter fun d => !(d.zone == 0 && d.state == .releasing)).filter
      (fun d => !(d.zone == 1 && d.state == .releasing)) = s.mix.claims.filter fun c => c.state != .releasing := by
    rw [List.filter_filter]
    refine List.filter_congr fun c _ => ?_
    obtain hz | hz : c.zone = 0 ∨ c.zone = 1 := by omega
    · rw [hz]
      cases c.state <;> rfl
    · rw [hz]
      cases c.state <;> rfl
  refine ⟨ds ++ es, List.forall_mem_append.mpr ⟨hds, hes⟩, ?_⟩
  rw [dropReleasing, hsecond, hfirst, List.foldl_append, ← hfilter]
  rfl

/-- STOPPING's change to CONFIG before the crossfades end: the notices of R34 and R106, the claims and the banks. -/
theorem settledBanks_eq (s : State) :
    ∃ l, dropReleasing (completeActivations postNotice (postNotice (.state .config) (setOp .config s))) = { s with
      msg := { s.msg with op := .config, notices := l }
      chan := completed s.chan
      mix := { s.mix with claims := s.mix.claims.filter fun c => c.state != .releasing } } ∧
      ∃ n ∈ l, n.detail = .state .config := by
  obtain ⟨ds, hds, hdrop⟩ :=
    dropReleasing_eq (completeActivations postNotice (postNotice (.state .config) (setOp .config s)))
  obtain ⟨n, hn, hdetail⟩ := exists_mem_postTo s.msg.notices (.state .config)
  have hkind : n.detail.kind = .state := by rw [hdetail]; rfl
  rw [hdrop, completeActivations_posted]
  refine ⟨_, rfl, n, mem_foldl_postTo (mem_foldl_postTo hn fun d hd => ?_) fun d hd => ?_, hdetail⟩
  · obtain ⟨c, -, rfl⟩ := List.mem_map.mp hd
    rw [hkind]
    nofun
  · rw [hkind, hds d hd]
    nofun

/-- The notices of a crossfade's end: one of kind ANTENNA for a pending mode. -/
theorem endSwitchFade_notices (s : State) : ∃ ds : List NoticeDetail, (∀ d ∈ ds, d.kind = .antenna) ∧
    (endSwitchFade postNotice s).msg = { s.msg with notices := ds.foldl postTo s.msg.notices } ∧
    ∀ m, s.ant.fade ≠ none → s.ant.pendingMode = some m → ds = [modeNotice (modeTaken s.ant m)] := by
  by_cases hf : s.ant.fade = none
  · exact ⟨[], by simp, by rw [endSwitchFade_none hf]; rfl, fun m h => absurd hf h⟩
  · cases hp : s.ant.pendingMode with
    | none => exact ⟨[], by simp, by rw [endSwitchFade_idle hf hp]; rfl, nofun⟩
    | some m =>
      refine ⟨[modeNotice (modeTaken s.ant m)], by simp [modeNotice, NoticeDetail.kind], ?_, fun m' _ h => ?_⟩
      · rw [endSwitchFade_mode hf hp]
        rfl
      · rw [Option.some.inj h]

theorem outputsSilent_iff (g : GainUnit) : outputsSilent g = true ↔ ∀ c : Fin 28, g.out[c].current = 0 := by
  unfold outputsSilent
  rw [Vector.all_eq_true]
  simp only [beq_iff_eq, Fin.forall_iff, Fin.getElem_fin]

theorem configDue_iff (s : State) :
    configDue s = true ↔ s.msg.op = .stopping ∧ ∀ c : Fin 28, s.gain.out[c].current = 0 := by
  rw [configDue, Bool.and_eq_true, beq_iff_eq, outputsSilent_iff]

theorem reachConfig_point (s : State) (i : GainId) : (reachConfig s).point i = (s.point i).silenced := by
  rw [reachConfig_eq]
  exact (GainUnit.point_mapPoints _ _ i).trans (by rw [enterConfig_gain]; rfl)

/-- Settles O39: every unit's part in the change, the pending mode, and the cases in which nothing changes. -/
theorem stoppingReachesConfig : Obligations.StoppingReachesConfig := by
  refine ⟨fun s hlinked hop hpath hbank hsilent => ?_, fun s h => congrArg Host.Outcome.next (eventStep_idle ?_)⟩
  · have hactive : s.active = true := by
      rw [State.active, hlinked, State.running, hop]
      rfl
    obtain ⟨l, hbase, n, hn, hdetail⟩ := settledBanks_eq s
    set b : State := { s with
      msg := { s.msg with op := .config, notices := l }
      chan := completed s.chan
      mix := { s.mix with claims := s.mix.claims.filter fun c => c.state != .releasing } } with hb
    obtain ⟨ering, emix, egain, echan, eprot, eradio, ecall, euplink, -, -⟩ := endSwitchFade_frame b
    obtain ⟨ds, hkinds, hmsg, hmode⟩ := endSwitchFade_notices b
    obtain ⟨hant, hanted⟩ := endSwitchFade_ant (post := postNotice) (fun _ _ => rfl) b
    have ht : reachConfig s = silenceAll (resolveBeams (endSwitchFade postNotice b)) := by
      rw [reachConfig_eq, enterConfig, hbase]
    have huplink : (reachConfig s).uplink = s.uplink.rebuild s.call.placement := by
      rw [ht]
      show (endSwitchFade postNotice b).uplink.rebuild (endSwitchFade postNotice b).call.placement = _
      rw [euplink, ecall]
    have hcalm : (reachConfig s).uplink.pathRaised = false := by
      rw [huplink, rebuild_eq]
      split <;> exact hpath
    have htmsg : (reachConfig s).msg = { b.msg with notices := ds.foldl postTo l } := by rw [ht]; exact hmsg
    have htant : (reachConfig s).ant = (endSwitchFade postNotice b).ant := by rw [ht]; rfl
    have htchan : (reachConfig s).chan = completed s.chan := by rw [ht]; exact echan
    have htmix : (reachConfig s).mix = b.mix := by rw [ht]; exact emix
    obtain ⟨hfading, hchange, hlive, hselection, hecho, hfilters⟩ := rebuild_spec s.uplink s.call.placement
    refine ⟨reachConfig s, congrArg Host.Outcome.next
        (eventStep_effect hactive ((configDue_iff s).mpr ⟨hop, hsilent⟩) hcalm),
      by rw [ht]; exact ering, by rw [ht]; exact ecall, by rw [ht]; exact eradio, by rw [ht]; exact eprot, by rw [htmix],
      by rw [htmix], by rw [htmsg], by rw [htmsg], by rw [htmsg], ⟨n, ?_, hdetail⟩, reachConfig_point s, by rw [htmix],
      by rw [htchan]; rfl, by rw [htchan]; rfl, fun c => ?_, fun hp => htant.trans (hant (.inr hp)),
      fun hf => htant.trans ((hant (.inl hf)).trans ?_), fun m hf hp => ?_, by rw [huplink]; exact hfading,
      by rw [huplink]; exact hchange, by rw [huplink]; exact hlive, ?_, by rw [huplink]; exact hecho,
      by rw [huplink]; exact hfilters⟩
    · rw [htmsg]
      refine mem_foldl_postTo hn fun d hd => ?_
      rw [hdetail, hkinds d hd]
      nofun
    · obtain ⟨-, hkeep, hswap⟩ := completed_spec hbank c
      dsimp only
      rw [htchan]
      exact ⟨hkeep, hswap⟩
    · show ({ s.ant with fade := none } : AntennaUnit) = s.ant
      rw [← hf]
    · intro u a
      obtain ⟨n', hn', hdetail'⟩ := exists_mem_postTo l (modeNotice u)
      refine ⟨htant.trans (hanted m hf hp), changeMode_mode _ m, n', ?_, hdetail'.trans ?_⟩
      · rw [htmsg, hmode m hf hp]
        exact hn'
      · have ha : noticeAntenna u = a := noticeAntenna_eq u
        exact modeNotice_of ha
    · have hat {x : UplinkUnit} (hx : x = s.uplink.rebuild s.call.placement) :
          x.selections[x.live] = selectionOf s.uplink.beams s.call.placement := by
        subst hx
        exact hselection
      exact hat huplink
  · rcases h with h | h | ⟨c, hc⟩
    · refine .inr ?_
      rw [← Bool.not_eq_true, configDue_iff]
      exact fun hd => h hd.1
    · exact .inl (by rw [State.active, h, Bool.false_and])
    · refine .inr ?_
      rw [← Bool.not_eq_true, configDue_iff]
      exact fun hd => hc (hd.2 c)

/-! ## The long loss (R9) -/

/-- The notices of a call that a long loss ends, CALL before ECHO (R177, R187). -/
def lostCallNotices (s : State) : List NoticeDetail :=
  if s.call.state = .idle then [] else .call .lost :: if s.uplink.echo = .off then [] else [.echo .off]

/-- The uplink unit once a long loss has ended the call. -/
def lostUplink (s : State) : UplinkUnit :=
  if s.call.state = .idle then s.uplink else { s.uplink with echo := .off, converge := 0, diverge := 0, out := 0 }

theorem lostUplink_beams (s : State) : (lostUplink s).fading = s.uplink.fading ∧ (lostUplink s).live = s.uplink.live ∧
    (lostUplink s).beams = s.uplink.beams := by
  unfold lostUplink
  split <;> exact ⟨rfl, rfl, rfl⟩

theorem loseCall_eq (s : State) : loseCall s = { s with
    call := { s.call with state := .idle }
    msg := { s.msg with deferred := s.msg.deferred ++ lostCallNotices s }
    uplink := lostUplink s } := by
  unfold lostCallNotices lostUplink
  by_cases h : s.call.state = .idle
  · have hsame : loseCall s = s := if_pos h
    rw [if_pos h, if_pos h, List.append_nil, hsame, ← h]
  · rw [loseCall, if_neg h, if_neg h, if_neg h]
    dsimp only
    by_cases he : s.uplink.echo = .off
    · rw [if_pos he, if_pos he]
      rfl
    · rw [if_neg he, if_neg he, show ∀ a b : NoticeDetail, s.msg.deferred ++ [a, b] = s.msg.deferred ++ [a] ++ [b] from
        fun a b => (List.append_assoc _ [a] [b]).symm]
      rfl

/-- The notices of a crossfade's end under a long loss. -/
def lostModeNotices (u : AntennaUnit) : List NoticeDetail :=
  match u.fade, u.pendingMode with
  | some _, some m => [modeNotice (modeTaken u m)]
  | _, _ => []

theorem endSwitchFade_deferred (s : State) : endSwitchFade deferNotice s =
    (s.setAnt (endSwitchFade deferNotice s).ant).setMsg
      { s.msg with deferred := s.msg.deferred ++ lostModeNotices s.ant } := by
  unfold lostModeNotices
  cases hf : s.ant.fade with
  | none =>
    rw [endSwitchFade_none hf, List.append_nil]
    rfl
  | some f =>
    have hne : s.ant.fade ≠ none := by rw [hf]; nofun
    cases hp : s.ant.pendingMode with
    | none =>
      rw [endSwitchFade_idle hne hp, List.append_nil]
      rfl
    | some m =>
      rw [endSwitchFade_mode hne hp]
      rfl

/-- A long loss, unit by unit (R9). -/
theorem longLossEffects_eq (s : State) : ∃ x : AntennaUnit,
    (s.ant.fade = none ∨ s.ant.pendingMode = none → x = { s.ant with fade := none }) ∧
    (∀ m, s.ant.fade ≠ none → s.ant.pendingMode = some m → x = modeTaken s.ant m) ∧
    longLossEffects s = { s with
      msg := { s.msg with
        deferred := s.msg.deferred ++ bankNotices s.chan ++ lostCallNotices s ++ lostModeNotices s.ant }
      gain := { s.gain.mapPoints GainPoint.silenced with startPending := true }
      chan := completed s.chan
      ant := x
      radio := s.radio.restart
      call := { s.call with state := .idle }
      uplink := (lostUplink s).rebuild s.call.placement } := by
  have hcall := loseCall_eq (completeActivations deferNotice (startPoints (silenceAll s)))
  rw [completeActivations_deferred] at hcall
  obtain ⟨hant, hmode⟩ := endSwitchFade_ant (post := deferNotice) (fun _ _ => rfl)
    (loseCall (completeActivations deferNotice (startPoints (silenceAll s))))
  have hfade := endSwitchFade_deferred (loseCall (completeActivations deferNotice (startPoints (silenceAll s))))
  rw [completeActivations_deferred, hcall] at hant hmode hfade
  refine ⟨_, hant, hmode, ?_⟩
  rw [longLossEffects, completeActivations_deferred, hcall]
  dsimp only
  rw [hfade]
  rfl

/-- Settles O11: every unit's part, and the notices kept for the relink. -/
theorem longLoss_holds : Obligations.LongLoss := by
  refine ⟨fun s hl ht => ?_, fun s h => congrArg Host.Outcome.next (if_neg ?_)⟩
  · intro moded first banks calls antennas
    obtain ⟨x, hant, hmode, heq⟩ := longLossEffects_eq (s.setRing { s.ring with lossTimer := .reached })
    obtain ⟨hfading, hchange, hlive, hselection, hecho, -⟩ := rebuild_spec (lostUplink s) s.call.placement
    have hantennas : lostModeNotices s.ant = antennas := by
      unfold lostModeNotices
      cases hf : s.ant.fade with
      | none => simp only [antennas, hf]
      | some f =>
        cases hp : s.ant.pendingMode with
        | none => simp only [antennas, hf, hp]
        | some m =>
          simp only [antennas, hf, hp]
          exact congrArg (fun d : NoticeDetail => [d]) (modeNotice_of (noticeAntenna_eq (modeTaken s.ant m)))
    obtain ⟨hlostFading, hlostLive, hlostBeams⟩ := lostUplink_beams s
    refine ⟨⟨_, rfl⟩, _, congrArg Host.Outcome.next ((if_pos ⟨hl, ht⟩).trans heq), rfl, fun i => ?_, rfl, rfl, rfl, rfl,
      rfl, rfl, fun u => by simp [completed], fun hb c => ?_, rfl, fun hc => ?_, fun hc => ?_, rfl, hant, hmode, hfading,
      hchange, ?_, ?_, rfl, rfl, ?_⟩
    · have hpoint := GainUnit.point_mapPoints s.gain GainPoint.silenced i
      have hsame : ({ s.gain.mapPoints GainPoint.silenced with startPending := true } : GainUnit).point i =
          (s.gain.mapPoints GainPoint.silenced).point i := by cases i <;> rfl
      have hsilenced {p : GainPoint} (hp : p = (s.gain.point i).silenced) :
          p.current = 0 ∧ p.ramp = none ∧ p.step = (s.point i).step ∧ p.linear = (s.point i).linear := by
        subst hp
        exact ⟨rfl, rfl, rfl, rfl⟩
      exact hsilenced (hsame.trans hpoint)
    · exact completed_spec hb c
    · obtain ⟨hconverge, hdiverge⟩ := rebuild_counts (lostUplink s) s.call.placement
      have hlost : lostUplink s = _ := if_neg hc
      exact ⟨hecho.trans (congrArg UplinkUnit.echo hlost), hconverge.trans (congrArg UplinkUnit.converge hlost),
        hdiverge.trans (congrArg UplinkUnit.diverge hlost)⟩
    · exact hecho.trans (congrArg UplinkUnit.echo (if_pos hc))
    · exact hlive.trans (by rw [hlostFading, hlostLive])
    · exact hselection.trans (congrArg (selectionOf · s.call.placement) hlostBeams)
    · rw [← hantennas]
      rfl
  · rintro ⟨hl, ht⟩
    rcases h with h | h
    · exact h hl
    · exact h ht

end Sys2Proof.Machine


namespace Sys2Proof.Machine

/-! ## Scores (R139, R140, R143, R144) -/

/-- Antenna a stands before antenna b: a higher score, or the same and a lower number. -/
def Better (u : AntennaUnit) (a b : Fin 4) : Prop :=
  u.antennas[b].score < u.antennas[a].score ∨ (u.antennas[a].score = u.antennas[b].score ∧ a.val < b.val)

theorem leads_iff (u : AntennaUnit) (a b : Fin 4) : leads u a b = true ↔ Better u a b := by
  unfold leads Better
  rw [Bool.or_eq_true, Bool.and_eq_true, decide_eq_true_eq, decide_eq_true_eq, beq_iff_eq]

theorem Better.trans {u : AntennaUnit} {a b c : Fin 4} (h : Better u a b) (k : Better u b c) : Better u a c := by
  unfold Better at *
  omega

theorem Better.irrefl {u : AntennaUnit} {a : Fin 4} (h : Better u a a) : False := by
  unfold Better at h
  omega

theorem Better.asymm {u : AntennaUnit} {a b : Fin 4} (h : Better u a b) : ¬ Better u b a := fun k => (h.trans k).irrefl

/-- What a choice of the best among the antennas seen so far is. -/
def BestAmong (u : AntennaUnit) (p : Fin 4 → Bool) (seen : Fin 4 → Prop) : Option (Fin 4) → Prop
  | none => ∀ a, seen a → p a = false
  | some b => p b = true ∧ seen b ∧ ∀ c, seen c → p c = true → c = b ∨ Better u b c

/-- A choice's step: an antenna of the set replaces the choice so far when its score is higher. -/
def bestStep (u : AntennaUnit) (p : Fin 4 → Bool) (o : Option (Fin 4)) (a : Fin 4) : Option (Fin 4) :=
  if p a then
    match o with
    | none => some a
    | some c => if u.antennas[c].score < u.antennas[a].score then some a else o
  else o

theorem bestOf_eq_foldl (u : AntennaUnit) (p : Fin 4 → Bool) :
    bestOf u p = bestStep u p (bestStep u p (bestStep u p (bestStep u p none 0) 1) 2) 3 := rfl

/-- One antenna more, of a higher number than those seen. -/
theorem BestAmong.next {u : AntennaUnit} {p : Fin 4 → Bool} {seen : Fin 4 → Prop} {o : Option (Fin 4)} {a : Fin 4}
    (h : BestAmong u p seen o) (ha : ∀ c, seen c → c.val < a.val) :
    BestAmong u p (fun c => seen c ∨ c = a) (bestStep u p o a) := by
  unfold bestStep
  cases hp : p a with
  | false =>
    cases o with
    | none => exact fun c hc => hc.elim (h c) fun hca => hca ▸ hp
    | some b =>
      obtain ⟨hb, hs, hbest⟩ := h
      exact ⟨hb, .inl hs, fun c hc hpc => hc.elim (fun hc => hbest c hc hpc) fun hca => by
        rw [hca, hp] at hpc; cases hpc⟩
  | true =>
    cases o with
    | none =>
      exact ⟨hp, .inr rfl, fun c hc hpc => hc.elim (fun hc => by rw [h c hc] at hpc; cases hpc) .inl⟩
    | some b =>
      obtain ⟨hb, hs, hbest⟩ := h
      by_cases hlt : u.antennas[b].score < u.antennas[a].score
      · simp only [if_true, if_pos hlt]
        refine ⟨hp, .inr rfl, fun c hc hpc => hc.elim (fun hc => .inr ?_) .inl⟩
        have hab : Better u a b := .inl hlt
        rcases hbest c hc hpc with rfl | hbc
        · exact hab
        · exact hab.trans hbc
      · simp only [if_true, if_neg hlt]
        refine ⟨hb, .inl hs, fun c hc hpc => hc.elim (fun hc => hbest c hc hpc) fun hca => .inr ?_⟩
        subst hca
        have hlow := ha b hs
        unfold Better
        omega

/-- The choice of the best is what its name says. -/
theorem bestOf_spec (u : AntennaUnit) (p : Fin 4 → Bool) : BestAmong u p (fun _ => True) (bestOf u p) := by
  have hnone : BestAmong u p (fun _ => False) none := fun _ h => h.elim
  have h := (((hnone.next (a := 0) nofun).next (a := 1) (by simp)).next (a := 2)
    (by rintro c ((h | rfl) | rfl) <;> simp_all)).next (a := 3) (by rintro c (((h | rfl) | rfl) | rfl) <;> simp_all)
  have hall : (fun c : Fin 4 => (((False ∨ c = 0) ∨ c = 1) ∨ c = 2) ∨ c = 3) = fun _ => True := by
    funext c
    have hc : (((False ∨ c = 0) ∨ c = 1) ∨ c = 2) ∨ c = 3 := by omega
    exact eq_true hc
  rw [hall] at h
  rw [bestOf_eq_foldl]
  exact h

theorem bestOf_eq_none_iff (u : AntennaUnit) (p : Fin 4 → Bool) : bestOf u p = none ↔ ∀ a, p a = false := by
  have h := bestOf_spec u p
  cases hb : bestOf u p with
  | none =>
    rw [hb] at h
    exact ⟨fun _ a => h a trivial, fun _ => rfl⟩
  | some b =>
    rw [hb] at h
    obtain ⟨hp, -, -⟩ := h
    exact ⟨nofun, fun hno => by rw [hno b] at hp; cases hp⟩

theorem bestOf_eq_some_iff (u : AntennaUnit) (p : Fin 4 → Bool) (b : Fin 4) :
    bestOf u p = some b ↔ p b = true ∧ ∀ c, p c = true → c = b ∨ Better u b c := by
  have h := bestOf_spec u p
  cases hb : bestOf u p with
  | none =>
    rw [hb] at h
    exact ⟨nofun, fun ⟨hp, _⟩ => by rw [h b trivial] at hp; cases hp⟩
  | some a =>
    rw [hb] at h
    obtain ⟨hpa, -, hbest⟩ := h
    refine ⟨fun hab => Option.some.inj hab ▸ ⟨hpa, fun c => hbest c trivial⟩, fun ⟨hpb, hbetter⟩ => congrArg some ?_⟩
    rcases hbest b trivial hpb with hba | hab
    · exact hba.symm
    · exact (hbetter a hpa).resolve_right hab.asymm

/-! ## The antenna FIXED takes (R139) -/

/-- What R139 asks of the antenna in use under FIXED(a). -/
def FixedChosen (u : AntennaUnit) (a b : Fin 4) : Prop :=
  (u.antennas[a].present = true → b = a) ∧
  (¬ u.antennas[a].present = true → u.antennas[u.current].present = true → b = u.current) ∧
  (¬ u.antennas[a].present = true → ¬ u.antennas[u.current].present = true → (∃ c : Fin 4, u.antennas[c].present = true) →
    u.antennas[b].present = true ∧ ∀ c : Fin 4, u.antennas[c].present = true → c = b ∨ Better u b c) ∧
  ((∀ c : Fin 4, ¬ u.antennas[c].present = true) → b = u.current)

theorem fixedChoice_spec (u : AntennaUnit) (a : Fin 4) : FixedChosen u a (fixedChoice u a) := by
  unfold fixedChoice FixedChosen
  by_cases ha : u.antennas[a].present = true
  · rw [if_pos ha]
    exact ⟨fun _ => rfl, fun h => absurd ha h, fun h => absurd ha h, fun h => absurd ha (h a)⟩
  rw [if_neg ha]
  by_cases hc : u.antennas[u.current].present = true
  · rw [if_pos hc]
    exact ⟨fun h => absurd h ha, fun _ _ => rfl, fun _ h => absurd hc h, fun h => absurd hc (h _)⟩
  rw [if_neg hc, bestPresent]
  cases hb : bestOf u fun a => u.antennas[a].present with
  | none =>
    have hno := (bestOf_eq_none_iff u _).mp hb
    refine ⟨fun h => absurd h ha, fun _ h => absurd h hc, fun _ _ ⟨c, hpc⟩ => ?_, fun _ => rfl⟩
    rw [hno c] at hpc
    cases hpc
  | some b =>
    have hbest := (bestOf_eq_some_iff u _ b).mp hb
    exact ⟨fun h => absurd h ha, fun _ h => absurd h hc, fun _ _ _ => hbest, fun h => absurd hbest.1 (h b)⟩

/-! ## The pair that PAIRED begins with (R143, R145) -/

/-- The best PRESENT antennas, at most two of them, as PAIRED takes them. -/
def bestPair (u : AntennaUnit) : List (Fin 4) := ordered u (joinBest u (joinBest u []))

/-- What R143 asks of that pair. -/
structure BestPair (u : AntennaUnit) (l : List (Fin 4)) : Prop where
  members : ∀ a ∈ l, u.antennas[a].present = true ∧ ∀ b, u.antennas[b].present = true → b ∉ l → Better u a b
  length : l.length = min 2 ((List.finRange 4).filter fun a => u.antennas[a].present).length
  order : ∀ a b, l = [a, b] → Better u a b

theorem mem_present {u : AntennaUnit} {a : Fin 4} :
    a ∈ ((List.finRange 4).filter fun a => u.antennas[a].present) ↔ u.antennas[a].present = true := by
  rw [List.mem_filter]
  exact and_iff_right (List.mem_finRange a)

theorem present_nodup (u : AntennaUnit) : ((List.finRange 4).filter fun a => u.antennas[a].present).Nodup :=
  (List.nodup_finRange 4).filter _

theorem bestPair_spec (u : AntennaUnit) : BestPair u (bestPair u) := by
  have hsingle (l : List (Fin 4)) (hl : l.length ≤ 1) : ordered u l = l := by
    match l with
    | [] | [a] => rfl
    | a :: b :: l => simp at hl
  cases hx : bestOf u fun a => u.antennas[a].present && !([] : List (Fin 4)).contains a with
  | none =>
    have hno (a : Fin 4) : u.antennas[a].present = false := by
      have h := (bestOf_eq_none_iff u _).mp hx a
      simpa using h
    have hfirst : joinBest u [] = [] := by
      rw [joinBest, if_pos (by decide), hx]
    rw [bestPair, hfirst, hfirst, hsingle [] (by decide)]
    refine ⟨fun a ha => absurd ha List.not_mem_nil, ?_, nofun⟩
    rw [List.filter_eq_nil_iff.mpr fun a _ => by rw [hno a]; decide]
    rfl
  | some x =>
    obtain ⟨hpx, hbest⟩ := (bestOf_eq_some_iff u _ x).mp hx
    have hpx' : u.antennas[x].present = true := by simpa using hpx
    have hbest' (c : Fin 4) (hc : u.antennas[c].present = true) (hne : c ≠ x) : Better u x c :=
      (hbest c (by simpa using hc)).resolve_left hne
    have hfirst : joinBest u [] = [x] := by
      rw [joinBest, if_pos (by decide), hx]
      rfl
    cases hy : bestOf u fun a => u.antennas[a].present && !([x] : List (Fin 4)).contains a with
    | none =>
      have hno (a : Fin 4) (ha : u.antennas[a].present = true) : a = x := by
        have h := (bestOf_eq_none_iff u _).mp hy a
        by_contra hne
        simp [-Fin.getElem_fin, ha, hne] at h
      have hsecond : joinBest u [x] = [x] := by
        rw [joinBest, if_pos (by simp), hy]
      rw [bestPair, hfirst, hsecond, hsingle [x] (by simp)]
      refine ⟨fun a ha => ?_, ?_, nofun⟩
      · rw [List.mem_singleton.mp ha]
        exact ⟨hpx', fun b hb hmem => absurd (List.mem_singleton.mpr (hno b hb)) hmem⟩
      · have hle : ((List.finRange 4).filter fun a => u.antennas[a].present).length ≤ [x].length :=
          (List.subperm_of_subset (present_nodup u) fun a ha =>
            List.mem_singleton.mpr (hno a (mem_present.mp ha))).length_le
        have hge := List.length_pos_of_mem (mem_present.mpr hpx')
        simp only [List.length_singleton] at hle ⊢
        omega
    | some y =>
      obtain ⟨hpy, hnext⟩ := (bestOf_eq_some_iff u _ y).mp hy
      obtain ⟨hpy', hyx⟩ : u.antennas[y].present = true ∧ y ≠ x := by
        simpa [-Fin.getElem_fin] using hpy
      have hxy := hbest' y hpy' hyx
      have hsecond : joinBest u [x] = [x, y] := by
        rw [joinBest, if_pos (by simp), hy]
        rfl
      have hordered : ordered u [x, y] = [x, y] := if_neg (by rw [leads_iff]; exact hxy.asymm)
      rw [bestPair, hfirst, hsecond, hordered]
      refine ⟨fun a ha => ?_, ?_, fun a b hab => ?_⟩
      · have hout (b : Fin 4) (hb : u.antennas[b].present = true) (hmem : b ∉ [x, y]) : Better u y b := by
          obtain ⟨hbx, hby⟩ : b ≠ x ∧ b ≠ y := by simpa using hmem
          exact (hnext b (by simp [-Fin.getElem_fin, hb, hbx])).resolve_left hby
        rcases List.mem_pair.mp ha with rfl | rfl
        · exact ⟨hpx', fun b hb hmem => hxy.trans (hout b hb hmem)⟩
        · exact ⟨hpy', hout⟩
      · have hnodup : [x, y].Nodup := by simpa using Ne.symm hyx
        have hge : [x, y].length ≤ ((List.finRange 4).filter fun a => u.antennas[a].present).length :=
          (List.subperm_of_subset hnodup fun a ha => mem_present.mpr (by
            rcases List.mem_pair.mp ha with rfl | rfl
            · exact hpx'
            · exact hpy')).length_le
        simp only [List.length_cons, List.length_nil] at hge ⊢
        omega
      · cases hab
        exact hxy

end Sys2Proof.Machine


namespace Sys2Proof.Machine

/-! ## RADIO MODE (R145, R146) -/

theorem modeOfWord_three {w : Word} (h : field w 1 0 = 3) : modeOfWord w = none := by
  rw [modeOfWord, h]
  rfl

theorem modeOfWord_fixed {w : Word} {a : Fin 4} (h : field w 1 0 = 0) (ha : field w 5 4 = a.val) :
    modeOfWord w = some (.fixed a) := by
  rw [modeOfWord, h, ha, finWrap_val]
  rfl

theorem modeOfWord_switched {w : Word} (h : field w 1 0 = 1) : modeOfWord w = some .switched := by
  rw [modeOfWord, h]
  rfl

theorem modeOfWord_paired {w : Word} (h : field w 1 0 = 2) : modeOfWord w = some .paired := by
  rw [modeOfWord, h]
  rfl

theorem changeMode_same (u : AntennaUnit) : u.changeMode u.mode = u := if_pos rfl

/-- A switch with no crossfade running. -/
theorem switchTo_of_idle {u : AntennaUnit} (h : u.fade = none) (b : Fin 4) :
    u.switchTo b =
      { u with current := b, fade := if b = u.current then none else some ⟨.antenna u.current, b, 0⟩ } := by
  unfold AntennaUnit.switchTo
  by_cases hb : b = u.current
  · rw [if_pos hb, if_pos hb, hb, ← h]
  · rw [if_neg hb, if_neg hb]

/-- To FIXED out of FIXED or SWITCHED. -/
theorem changeMode_fixed {u : AntennaUnit} {a : Fin 4} (hne : u.mode ≠ .fixed a) (hp : u.mode ≠ .paired) :
    u.changeMode (.fixed a) = ({ u with mode := .fixed a } : AntennaUnit).switchTo (fixedChoice u a) := by
  refine (if_neg (Ne.symm hne)).trans ?_
  dsimp only
  cases h : u.mode with
  | paired => exact absurd h hp
  | fixed b => rfl
  | switched => rfl

/-- To FIXED out of PAIRED. -/
theorem changeMode_fixed_of_paired {u : AntennaUnit} {a : Fin 4} (hp : u.mode = .paired) :
    u.changeMode (.fixed a) = ({ u with mode := .fixed a } : AntennaUnit).leavePair (fixedFromPair u a) := by
  refine (if_neg (by rw [hp]; nofun)).trans ?_
  dsimp only
  rw [hp]

theorem changeMode_switched {u : AntennaUnit} {a : Fin 4} (hm : u.mode = .fixed a) :
    u.changeMode .switched = { u with mode := .switched, alert := none } := by
  refine (if_neg (by rw [hm]; nofun)).trans ?_
  dsimp only
  rw [hm]

theorem changeMode_switched_of_paired {u : AntennaUnit} (hp : u.mode = .paired) :
    u.changeMode .switched =
      ({ u with mode := .switched, alert := none } : AntennaUnit).leavePair (u.pair.headD u.current) := by
  refine (if_neg (by rw [hp]; nofun)).trans ?_
  dsimp only
  rw [hp]

theorem changeMode_paired {u : AntennaUnit} (hp : u.mode ≠ .paired) :
    u.changeMode .paired =
      ({ u with mode := .paired, pair := bestPair u, challenge := Vector.replicate 4 0 } : AntennaUnit).align := by
  refine (if_neg (Ne.symm hp)).trans ?_
  dsimp only
  cases h : u.mode with
  | paired => exact absurd h hp
  | fixed b => rfl
  | switched => rfl

/-- Aligning the pair sets its weights and its direction alone. -/
theorem align_rest (u : AntennaUnit) : { u.align with w1 := u.w1, w2 := u.w2, phase := u.phase } = u := by
  unfold AntennaUnit.align
  split <;> rfl

theorem align_two {u : AntennaUnit} {a b : Fin 4} {l : List (Fin 4)} (h : u.pair = a :: b :: l) :
    u.align.w1 = firstWeight u.antennas[a].score u.antennas[b].score ∧ u.align.w2 = 256 - u.align.w1 ∧
      u.align.phase = nearestDirection (correlationOf u a b) := by
  unfold AntennaUnit.align
  split
  · next hp =>
    cases hp.symm.trans h
    exact ⟨rfl, rfl, rfl⟩
  · next hp => cases hp.symm.trans h
  · next hp => cases hp.symm.trans h

/-- The pair of a change to PAIRED, and what the change leaves alone. -/
theorem changeMode_paired_spec {u : AntennaUnit} (hp : u.mode ≠ .paired) :
    { u.changeMode .paired with
      mode := u.mode, pair := u.pair, challenge := u.challenge, w1 := u.w1, w2 := u.w2, phase := u.phase } = u ∧
    (u.changeMode .paired).challenge = Vector.replicate 4 0 ∧ (u.changeMode .paired).pair = bestPair u ∧
    ∀ a b, bestPair u = [a, b] →
      (u.changeMode .paired).w1 = firstWeight u.antennas[a].score u.antennas[b].score ∧
      (u.changeMode .paired).w2 = 256 - (u.changeMode .paired).w1 ∧
      (u.changeMode .paired).phase = nearestDirection (correlationOf u a b) := by
  rw [changeMode_paired hp]
  have hrest := align_rest { u with mode := .paired, pair := bestPair u, challenge := Vector.replicate 4 0 }
  refine ⟨?_, ?_, ?_, fun a b h => align_two h⟩
  · exact congrArg (fun x : AntennaUnit => { x with mode := u.mode, pair := u.pair, challenge := u.challenge }) hrest
  · exact (congrArg AntennaUnit.challenge hrest :)
  · exact (congrArg AntennaUnit.pair hrest :)

/-- Settles O34: the codes, CONFIG, a running crossfade, and each change of the mode table. -/
theorem radioMode : Obligations.RadioMode := by
  intro r s h hp u code
  refine ⟨fun hcode => ?_, fun m hm => ?_⟩
  · refine exec_refused (k := .radioMode) h hp ?_
    rw [handlerOf, handleRadioMode, modeOfWord_three hcode]
  have hmode : modeOfWord (argument r 0) = some m := by
    cases m with
    | fixed a => exact modeOfWord_fixed hm.1 hm.2
    | switched => exact modeOfWord_switched hm
    | paired => exact modeOfWord_paired hm
  have hhandle : handleRadioMode r s =
      if s.msg.op = .config then answerOk (s.setAnt { s.ant with mode := m })
      else if s.ant.fade.isSome then answerAccepted (s.setAnt { s.ant with pendingMode := some m })
      else answerOk (s.setAnt (s.ant.changeMode m)) := by
    rw [handleRadioMode, hmode]
  refine ⟨fun hop => ?_, fun hop hfade => ?_, fun hop hfade => ?_⟩
  · exact exec_answered (k := .radioMode) h hp (hhandle.trans (if_pos hop)) rfl rfl
  · exact exec_answered (k := .radioMode) h hp
      ((hhandle.trans (if_neg (by rw [hop]; decide))).trans (if_pos hfade)) rfl rfl
  have hchange : exec (.radioMode r) s = .next (answered 28 r .ok 0 [] (s.setAnt (u.changeMode m))) := by
    refine exec_answered (k := .radioMode) h hp ((hhandle.trans (if_neg (by rw [hop]; decide))).trans (if_neg ?_)) rfl rfl
    rw [show s.ant.fade = none from hfade]
    decide
  refine ⟨fun hsame => ?_, fun a ha hne hpaired => ?_, fun a ha hpaired => ?_, fun hs ⟨a, ha⟩ => ?_, fun hs hpaired => ?_,
    fun hpaired hne => ?_⟩
  · rw [hsame, changeMode_same] at hchange
    exact hchange
  · subst ha
    refine ⟨fixedChoice u a, fixedChoice_spec u a, ?_⟩
    rw [changeMode_fixed hne hpaired, switchTo_of_idle (u := { u with mode := .fixed a }) hfade] at hchange
    exact hchange
  · subst ha
    rw [changeMode_fixed_of_paired hpaired] at hchange
    refine ⟨fixedFromPair u a, fun hthere => if_pos hthere, fun hthere x l hpair => ?_, fun hthere hpair => ?_, hchange⟩
    · exact (if_neg hthere).trans (by rw [hpair])
    · have hfrom : fixedFromPair u a = fixedChoice u a := (if_neg hthere).trans (by rw [hpair])
      rw [hfrom]
      exact fixedChoice_spec u a
  · subst hs
    rw [changeMode_switched ha] at hchange
    exact hchange
  · subst hs
    rw [changeMode_switched_of_paired hpaired] at hchange
    intro b
    have hb : u.pair.headD u.current = b := by
      unfold b
      cases u.pair <;> rfl
    rw [← hb]
    exact hchange
  · subst hpaired
    obtain ⟨hrest, hchallenge, hpair, halign⟩ := changeMode_paired_spec hne
    obtain ⟨hmembers, hlength, horder⟩ := bestPair_spec u
    refine ⟨_, hchange, hrest, changeMode_mode u .paired, hchallenge, ?_, ?_, ?_⟩
    · rw [hpair]
      exact hmembers
    · rw [hpair]
      exact hlength
    · rw [hpair]
      exact fun a b hab => ⟨horder a b hab, halign a b hab⟩

end Sys2Proof.Machine


namespace Sys2Proof.Machine

/-! ## The switch test (R140) -/

/-- A rival of the current antenna: PRESENT and ahead by the margin. -/
def Rival (u : AntennaUnit) (b : Fin 4) : Prop :=
  u.antennas[b].present = true ∧ b ≠ u.current ∧ u.antennas[u.current].score + u.record.margin ≤ u.antennas[b].score

theorem rival_iff (u : AntennaUnit) (b : Fin 4) :
    (u.antennas[b].present && b != u.current &&
      decide (u.antennas[u.current].score + u.record.margin ≤ u.antennas[b].score)) = true ↔ Rival u b := by
  rw [Bool.and_eq_true, Bool.and_eq_true, bne_iff_ne, decide_eq_true_eq, and_assoc]
  rfl

theorem switchTarget_eq_some {u : AntennaUnit} {b : Fin 4} (hb : Rival u b)
    (hbest : ∀ d, Rival u d → d = b ∨ Better u b d) : switchTarget u = some b :=
  (bestOf_eq_some_iff u _ b).mpr ⟨(rival_iff u b).mpr hb, fun d hd => hbest d ((rival_iff u d).mp hd)⟩

theorem switchTarget_eq_none {u : AntennaUnit} (h : ∀ b, ¬ Rival u b) : switchTarget u = none :=
  (bestOf_eq_none_iff u _).mpr fun b => by
    rw [← Bool.not_eq_true, rival_iff]
    exact h b

theorem testSwitch_switches {u : AntennaUnit} {b : Fin 4} (h : switchTarget u = some b) (hb : b ≠ u.current) :
    u.testSwitch = { u with current := b, alert := none, fade := some ⟨.antenna u.current, b, 0⟩ } := by
  rw [AntennaUnit.testSwitch, h]
  exact if_neg hb

theorem testSwitch_waits {u : AntennaUnit} (h : switchTarget u = none) :
    u.testSwitch = { u with alert := some u.record.dwell } := by
  rw [AntennaUnit.testSwitch, h]

theorem dwellDue_eq_true {u : AntennaUnit} {n : Nat} (hm : u.mode = .switched)
    (hp : u.antennas[u.current].present = true) (ha : u.alert = some n) (hn : n ≤ 1)
    (hs : u.antennas[u.current].score < u.record.switchLevel + u.record.hysteresis) : dwellDue u = true := by
  rw [dwellDue, hm, hp, ha, decide_eq_true hs]
  exact decide_eq_true hn

theorem dwellDue_eq_false {u : AntennaUnit} (h : u.mode ≠ .switched ∨ u.alert = none ∨ ∃ n, u.alert = some n ∧ 1 < n) :
    dwellDue u = false := by
  rw [dwellDue]
  rcases h with h | h | ⟨n, h, hn⟩
  · rw [beq_eq_false_iff_ne.mpr h]
    rfl
  · rw [h]
    exact Bool.and_false _
  · rw [h, Option.any_some, decide_eq_false (not_le.mpr hn), Bool.and_false]

/-! ## The replacement of a pair's weaker member (R143) -/

/-- A challenger that leads the weaker member by the pair margin. -/
def Challenges (u : AntennaUnit) (x w : Fin 4) : Prop :=
  u.antennas[x].present = true ∧ u.antennas[w].score + u.record.pairMargin ≤ u.antennas[x].score

/-- A challenger whose count, raised by one, reaches pair dwell. -/
def Ripe (u : AntennaUnit) (x w : Fin 4) : Prop := Challenges u x w ∧ u.record.pairDwell ≤ incSat (u.challenge[x])

/-- A pair of two PRESENT members in order stays as it is before the counts are looked at. -/
theorem settledPair_eq {u : AntennaUnit} {a w : Fin 4} (hpair : u.pair = [a, w]) (hfirst : Better u a w)
    (ha : u.antennas[a].present = true) (hw : u.antennas[w].present = true) : settledPair u = [a, w] := by
  have hfilter : u.pair.filter (fun x => u.antennas[x].present) = [a, w] := by
    rw [hpair, List.filter_eq_self]
    intro x hx
    rcases List.mem_pair.mp hx with rfl | rfl
    · exact ha
    · exact hw
  have hjoin : joinBest u [a, w] = [a, w] := if_neg (by simp)
  rw [settledPair, hfilter, hjoin, hjoin]
  exact if_neg (by rw [leads_iff]; exact hfirst.asymm)

theorem challengeCount_eq (u : AntennaUnit) (a w x : Fin 4) :
    challengeCount u [a, w] x =
      if u.antennas[x].present = true ∧ x ∉ [a, w] ∧ u.antennas[w].score + u.record.pairMargin ≤ u.antennas[x].score then
        incSat u.challenge[x] else 0 := rfl

theorem challengeCount_raised {u : AntennaUnit} {a w x : Fin 4} (hxa : x ≠ a) (hxw : x ≠ w) (h : Challenges u x w) :
    challengeCount u [a, w] x = incSat u.challenge[x] := by
  obtain ⟨hp, hs⟩ := h
  exact if_pos ⟨hp, by simp [hxa, hxw], hs⟩

theorem challengeCount_cleared {u : AntennaUnit} {a w x : Fin 4} (h : x = a ∨ x = w ∨ ¬ Challenges u x w) :
    challengeCount u [a, w] x = 0 := by
  refine if_neg fun ⟨hp, hout, hs⟩ => ?_
  obtain ⟨hxa, hxw⟩ : x ≠ a ∧ x ≠ w := by simpa using hout
  exact (h.resolve_left hxa).resolve_left hxw ⟨hp, hs⟩

/-- The counts of an evaluation. -/
def pairCounts (u : AntennaUnit) (a w : Fin 4) : Vector Nat 4 := Vector.ofFn fun x => challengeCount u [a, w] x

theorem pairCounts_get (u : AntennaUnit) (a w x : Fin 4) : (pairCounts u a w)[x] = challengeCount u [a, w] x := by
  simp [pairCounts]

/-- The candidates for the weaker member's place are the ripe ones. -/
theorem candidate_iff {u : AntennaUnit} {a w : Fin 4} (hone : 1 ≤ u.record.pairDwell) (x : Fin 4) :
    (u.antennas[x].present && !([a, w] : List (Fin 4)).contains x &&
      decide (u.record.pairDwell ≤ (pairCounts u a w)[x])) = true ↔ x ≠ a ∧ x ≠ w ∧ Ripe u x w := by
  rw [Bool.and_eq_true, Bool.and_eq_true, decide_eq_true_eq, pairCounts_get]
  constructor
  · rintro ⟨⟨hp, hout⟩, hcount⟩
    obtain ⟨hxa, hxw⟩ : x ≠ a ∧ x ≠ w := by simpa using hout
    have hc : Challenges u x w := by
      by_contra hno
      rw [challengeCount_cleared (.inr (.inr hno))] at hcount
      omega
    rw [challengeCount_raised hxa hxw hc] at hcount
    exact ⟨hxa, hxw, hc, hcount⟩
  · rintro ⟨hxa, hxw, hc, hcount⟩
    rw [challengeCount_raised hxa hxw hc]
    exact ⟨⟨hc.1, by simp [hxa, hxw]⟩, hcount⟩

theorem replacement_eq_some {u : AntennaUnit} {a w x : Fin 4} (hone : 1 ≤ u.record.pairDwell) (hxa : x ≠ a) (hxw : x ≠ w)
    (hx : Ripe u x w) (hbest : ∀ y, y ≠ a → y ≠ w → y ≠ x → Ripe u y w → Better u x y) :
    replacement u [a, w] (pairCounts u a w) = some x := by
  refine (bestOf_eq_some_iff u _ x).mpr ⟨(candidate_iff hone x).mpr ⟨hxa, hxw, hx⟩, fun y hy => ?_⟩
  obtain ⟨hya, hyw, hripe⟩ := (candidate_iff hone y).mp hy
  by_cases hyx : y = x
  · exact .inl hyx
  · exact .inr (hbest y hya hyw hyx hripe)

theorem replacement_eq_none {u : AntennaUnit} {a w : Fin 4} (hone : 1 ≤ u.record.pairDwell)
    (h : ∀ x, x ≠ a → x ≠ w → ¬ Ripe u x w) : replacement u [a, w] (pairCounts u a w) = none := by
  refine (bestOf_eq_none_iff u _).mpr fun x => ?_
  rw [← Bool.not_eq_true, candidate_iff hone]
  exact fun ⟨hxa, hxw, hripe⟩ => h x hxa hxw hripe

/-- The antenna unit once x has taken the place of w beside a, before the weights follow. -/
def replaced (u : AntennaUnit) (a w x : Fin 4) : AntennaUnit :=
  { u with pair := ordered u [a, x], challenge := ((pairCounts u a w).set x 0).set w 0 }

theorem replaced_challenge (u : AntennaUnit) (a w x y : Fin 4) :
    (replaced u a w x).align.challenge[y] = if y = w then 0 else if y = x then 0 else challengeCount u [a, w] y := by
  have hkept : (replaced u a w x).align.challenge = ((pairCounts u a w).set x 0).set w 0 :=
    congrArg AntennaUnit.challenge (align_rest (replaced u a w x))
  rw [hkept, vector_set_fin, vector_set_fin, pairCounts_get]

theorem pairedMove_replaces {u : AntennaUnit} {a w x : Fin 4} (hpair : settledPair u = [a, w])
    (hx : replacement u [a, w] (pairCounts u a w) = some x) : u.pairedMove = replaced u a w x := by
  unfold AntennaUnit.pairedMove
  rw [hpair]
  dsimp only
  rw [show replacement u [a, w] (Vector.ofFn fun x => challengeCount u [a, w] x) = _ from hx]
  rfl

theorem replacementDue_eq (u : AntennaUnit) {a w : Fin 4} (hm : u.mode = .paired) (hpair : settledPair u = [a, w]) :
    replacementDue u = (replacement u [a, w] (pairCounts u a w)).isSome := by
  unfold replacementDue
  rw [hpair, hm]
  rfl

/-- Two different antennas in order. -/
theorem ordered_pair (u : AntennaUnit) {a x : Fin 4} (h : x ≠ a) :
    ∃ m n, ordered u [a, x] = [m, n] ∧ ((m = a ∧ n = x) ∨ (m = x ∧ n = a)) ∧ Better u m n := by
  by_cases hl : Better u x a
  · exact ⟨x, a, if_pos ((leads_iff u x a).mpr hl), .inr ⟨rfl, rfl⟩, hl⟩
  · refine ⟨a, x, if_neg (by rw [leads_iff]; exact hl), .inl ⟨rfl, rfl⟩, ?_⟩
    have hval : x.val ≠ a.val := Fin.val_ne_of_ne h
    unfold Better at *
    omega

/-- Settles O43: the switch test at the dwell's end, and the replacement of the weaker member. -/
theorem antennaEvents : Obligations.AntennaEvents := by
  refine ⟨fun s ha hpath => ?_, fun s ha hpath => ?_⟩
  · intro u c rival
    refine ⟨fun n hm hp hn hle hs => ?_, fun h => congrArg Host.Outcome.next (eventStep_idle (.inr (dwellDue_eq_false h)))⟩
    have hdue := dwellDue_eq_true hm hp hn hle hs
    refine ⟨fun b hb hbest => ?_, fun hno => ?_⟩
    · have htarget : switchTarget u = some b := switchTarget_eq_some hb fun d hd => by
        by_cases hdb : d = b
        · exact .inl hdb
        · have hval : d.val ≠ b.val := Fin.val_ne_of_ne hdb
          have h := hbest d hd
          unfold Better
          exact .inr (by omega)
      exact congrArg Host.Outcome.next ((eventStep_effect ha hdue hpath).trans
        (congrArg s.setAnt (testSwitch_switches htarget hb.2.1)))
    · exact congrArg Host.Outcome.next ((eventStep_effect ha hdue hpath).trans
        (congrArg s.setAnt (testSwitch_waits (switchTarget_eq_none hno))))
  · intro u first leads ripe
    refine ⟨fun a w x hm hpair hfirst hpa hpw hxa hxw hone hx hbest => ?_, fun hm => ?_,
      fun a w hm hpair hfirst hpa hpw hone hno => ?_⟩
    · have hsettled := settledPair_eq hpair hfirst hpa hpw
      have hreplacement := replacement_eq_some hone hxa hxw hx hbest
      have hdue : replacementDue u = true := by rw [replacementDue_eq u hm hsettled, hreplacement]; rfl
      have hmove : u.pairedMove.align = (replaced u a w x).align :=
        congrArg AntennaUnit.align (pairedMove_replaces hsettled hreplacement)
      obtain ⟨m, n, hordered, hmembers, hbetter⟩ := ordered_pair u hxa
      have hrest := align_rest (replaced u a w x)
      have hpairs : (replaced u a w x).align.pair = [m, n] := (congrArg AntennaUnit.pair hrest :).trans hordered
      have hcount := replaced_challenge u a w x
      refine ⟨(replaced u a w x).align,
        congrArg Host.Outcome.next ((eventStep_effect ha hdue hpath).trans (congrArg s.setAnt hmove)),
        congrArg (fun y : AntennaUnit => { y with
          pair := u.pair, challenge := u.challenge, w1 := u.w1, w2 := u.w2, phase := u.phase }) hrest,
        ⟨m, n, hpairs, hmembers, hbetter, align_two hordered⟩, ?_, ?_, ?_, fun y hya hyw hyx => ⟨fun hy => ?_, fun hy => ?_⟩⟩
      · rw [hcount, if_neg hxw, if_pos rfl]
      · rw [hcount, if_pos rfl]
      · rw [hcount, challengeCount_cleared (.inl rfl), ite_self, ite_self]
      · rw [hcount, if_neg hyw, if_neg hyx, challengeCount_raised hya hyw hy]
        rfl
      · rw [hcount, if_neg hyw, if_neg hyx, challengeCount_cleared (.inr (.inr hy))]
    · refine congrArg Host.Outcome.next (eventStep_idle (.inr ?_))
      show (_ && _ && _) = false
      rw [beq_eq_false_iff_ne.mpr hm]
      rfl
    · refine congrArg Host.Outcome.next (eventStep_idle (.inr ?_))
      rw [show replacementDue s.ant = _ from replacementDue_eq u hm (settledPair_eq hpair hfirst hpa hpw),
        replacement_eq_none hone hno]
      rfl

end Sys2Proof.Machine


namespace Sys2Proof.Machine

/-! ## The combined sample (R142, R144) -/

/-- The scale of the cosine table. -/
theorem cosineQuarter_zero : cosineQuarter 0 = 2 ^ 480 := by
  rw [show (2 : Int) ^ 480 = 2 ^ 240 * 2 ^ 240 from by rw [← pow_add]]
  norm_num [cosineQuarter]

theorem roundTurn_scaled (x : Int) : roundTurn (x * 2 ^ 480) = x := by
  have hhalf : (2 : Int) ^ 479 / 2 ^ 480 = 0 :=
    Int.ediv_eq_zero_of_lt (pow_nonneg (by decide) _) (pow_lt_pow_right₀ (by decide) (by decide))
  unfold roundTurn
  rw [Int.add_comm, Int.add_mul_ediv_right _ _ (pow_ne_zero _ (by decide)), hhalf, Int.zero_add]

/-- A turn by a quarter is exact. -/
theorem rotate_quarter (k : Fin 64) {c d x y : Int} (hc : cosineAt k.val = c * 2 ^ 480) (hd : sineAt k.val = d * 2 ^ 480) :
    rotate k (x, y) = (x * c - y * d, x * d + y * c) := by
  have h1 : x * cosineAt k.val - y * sineAt k.val = (x * c - y * d) * 2 ^ 480 := by
    rw [hc, hd, sub_mul, mul_assoc, mul_assoc]
  have h2 : x * sineAt k.val + y * cosineAt k.val = (x * d + y * c) * 2 ^ 480 := by
    rw [hc, hd, add_mul, mul_assoc, mul_assoc]
  unfold rotate
  dsimp only
  rw [h1, h2, roundTurn_scaled, roundTurn_scaled]

theorem rotate_quarters (x y : Int) :
    rotate 0 (x, y) = (x, y) ∧ rotate 16 (x, y) = (-y, x) ∧ rotate 32 (x, y) = (-x, -y) ∧ rotate 48 (x, y) = (y, -x) := by
  have hone : cosineQuarter 0 = 1 * 2 ^ 480 := by rw [cosineQuarter_zero, one_mul]
  have hminus : -cosineQuarter 0 = -1 * 2 ^ 480 := by rw [cosineQuarter_zero, neg_one_mul]
  have hzero : cosineQuarter 16 = 0 * 2 ^ 480 := (zero_mul _).symm
  have hminusZero : -cosineQuarter 16 = 0 * 2 ^ 480 := (zero_mul _).symm
  refine ⟨?_, ?_, ?_, ?_⟩
  · rw [rotate_quarter 0 hone hminusZero]
    simp
  · rw [rotate_quarter 16 hzero hone]
    simp
  · rw [rotate_quarter 32 hminus hzero]
    simp
  · rw [rotate_quarter 48 hminusZero hminus]
    simp

theorem firstWeight_floor {q1 q2 : Nat} (h : q1 + q2 ≠ 0) :
    (firstWeight q1 q2 : Int) = ⌊256 * (q1 : ℚ) / (q1 + q2) + 1 / 2⌋ := by
  have hpos : ((q1 : ℚ) + q2) ≠ 0 := by exact_mod_cast h
  have hratio : 256 * (q1 : ℚ) / (q1 + q2) + 1 / 2 =
      ((512 * q1 + (q1 + q2) : ℤ) : ℚ) / ((2 * (q1 + q2) : ℕ) : ℚ) := by
    push_cast
    field_simp
    ring
  rw [hratio, Rat.floor_intCast_div_natCast, firstWeight, if_neg h]
  push_cast
  rfl

/-- The held correlation of a pair, and its conjugate for the pair turned round. -/
theorem correlationOf_pair (u : AntennaUnit) (k : Fin 6) {a b : Fin 4} (h : corrPairs[k] = (a, b)) :
    correlationOf u a b = u.corrHeld[k] ∧ correlationOf u b a = (u.corrHeld[k].1, -u.corrHeld[k].2) := by
  match k with
  | 0 | 1 | 2 | 3 | 4 | 5 =>
    cases h
    exact ⟨rfl, rfl⟩

/-! ## The phase direction (R144) -/

open Real

/-- A correlation in polar form. -/
structure Polar (z : Complex24) (r θ : ℝ) : Prop where
  pos : 0 < r
  low : 0 ≤ θ
  high : θ < 2 * π
  re : (z.1 : ℝ) = r * cos θ
  im : (z.2 : ℝ) = r * sin θ

/-- The half plane an angle lies in, read off the components' signs. -/
theorem lowerHalf_iff {z : Complex24} {r θ : ℝ} (h : Polar z r θ) : lowerHalf z = true ↔ π ≤ θ := by
  obtain ⟨hr, hlow, hhigh, hre, him⟩ := h
  have hz2 : z.2 < 0 ↔ sin θ < 0 := by
    rw [← Int.cast_lt_zero (R := ℝ), him]
    exact smul_neg_iff_of_pos_left hr
  have hz1 : z.1 < 0 ↔ cos θ < 0 := by
    rw [← Int.cast_lt_zero (R := ℝ), hre]
    exact smul_neg_iff_of_pos_left hr
  have hzero : z.2 = 0 ↔ sin θ = 0 := by
    rw [← Int.cast_eq_zero (α := ℝ), him]
    simp [hr.ne']
  rw [lowerHalf, Bool.or_eq_true, Bool.and_eq_true, decide_eq_true_eq, decide_eq_true_eq, beq_iff_eq, hz2, hz1, hzero]
  constructor
  · intro h
    by_contra hlt
    rw [not_le] at hlt
    have hsin := sin_nonneg_of_nonneg_of_le_pi hlow hlt.le
    rcases h with h | ⟨h, hc⟩
    · linarith
    · have hθ : θ = 0 := by
        by_contra hne
        exact (sin_pos_of_pos_of_lt_pi (lt_of_le_of_ne hlow (Ne.symm hne)) hlt).ne' h
      rw [hθ, cos_zero] at hc
      linarith
  · intro hle
    rcases hle.eq_or_lt with hθ | hlt
    · rw [← hθ, sin_pi, cos_pi]
      exact .inr ⟨rfl, by norm_num⟩
    · left
      have h := sin_pos_of_pos_of_lt_pi (x := θ - π) (by linarith) (by linarith)
      rw [sin_sub_pi] at h
      linarith

/-- Squaring doubles the angle; the half plane tells which turn it is counted in. -/
theorem Polar.square {z : Complex24} {r θ : ℝ} (h : Polar z r θ) :
    Polar (z.1 * z.1 - z.2 * z.2, 2 * z.1 * z.2) (r ^ 2) (2 * θ - if lowerHalf z then 2 * π else 0) := by
  have hhalf := lowerHalf_iff h
  obtain ⟨hr, hlow, hhigh, hre, him⟩ := h
  have hcos : cos (2 * θ - if lowerHalf z then 2 * π else 0) = cos (2 * θ) := by
    split
    · rw [cos_sub_two_pi]
    · rw [sub_zero]
  have hsin : sin (2 * θ - if lowerHalf z then 2 * π else 0) = sin (2 * θ) := by
    split
    · rw [sin_sub_two_pi]
    · rw [sub_zero]
  refine ⟨by positivity, ?_, ?_, ?_, ?_⟩
  · split
    · next hl => linarith [hhalf.mp hl]
    · linarith
  · split
    · linarith
    · next hl => linarith [not_le.mp (mt hhalf.mpr hl)]
  · push_cast
    rw [hcos, hre, him, cos_two_mul']
    ring
  · push_cast
    rw [hsin, hre, him, sin_two_mul]
    ring

/-- The digits count the angle in parts of a turn. -/
theorem angleDigits_spec (n : Nat) {z : Complex24} {r θ : ℝ} (h : Polar z r θ) (acc : Nat) :
    ∃ d : Nat, angleDigits n z acc = acc * 2 ^ n + d ∧ d * (2 * π) ≤ θ * 2 ^ n ∧ θ * 2 ^ n < (d + 1) * (2 * π) := by
  induction n generalizing z r θ acc with
  | zero =>
    exact ⟨0, by simp [angleDigits], by simpa using h.low, by simpa using h.high⟩
  | succ n ih =>
    obtain ⟨d, hd, hle, hlt⟩ := ih h.square (2 * acc + if lowerHalf z then 1 else 0)
    have hpow : θ * 2 ^ (n + 1) = 2 * θ * 2 ^ n := by ring
    have hstep : angleDigits (n + 1) z acc = (2 * acc + if lowerHalf z then 1 else 0) * 2 ^ n + d := by
      rw [angleDigits, hd]
    rw [hpow, hstep]
    cases hl : lowerHalf z with
    | false =>
      rw [hl, if_neg Bool.false_ne_true, sub_zero] at hle hlt
      exact ⟨d, by rw [if_neg Bool.false_ne_true]; ring, hle, hlt⟩
    | true =>
      rw [hl, if_pos rfl, sub_mul] at hle hlt
      refine ⟨2 ^ n + d, by rw [if_pos rfl]; ring, ?_, ?_⟩
      · push_cast
        linarith
      · push_cast
        linarith

/-- Of the 64 directions a turn apart, none lies nearer than one that lies within half a step. -/
theorem cos_add_direction_le {φ : ℝ} (hlow : -(π / 64) ≤ φ) (hhigh : φ ≤ π / 64) (m : ℤ) :
    cos (φ + 2 * π * m / 64) ≤ cos φ := by
  have hm : m = m % 64 + 64 * (m / 64) := (Int.emod_add_mul_ediv m 64).symm
  have hturn : φ + 2 * π * m / 64 = φ + 2 * π * (m % 64 : ℤ) / 64 + (m / 64 : ℤ) * (2 * π) := by
    rw [show (m : ℝ) = (m % 64 : ℤ) + 64 * (m / 64 : ℤ) from by exact_mod_cast hm]
    ring
  rw [hturn, cos_add_int_mul_two_pi]
  have hnonneg : 0 ≤ m % 64 := Int.emod_nonneg m (by decide)
  have hlt : m % 64 < 64 := Int.emod_lt_of_pos m (by decide)
  generalize m % 64 = k at hnonneg hlt
  rcases hnonneg.eq_or_lt with rfl | hpos
  · simp
  have hk1 : (1 : ℝ) ≤ k := by exact_mod_cast hpos
  have hk2 : (k : ℝ) ≤ 63 := by exact_mod_cast Int.lt_add_one_iff.mp hlt
  have hpi := pi_pos
  have hkpi : π ≤ π * k := by nlinarith
  have hkpi' : π * k ≤ π * 63 := by nlinarith
  have hdiff : cos φ - cos (φ + 2 * π * k / 64) = 2 * sin (φ + π * k / 64) * sin (π * k / 64) := by
    rw [cos_sub_cos, show (φ + (φ + 2 * π * k / 64)) / 2 = φ + π * k / 64 from by ring,
      show (φ - (φ + 2 * π * k / 64)) / 2 = -(π * k / 64) from by ring, sin_neg]
    ring
  have hs1 : 0 ≤ sin (φ + π * k / 64) := sin_nonneg_of_nonneg_of_le_pi (by linarith) (by linarith)
  have hs2 : 0 ≤ sin (π * k / 64) := sin_nonneg_of_nonneg_of_le_pi (by linarith) (by linarith)
  have hprod := mul_nonneg (mul_nonneg zero_le_two hs1) hs2
  linarith

/-- A correlation other than 0 in polar form. -/
theorem exists_polar {z : Complex24} (h : z ≠ (0, 0)) : ∃ r θ, Polar z r θ := by
  let w : ℂ := ⟨z.1, z.2⟩
  have hw : w ≠ 0 := fun hz => by
    have hre : (z.1 : ℝ) = 0 := congrArg Complex.re hz
    have him : (z.2 : ℝ) = 0 := congrArg Complex.im hz
    exact h (Prod.ext (by exact_mod_cast hre) (by exact_mod_cast him))
  have hre : (z.1 : ℝ) = ‖w‖ * cos w.arg := (Complex.norm_mul_cos_arg w).symm
  have him : (z.2 : ℝ) = ‖w‖ * sin w.arg := (Complex.norm_mul_sin_arg w).symm
  have hlow := Complex.neg_pi_lt_arg w
  have hhigh := Complex.arg_le_pi w
  by_cases harg : 0 ≤ w.arg
  · exact ⟨‖w‖, w.arg, norm_pos_iff.mpr hw, harg, by linarith [pi_pos], hre, him⟩
  · refine ⟨‖w‖, w.arg + 2 * π, norm_pos_iff.mpr hw, by linarith, by linarith, ?_, ?_⟩
    · rw [cos_add_two_pi, hre]
    · rw [sin_add_two_pi, him]

theorem Polar.ne_zero {z : Complex24} {r θ : ℝ} (h : Polar z r θ) : z ≠ (0, 0) := by
  rintro rfl
  have hcos : cos θ = 0 := (mul_eq_zero.mp (h.re.symm.trans Int.cast_zero)).resolve_left h.pos.ne'
  have hsin : sin θ = 0 := (mul_eq_zero.mp (h.im.symm.trans Int.cast_zero)).resolve_left h.pos.ne'
  have hone := sin_sq_add_cos_sq θ
  rw [hcos, hsin] at hone
  norm_num at hone

/-- The nearest direction lies within half a step of the angle. -/
theorem nearestDirection_near {z : Complex24} {r θ : ℝ} (h : Polar z r θ) :
    ∃ q : ℤ, -(π / 64) ≤ θ - 2 * π * (nearestDirection z).val / 64 - q * (2 * π) ∧
      θ - 2 * π * (nearestDirection z).val / 64 - q * (2 * π) ≤ π / 64 := by
  obtain ⟨d, hd, hle, hlt⟩ := angleDigits_spec 7 h 0
  have hdirection : (nearestDirection z).val = (d + 1) / 2 % 64 := by
    rw [nearestDirection, if_neg h.ne_zero, hd, Nat.zero_mul, Nat.zero_add]
    rfl
  have hturns : (nearestDirection z).val + 64 * ((d + 1) / 2 / 64) = (d + 1) / 2 := by
    rw [hdirection]
    omega
  have hwhole : ((nearestDirection z).val : ℝ) + 64 * ((d + 1) / 2 / 64 : ℕ) = ((d + 1) / 2 : ℕ) := by
    exact_mod_cast hturns
  have hoffset : θ - 2 * π * (nearestDirection z).val / 64 - (((d + 1) / 2 / 64 : ℕ) : ℤ) * (2 * π) =
      θ - 2 * π * ((d + 1) / 2 : ℕ) / 64 := by
    rw [← hwhole, Int.cast_natCast]
    ring
  refine ⟨((d + 1) / 2 / 64 : ℕ), ?_⟩
  rw [hoffset]
  have hup : (d : ℝ) ≤ 2 * ((d + 1) / 2 : ℕ) := by exact_mod_cast (by omega : d ≤ 2 * ((d + 1) / 2))
  have hdown : 2 * (((d + 1) / 2 : ℕ) : ℝ) ≤ d + 1 := by exact_mod_cast (by omega : 2 * ((d + 1) / 2) ≤ d + 1)
  have hupπ := mul_le_mul_of_nonneg_right hup pi_pos.le
  have hdownπ := mul_le_mul_of_nonneg_right hdown pi_pos.le
  constructor <;> linarith

/-- No direction reaches farther along a correlation than the nearest one. -/
theorem reach_le_nearest (z : Complex24) (j : Fin 64) :
    z.1 * cos (2 * π * j.val / 64) + z.2 * sin (2 * π * j.val / 64) ≤
      z.1 * cos (2 * π * (nearestDirection z).val / 64) + z.2 * sin (2 * π * (nearestDirection z).val / 64) := by
  by_cases hz : z = (0, 0)
  · subst hz
    simp
  obtain ⟨r, θ, h⟩ := exists_polar hz
  have hreach (k : Fin 64) : z.1 * cos (2 * π * k.val / 64) + z.2 * sin (2 * π * k.val / 64) =
      r * cos (θ - 2 * π * k.val / 64) := by
    rw [h.re, h.im, cos_sub]
    ring
  obtain ⟨q, hlow, hhigh⟩ := nearestDirection_near h
  have hbest := cos_add_direction_le hlow hhigh ((nearestDirection z).val - j.val + 64 * q)
  rw [cos_sub_int_mul_two_pi] at hbest
  have hangle : θ - 2 * π * (nearestDirection z).val / 64 - q * (2 * π) +
      2 * π * ((nearestDirection z).val - j.val + 64 * q : ℤ) / 64 = θ - 2 * π * j.val / 64 := by
    push_cast
    ring
  rw [hangle] at hbest
  rw [hreach, hreach]
  exact mul_le_mul_of_nonneg_left hbest h.pos.le

/-! ## The end of a switch crossfade (R142, R146) -/

theorem switchFadeDue_iff (u : AntennaUnit) : switchFadeDue u = true ↔ ∃ f, u.fade = some f ∧ 63 ≤ f.count := by
  rw [switchFadeDue, Option.any_eq_true]
  simp only [decide_eq_true_eq]

theorem endSwitchFade_path (s : State) :
    (endSwitchFade postNotice s).uplink.pathRaised = s.uplink.pathRaised := by
  obtain ⟨-, -, -, -, -, -, -, huplink, -, -⟩ := endSwitchFade_frame s
  rw [huplink]

/-- Settles O44: the end of a crossfade, the combined sample, and the weights and directions of a pair. -/
theorem switchCrossfadeEnd : Obligations.SwitchCrossfadeEnd := by
  refine ⟨fun s ha hpath => ⟨fun f hf hcount => ?_, fun h => congrArg Host.Outcome.next (eventStep_idle (.inr ?_))⟩,
    fun u z => ?_, rotate_quarters, fun q1 q2 => ⟨fun h => if_pos h, firstWeight_floor⟩,
    fun u k a b h => correlationOf_pair u k h, if_pos rfl, fun z j => reach_le_nearest z j⟩
  · have hne : s.ant.fade ≠ none := by rw [hf]; nofun
    have hexec : exec .switchCrossfadeEnd s = .next (endSwitchFade postNotice s) :=
      congrArg Host.Outcome.next (eventStep_effect ha ((switchFadeDue_iff s.ant).mpr ⟨f, hf, hcount⟩)
        ((endSwitchFade_path s).trans hpath))
    refine ⟨fun hp => ?_, fun m hp => ?_⟩
    · rw [hexec, endSwitchFade_idle hne hp]
    · intro u a
      have hnotice : modeNotice u = _ := modeNotice_of (noticeAntenna_eq u)
      refine ⟨changeMode_mode _ m, ?_⟩
      rw [hexec, endSwitchFade_mode hne hp]
      exact congrArg (fun d => Host.Outcome.next (postNotice d (s.setAnt u))) hnotice
  · rw [← Bool.not_eq_true, switchFadeDue_iff]
    rintro ⟨f, hf, hcount⟩
    exact absurd hcount (not_le.mpr (h f hf))
  · intro sat pair
    have hpair (l : List (Fin 4)) (w1 w2 : Nat) (k : Fin 64) : pairSample l w1 w2 k z = pair l w1 w2 k := by
      match l with
      | [] | [a] | a :: b :: l => rfl
    refine ⟨fun hf hm => ?_, fun hf hm => ?_, fun f hf => ?_⟩
    · rw [combinedSample, hf]
      cases h : u.mode with
      | paired => exact absurd h hm
      | fixed a => rfl
      | switched => rfl
    · rw [combinedSample, hf, hm]
      exact hpair _ _ _ _
    · have ho : outgoingSample f.outgoing z = match f.outgoing with
          | .antenna a => z a
          | .pair l w1 w2 k => pair l w1 w2 k := by
        cases f.outgoing with
        | antenna a => rfl
        | pair l w1 w2 k => exact hpair l w1 w2 k
      rw [combinedSample, hf]
      dsimp only
      rw [ho]
      rfl

end Sys2Proof.Machine


namespace Sys2Proof.Machine

/-! ## How long a tier takes (R116, R117) -/

/-- A tier after the evaluations on some block peaks. -/
def tierAfter (k : TierSetting) (ps : List Nat) (x : Tier) : Tier := ps.foldl (fun t p => t.evaluate k p) x

section
variable {k : TierSetting} (ht : k.time ≠ 0)
include ht

theorem evaluate_clear {p n : Nat} (hp : k.level ≤ p) : (⟨.clear, n⟩ : Tier).evaluate k p = ⟨.alert, k.time⟩ :=
  (if_neg ht).trans (if_pos hp)

theorem evaluate_alert {p n : Nat} (hp : k.level ≤ p) :
    (⟨.alert, n⟩ : Tier).evaluate k p = if n ≤ 1 then ⟨.active, 0⟩ else ⟨.alert, n - 1⟩ :=
  (if_neg ht).trans (if_neg (not_lt.mpr hp))

theorem evaluate_active {p n : Nat} (hp : p < k.recover) :
    (⟨.active, n⟩ : Tier).evaluate k p = ⟨.recovery, k.recoverTime⟩ :=
  (if_neg ht).trans (if_pos hp)

theorem evaluate_recovery {p n : Nat} (hp : p < k.recover) :
    (⟨.recovery, n⟩ : Tier).evaluate k p = if n ≤ 1 then ⟨.clear, 0⟩ else ⟨.recovery, n - 1⟩ :=
  (if_neg ht).trans (if_neg (not_le.mpr hp))

/-- An alert counts its timer down, and trips when it has run out. -/
theorem tierAfter_alert {ps : List Nat} (hps : ∀ p ∈ ps, k.level ≤ p) {n : Nat} (hn : 1 ≤ n) :
    (ps.length < n → tierAfter k ps ⟨.alert, n⟩ = ⟨.alert, n - ps.length⟩) ∧
      (ps.length = n → tierAfter k ps ⟨.alert, n⟩ = ⟨.active, 0⟩) := by
  induction ps generalizing n with
  | nil => exact ⟨fun _ => rfl, fun h => absurd h (by simp only [List.length_nil]; omega)⟩
  | cons p ps ih =>
    have hstep : tierAfter k (p :: ps) ⟨.alert, n⟩ = tierAfter k ps (if n ≤ 1 then ⟨.active, 0⟩ else ⟨.alert, n - 1⟩) :=
      congrArg (tierAfter k ps) (evaluate_alert ht (hps p List.mem_cons_self))
    have hrest := fun q hq => hps q (List.mem_cons_of_mem p hq)
    rw [hstep, List.length_cons]
    by_cases h1 : n ≤ 1
    · refine ⟨fun h => by omega, fun h => ?_⟩
      have hnil : ps = [] := List.length_eq_zero_iff.mp (by omega)
      rw [if_pos h1, hnil]
      rfl
    · obtain ⟨hlt, heq⟩ := ih hrest (n := n - 1) (by omega)
      rw [if_neg h1]
      refine ⟨fun h => (hlt (by omega)).trans ?_, fun h => heq (by omega)⟩
      rw [Nat.sub_sub, Nat.add_comm]

/-- A recovery counts its timer down, and is over when it has run out. -/
theorem tierAfter_recovery {ps : List Nat} (hps : ∀ p ∈ ps, p < k.recover) {n : Nat} (hn : 1 ≤ n) :
    (ps.length < n → tierAfter k ps ⟨.recovery, n⟩ = ⟨.recovery, n - ps.length⟩) ∧
      (ps.length = n → tierAfter k ps ⟨.recovery, n⟩ = ⟨.clear, 0⟩) := by
  induction ps generalizing n with
  | nil => exact ⟨fun _ => rfl, fun h => absurd h (by simp only [List.length_nil]; omega)⟩
  | cons p ps ih =>
    have hstep : tierAfter k (p :: ps) ⟨.recovery, n⟩ =
        tierAfter k ps (if n ≤ 1 then ⟨.clear, 0⟩ else ⟨.recovery, n - 1⟩) :=
      congrArg (tierAfter k ps) (evaluate_recovery ht (hps p List.mem_cons_self))
    have hrest := fun q hq => hps q (List.mem_cons_of_mem p hq)
    rw [hstep, List.length_cons]
    by_cases h1 : n ≤ 1
    · refine ⟨fun h => by omega, fun h => ?_⟩
      have hnil : ps = [] := List.length_eq_zero_iff.mp (by omega)
      rw [if_pos h1, hnil]
      rfl
    · obtain ⟨hlt, heq⟩ := ih hrest (n := n - 1) (by omega)
      rw [if_neg h1]
      refine ⟨fun h => (hlt (by omega)).trans ?_, fun h => heq (by omega)⟩
      rw [Nat.sub_sub, Nat.add_comm]

end

/-- Settles O52: the alert and the recovery, counted from CLEAR and from ACTIVE. -/
theorem tierTimes : Obligations.TierTimes := by
  intro k after
  refine ⟨fun ht ps hps n => ?_, fun ht hr ps hps n => ?_, fun ht p n hp => (if_neg ht).trans (if_pos hp),
    fun ht p n hp => (if_neg ht).trans (if_pos hp), fun ht p x => if_pos ht⟩
  · cases ps with
    | nil => exact ⟨fun h => absurd h (by decide), fun h => absurd h (by simp)⟩
    | cons p ps =>
      have hstep : after (p :: ps) ⟨.clear, n⟩ = tierAfter k ps ⟨.alert, k.time⟩ :=
        congrArg (tierAfter k ps) (evaluate_clear ht (hps p List.mem_cons_self))
      obtain ⟨hlt, heq⟩ := tierAfter_alert ht (fun q hq => hps q (List.mem_cons_of_mem p hq)) (n := k.time) (by omega)
      rw [hstep, List.length_cons, Nat.add_sub_add_right]
      exact ⟨fun _ h => hlt (by omega), fun h => heq (by omega)⟩
  · cases ps with
    | nil => exact ⟨fun h => absurd h (by decide), fun h => absurd h (by simp)⟩
    | cons p ps =>
      have hstep : after (p :: ps) ⟨.active, n⟩ = tierAfter k ps ⟨.recovery, k.recoverTime⟩ :=
        congrArg (tierAfter k ps) (evaluate_active ht (hps p List.mem_cons_self))
      obtain ⟨hlt, heq⟩ := tierAfter_recovery ht (fun q hq => hps q (List.mem_cons_of_mem p hq)) hr
      rw [hstep, List.length_cons, Nat.add_sub_add_right]
      exact ⟨fun _ h => hlt (by omega), fun h => heq (by omega)⟩

/-! ## Zone buses (R53 to R56) -/

/-- The sum over the members of a list that meet a condition. -/
theorem sum_filterMap {α β : Type} (l : List α) (p : α → Prop) [DecidablePred p] (g : α → β) (f : β → Int) :
    ((l.filterMap fun i => if p i then some (g i) else none).map f).sum =
      (l.map fun i => if p i then f (g i) else 0).sum := by
  induction l with
  | nil => rfl
  | cons i l ih =>
    by_cases hp : p i
    · simp only [List.filterMap_cons, if_pos hp, List.map_cons, List.sum_cons, ih]
    · simp only [List.filterMap_cons, if_neg hp, List.map_cons, List.sum_cons, ih, Int.zero_add]

/-- One side of the contributions of a zone's routes. -/
def routeSum (s : State) (src : Source → Int × Int) (side : Int × Int → Int) (z : Fin 5) : Int :=
  ∑ i : Fin 32, if s.mix.routes[i].state = .enabled ∧ s.mix.routes[i].zone = z then
    side (applyGainPair (src s.mix.routes[i].source) s.gain.route[i].current) else 0

theorem routeContributions_sum (s : State) (src : Source → Int × Int) (side : Int × Int → Int) (z : Fin 5) :
    ((routeContributions s src z).map side).sum = routeSum s src side z := by
  unfold routeContributions routeSum
  rw [Fin.sum_univ_def]
  exact sum_filterMap _ _ _ _

/-- The source a seat's point carries on its bus (R55, R56). -/
def seatCarried (s : State) (a : Fin 2) : Option Source :=
  if s.mix.zones[seatZone a].seatMode || (releasingOf s.mix a).isSome then seatSource s.mix a else none

theorem seatContributions_eq (s : State) (src : Source → Int × Int) (a : Fin 2) :
    seatContributions s src a = match seatCarried s a with
      | some x => [applyGainPair (src x) s.gain.seat[a].current]
      | none => [] := by
  have hany : (s.mix.claims.any fun c => c.zone == a && c.state == .releasing) = (releasingOf s.mix a).isSome := by
    rw [releasingOf, Bool.eq_iff_iff, List.find?_isSome, List.any_eq_true]
  unfold seatContributions seatCarried
  rw [hany]
  dsimp only
  split
  · rfl
  · rfl

theorem seatCarried_releasing {s : State} {a : Fin 2} {c : Claim} (h : releasingOf s.mix a = some c) :
    seatCarried s a = some c.source := by
  rw [seatCarried, h, Option.isSome_some, Bool.or_true, if_pos rfl, seatSource]
  rw [show s.mix.claims.find? (fun c => c.zone == a && c.state == .releasing) = some c from h]

theorem seatCarried_shared {s : State} {a : Fin 2} (h : releasingOf s.mix a = none)
    (hm : s.mix.zones[seatZone a].seatMode = false) : seatCarried s a = none := by
  rw [seatCarried, h, hm]
  rfl

theorem seatCarried_private {s : State} {a : Fin 2} (h : releasingOf s.mix a = none)
    (hm : s.mix.zones[seatZone a].seatMode = true) :
    seatCarried s a = (s.mix.claims.find? fun d => d.zone == a && d.state == .held).map fun d => d.source := by
  rw [seatCarried, hm, Bool.true_or, if_pos rfl, seatSource]
  rw [show s.mix.claims.find? (fun c => c.zone == a && c.state == .releasing) = none from h]

/-- One side of a zone's bus before it is saturated. -/
theorem contributions_sum_shared {s : State} {src : Source → Int × Int} {z : Fin 5} (hz : seatOf z.val = none)
    (side : Int × Int → Int) : ((contributions s src z).map side).sum =
      routeSum s src side z + side (applyGainPair (src .call) s.gain.feed[z].current) := by
  rw [contributions, hz]
  simp only [List.map_append, List.sum_append, routeContributions_sum, List.map_cons, List.map_nil, List.sum_singleton]

theorem contributions_sum_seat {s : State} {src : Source → Int × Int} {a : Fin 2} (side : Int × Int → Int) :
    ((contributions s src (seatZone a)).map side).sum =
      (if s.mix.zones[seatZone a].seatMode then 0 else routeSum s src side 1) + routeSum s src side (seatZone a) +
        side (applyGainPair (src .call) s.gain.feed[seatZone a].current) +
        match seatCarried s a with
        | some x => side (applyGainPair (src x) s.gain.seat[a].current)
        | none => 0 := by
  rw [contributions, show seatOf (seatZone a).val = some a from seatOf_seat a]
  dsimp only
  rw [seatContributions_eq]
  rw [List.map_append, List.map_append, List.map_append, List.sum_append, List.sum_append, List.sum_append,
    routeContributions_sum]
  have hshared : ((if s.mix.zones[seatZone a].seatMode then [] else routeContributions s src 1).map side).sum =
      if s.mix.zones[seatZone a].seatMode then 0 else routeSum s src side 1 := by
    split
    · rfl
    · exact routeContributions_sum _ _ _ _
  rw [hshared]
  cases seatCarried s a with
  | some x => simp [Int.add_assoc]
  | none => simp [Int.add_assoc]

/-- Settles O54: the shared zones, and the seat zones in every mode and claim state. -/
theorem zoneBuses_sum : Obligations.ZoneBuses := by
  intro s src z routes call
  refine ⟨fun hz => ?_, fun a hz => ?_⟩
  · have hseat : seatOf z.val = none := by
      unfold seatOf
      split
      · omega
      · omega
      · rfl
    rw [zoneBus]
    dsimp only
    rw [contributions_sum_shared hseat, contributions_sum_shared hseat]
    rfl
  · obtain rfl : z = seatZone a := Fin.ext hz
    intro shared own bus
    have hbus : zoneBus s src (seatZone a) = bus (seatCarried s a) := by
      rw [zoneBus]
      rw [contributions_sum_seat, contributions_sum_seat]
      cases seatCarried s a <;> rfl
    refine ⟨fun c hc => ?_, fun hno hm => ?_, fun hno hm hheld => ?_, fun c hno hm hc => ?_⟩
    · rw [hbus, seatCarried_releasing hc]
    · rw [hbus, seatCarried_shared hno hm]
    · have hnone : (s.mix.claims.find? fun d => d.zone == a && d.state == .held) = none := by
        rw [List.find?_eq_none]
        intro d hd
        simpa using hheld d hd
      rw [hbus, seatCarried_private hno hm, hnone]
      rfl
    · rw [hbus, seatCarried_private hno hm, hc]
      rfl

end Sys2Proof.Machine


namespace Sys2Proof.Machine

/-! ## Levels as they stand for a channel (R113) -/

theorem derated_iff (s : State) (c : Fin 28) : derated s c = true ↔
    ∃ a, s.chan.channels[c].record.amp = some a ∧ s.prot.amps[a].status = true ∧
      (s.prot.amps[a].limit : Int) - (classOf s c).derateBand ≤ s.prot.amps[a].temperature := by
  unfold derated statusAmp
  cases hamp : s.chan.channels[c].record.amp with
  | none => exact ⟨nofun, fun ⟨a, h, _⟩ => nomatch h⟩
  | some a =>
    dsimp only
    cases hst : s.prot.amps[a].status with
    | false =>
      refine ⟨nofun, ?_⟩
      rintro ⟨b, ⟨⟩, h, -⟩
      rw [hst] at h
      cases h
    | true =>
      refine ⟨fun h => ⟨a, rfl, hst, of_decide_eq_true h⟩, ?_⟩
      rintro ⟨b, ⟨⟩, -, h⟩
      exact decide_eq_true h

theorem effective_le_iff (hot : Bool) (level factor p : Nat) : effective level factor hot ≤ p ↔
    (¬hot = true → level ≤ p) ∧ (hot = true → level - level * factor / 256 ≤ p) := by
  cases hot <;> simp [effective]

theorem lt_effective_iff (hot : Bool) (level factor p : Nat) : p < effective level factor hot ↔
    (¬hot = true → p < level) ∧ (hot = true → p < level - level * factor / 256) := by
  cases hot <;> simp [effective]

/-! ## What an evaluation does to a tier (R116 to R118) -/

theorem Tier.reduces_eq (x : Tier) : x.reduces = (x.state == .active || x.state == .recovery) := by
  unfold Tier.reduces
  cases x.state <;> rfl

theorem Tier.reduces_iff (x : Tier) : x.reduces = true ↔ x.state = .active ∨ x.state = .recovery := by
  simp [Tier.reduces_eq]

theorem tripped_self (x : Tier) : tripped x x = false := by
  unfold tripped
  cases x.state <;> rfl

theorem leftActive_self (x : Tier) : leftActive x x = false := Bool.and_not_self _

theorem tripped_iff (x y : Tier) : tripped x y = true ↔ x.state = .alert ∧ y.state = .active := by
  simp [tripped]

/-- A trip is the last evaluation of an alert. -/
theorem tripped_evaluate_iff (x : Tier) (k : TierSetting) (p : Nat) : tripped x (x.evaluate k p) = true ↔
    k.time ≠ 0 ∧ x.state = .alert ∧ x.timer ≤ 1 ∧ k.level ≤ p := by
  rw [tripped_iff]
  unfold Tier.evaluate
  by_cases ht : k.time = 0
  · simp [ht]
  · rw [if_neg ht]
    cases hx : x.state with
    | clear | active | recovery => simp
    | alert =>
      by_cases hp : p < k.level
      · simp [hp]
      · by_cases hn : x.timer ≤ 1 <;> simp [hp, hn, ht]; omega

/-- A tier that begins in CLEAR does not trip. -/
theorem evaluate_clear_state (k : TierSetting) (p n : Nat) : ((⟨.clear, n⟩ : Tier).evaluate k p).state ≠ .active := by
  unfold Tier.evaluate
  by_cases ht : k.time = 0
  · simp [ht]
  · rw [if_neg ht]
    by_cases hp : k.level ≤ p <;> simp [hp]

theorem evaluatedTier_of_restart {s : State} {c : Fin 28} {t : TierNo} (h : s.prot.records[c].restart t = true) :
    evaluatedTier s c t = (⟨.clear, 0⟩ : Tier).evaluate (tierSetting s c t) s.chan.channels[c].peak := by
  rw [evaluatedTier, ProtectRecord.tierBefore, if_pos h]

theorem evaluatedTier_of_not_restart {s : State} {c : Fin 28} {t : TierNo}
    (h : s.prot.records[c].restart t = false) : evaluatedTier s c t =
      (s.prot.records[c].tier t).evaluate (tierSetting s c t) s.chan.channels[c].peak := by
  rw [evaluatedTier, ProtectRecord.tierBefore, h, if_neg Bool.false_ne_true]

theorem tripDue_iff (s : State) (c : Fin 28) (t : TierNo) : tripDue s c t = true ↔
    s.chan.channels[c].record.zone ≠ none ∧ (tierSetting s c t).time ≠ 0 ∧ s.prot.records[c].restart t = false ∧
      (s.prot.records[c].tier t).state = .alert ∧ (s.prot.records[c].tier t).timer ≤ 1 ∧
      (tierSetting s c t).level ≤ s.chan.channels[c].peak := by
  rw [tripDue, Bool.and_eq_true, enabled, Option.isSome_iff_ne_none]
  cases hr : s.prot.records[c].restart t with
  | false => simp [evaluatedTier_of_not_restart hr, tripped_evaluate_iff]
  | true => simp [evaluatedTier_of_restart hr, tripped_iff, evaluate_clear_state]

/-- The tier a trip leaves. -/
theorem evaluatedTier_of_tripDue {s : State} {c : Fin 28} {t : TierNo} (h : tripDue s c t = true) :
    evaluatedTier s c t = ⟨.active, 0⟩ := by
  obtain ⟨-, htime, hre, hstate, htimer, hlevel⟩ := (tripDue_iff s c t).mp h
  rw [evaluatedTier_of_not_restart hre, Tier.evaluate, if_neg htime, hstate]
  exact (if_neg (not_lt.mpr hlevel)).trans (if_pos htimer)

/-- A tier of time 0, or one that ends its recovery, is CLEAR after an evaluation. -/
theorem evaluatedTier_cleared {s : State} {c : Fin 28} {t : TierNo}
    (h : (tierSetting s c t).time = 0 ∨ (s.prot.records[c].restart t = false ∧
      (s.prot.records[c].tier t).state = .recovery ∧ (s.prot.records[c].tier t).timer ≤ 1 ∧
      s.chan.channels[c].peak < (tierSetting s c t).recover)) : evaluatedTier s c t = ⟨.clear, 0⟩ := by
  by_cases htime : (tierSetting s c t).time = 0
  · exact if_pos htime
  · obtain ⟨hre, hstate, htimer, hpeak⟩ := h.resolve_left htime
    rw [evaluatedTier_of_not_restart hre, Tier.evaluate, if_neg htime, hstate]
    exact (if_neg (not_le.mpr hpeak)).trans (if_pos htimer)

/-- A tier whose time is nonzero again begins in CLEAR. -/
theorem evaluatedTier_restarted {s : State} {c : Fin 28} {t : TierNo} (htime : (tierSetting s c t).time ≠ 0)
    (hre : s.prot.records[c].restart t = true) : evaluatedTier s c t =
      if (tierSetting s c t).level ≤ s.chan.channels[c].peak then ⟨.alert, (tierSetting s c t).time⟩
      else ⟨.clear, 0⟩ :=
  (evaluatedTier_of_restart hre).trans (if_neg htime)

/-! ## A record moves: the reduction, the notices, the path-change event (R120 to R123) -/

theorem postNotices_raisePath (ds : List NoticeDetail) (s : State) :
    postNotices ds (raisePath s) = raisePath (postNotices ds s) := by
  induction ds generalizing s with
  | nil => rfl
  | cons d ds ih => exact ih (postNotice d s)

theorem postNotices_path (ds : List NoticeDetail) (s : State) :
    (postNotices ds s).uplink.pathRaised = s.uplink.pathRaised := by
  induction ds generalizing s with
  | nil => rfl
  | cons d ds ih => exact ih (postNotice d s)

/-- A channel's record replaced, the notices posted, and the path-change event of a changed reduction. -/
def protectionPut (c : Fin 28) (x : ProtectRecord) (notes : List NoticeDetail) (s : State) : State :=
  let t := postNotices notes (s.setProt { s.prot with records := s.prot.records.set c x })
  if x.reduction = s.prot.records[c].reduction then t else pathEffect t

theorem takePath_moveProtection {s : State} (hpath : s.uplink.pathRaised = false) (c : Fin 28) (t1 t2 : Tier)
    (fast : Bool × Nat) : takePath (moveProtection c t1 t2 fast s) =
      protectionPut c (afterMoves (classOf s c) s.prot.count s.prot.records[c] t1 t2 fast)
        (protectNotices c s.prot.records[c] (afterMoves (classOf s c) s.prot.count s.prot.records[c] t1 t2 fast)) s := by
  unfold moveProtection setProtection protectionPut
  dsimp only
  by_cases hred : (afterMoves (classOf s c) s.prot.count s.prot.records[c] t1 t2 fast).reduction =
      s.prot.records[c].reduction
  · rw [if_pos hred, if_pos hred.symm]
    exact takePath_idle ((postNotices_path _ _).trans hpath)
  · rw [if_neg hred, if_neg (Ne.symm hred), postNotices_raisePath]
    exact takePath_raised ((postNotices_path _ _).trans hpath)

/-- Without a tier-2 trip the history and the latch stay. -/
theorem afterMoves_of_not_tripped {r : ProtectRecord} {t2 : Tier} (h : tripped r.tier2 t2 = false) (k : ProtectClass)
    (n : BitVec 32) (t1 : Tier) (fast : Bool × Nat) : afterMoves k n r t1 t2 fast =
      { r with
        tier1 := t1, tier2 := t2, fastHold := fast.1, fastTimer := fast.2
        reduction := reductionOf k { r with tier1 := t1, tier2 := t2, fastHold := fast.1, fastTimer := fast.2 } } := by
  unfold afterMoves reductionOf
  rw [h]
  simp

section
variable {s : State} (ha : s.active = true) (hpath : s.uplink.pathRaised = false) (c : Fin 28)
include ha hpath

/-- An event that moves tier 1 alone. -/
theorem eventStep_moveTier_one {due : Bool} {x : Tier} (hd : due = true) (hx : evaluatedTier s c .one = x) :
    eventStep due (moveTier c .one) s = protectionPut c
      { s.prot.records[c] with
        tier1 := x
        reduction := reductionOf (classOf s c) { s.prot.records[c] with tier1 := x } }
      ((if tripped s.prot.records[c].tier1 x then [.protect c .tier1Active] else []) ++
        if leftActive s.prot.records[c].tier1 x then [.protect c .tier1Left] else []) s := by
  rw [eventStep_due ha hd]
  refine (takePath_moveProtection hpath c _ _ _).trans ?_
  rw [afterMoves_of_not_tripped (tripped_self _), hx]
  simp [protectNotices, tripped_self, leftActive_self]

/-- An event that takes tier 2 alone out of ACTIVE or RECOVERY. -/
theorem eventStep_moveTier_two {due : Bool} {x : Tier} (hd : due = true) (hx : evaluatedTier s c .two = x)
    (hleft : leftActive s.prot.records[c].tier2 x = true) (hnot : tripped s.prot.records[c].tier2 x = false) :
    eventStep due (moveTier c .two) s = protectionPut c
      { s.prot.records[c] with
        tier2 := x
        reduction := reductionOf (classOf s c) { s.prot.records[c] with tier2 := x } }
      [.protect c .tier2Left] s := by
  rw [eventStep_due ha hd]
  refine (takePath_moveProtection hpath c _ _ _).trans ?_
  rw [hx, afterMoves_of_not_tripped hnot]
  simp [-Fin.getElem_fin, protectNotices, tripped_self, leftActive_self, hleft, hnot]

end

/-- The notices of a tier-2 trip: the trip, and the latch when it closes. -/
theorem protectNotices_of_tripped {old new : ProtectRecord} (h1 : new.tier1 = old.tier1)
    (h2 : tripped old.tier2 new.tier2 = true) (c : Fin 28) : protectNotices c old new =
      .protect c .tier2Active :: if new.latched && !old.latched then [.protect c .latched] else [] := by
  have hnot : leftActive old.tier2 new.tier2 = false := by
    have hactive : new.tier2.reduces = true := (Tier.reduces_iff _).mpr (.inl ((tripped_iff _ _).mp h2).2)
    rw [leftActive, hactive, Bool.not_true, Bool.and_false]
  simp only [protectNotices, h1, tripped_self, leftActive_self, h2, hnot, Bool.and_comm, if_true, Bool.false_eq_true,
    if_false, List.nil_append, List.append_nil, List.cons_append]

theorem recordTrip_eq (trips : List (BitVec 32)) (n : BitVec 32) (window : Nat) : recordTrip trips n window =
    (if 15 ≤ (trips.dropWhile fun t => decide (window ≤ (n - t).toNat)).length then
      (trips.dropWhile fun t => decide (window ≤ (n - t).toNat)).drop 1
    else trips.dropWhile fun t => decide (window ≤ (n - t).toNat)) ++ [n] := by
  rw [recordTrip, List.drop_one]

/-- A hold with more of its timer left goes on. -/
theorem fastEvaluate_holds {timer : Nat} (h : ¬timer ≤ 1) (marked : Bool) (n : Nat) :
    (fastEvaluate marked true timer n).1 = true := by
  cases marked with
  | true => rfl
  | false => rw [fastEvaluate, if_neg Bool.false_ne_true, if_pos rfl, if_neg h]

theorem exec_tierTrip (c : Fin 28) (t : TierNo) (s : State) :
    exec (.tierTrip c t) s = .next (eventStep (tripDue s c t) (moveTier c t) s) := rfl

theorem exec_tierRecovered (c : Fin 28) (t : TierNo) (s : State) :
    exec (.tierRecovered c t) s = .next (eventStep (recoveryDue s c t) (moveTier c t) s) := rfl

theorem exec_fastHoldExpiry (c : Fin 28) (s : State) :
    exec (.fastHoldExpiry c) s = .next (eventStep (fastDue s c) (moveFast c) s) := rfl

/-- Settles O41: a trip of either tier, due and not due. -/
theorem tierTrip_holds : Obligations.TierTrip := by
  intro c s ha hpath ch k r hot stands due1 due2 put
  have hstands (level : Nat) : effective level k.derateFactor (derated s c) ≤ ch.peak ↔ stands level := by
    rw [effective_le_iff, derated_iff]
    exact Iff.rfl
  have hdue1 : tripDue s c .one = true ↔ due1 := by
    rw [tripDue_iff]
    exact and_congr_right' (and_congr_right' (and_congr_right' (and_congr_right' (and_congr_right' (hstands _)))))
  have hdue2 : tripDue s c .two = true ↔ due2 := by
    rw [tripDue_iff]
    exact and_congr_right' (and_congr_right' (and_congr_right' (and_congr_right' (and_congr_right' (hstands _)))))
  have hidle {t : TierNo} (h : ¬tripDue s c t = true) : exec (.tierTrip c t) s = .next s := by
    rw [exec_tierTrip, eventStep_idle (.inr (Bool.eq_false_of_not_eq_true h))]
  refine ⟨?_, ?_, fun h => hidle (mt hdue1.mp h),
    fun h => hidle (mt hdue2.mp h)⟩
  · intro hd part red
    have hdue := hdue1.mpr hd
    obtain ⟨-, -, -, halert, -, -⟩ := hd
    rw [exec_tierTrip, eventStep_moveTier_one ha hpath c hdue (evaluatedTier_of_tripDue hdue),
      if_pos ((tripped_iff _ _).mpr ⟨halert, rfl⟩), if_neg (by simp [leftActive, Tier.reduces])]
    have hred : reductionOf (classOf s c) { s.prot.records[c] with tier1 := ⟨.active, 0⟩ } = red := by
      simp only [reductionOf, Bool.or_eq_true, Tier.reduces_iff, or_assoc]
      rfl
    rw [hred]
    rfl
  · intro hd kept trips latched
    have hdue := hdue2.mpr hd
    obtain ⟨-, -, -, halert, -, -⟩ := hd
    have htrip : tripped s.prot.records[c].tier2 ⟨.active, 0⟩ = true := (tripped_iff _ _).mpr ⟨halert, rfl⟩
    have hafter : afterMoves (classOf s c) s.prot.count s.prot.records[c] r.tier1 ⟨.active, 0⟩ (r.fastHold, r.fastTimer)
        = { r with tier2 := ⟨.active, 0⟩, trips := trips, latched := latched, reduction := .mute } := by
      unfold afterMoves
      rw [htrip, recordTrip_eq]
      simp only [if_true, Bool.true_and, reductionOf]
      rfl
    rw [exec_tierTrip, eventStep_due ha hdue]
    refine congrArg Host.Outcome.next ((takePath_moveProtection hpath c _ _ _).trans ?_)
    rw [evaluatedTier_of_tripDue hdue, hafter]
    rw [protectNotices_of_tripped (old := s.prot.records[c]) (new := { r with
      tier2 := ⟨.active, 0⟩, trips := trips, latched := latched, reduction := .mute }) rfl htrip]
    rfl

/-- Settles O42: both tiers on every way to CLEAR or through it, and the fast tier. -/
theorem tierRecoveredFastExpiry : Obligations.TierRecoveredFastExpiry := by
  intro c s ha hpath hzone ch k r hot falls holds red put
  have hfalls (level : Nat) : ch.peak < effective level k.derateFactor (derated s c) ↔ falls level := by
    rw [lt_effective_iff, derated_iff]
    exact Iff.rfl
  have henabled : enabled s c = true := Option.isSome_iff_ne_none.mpr hzone
  have hholds (x : Tier) : x.reduces = holds x := Tier.reduces_eq x
  have hred (x : ProtectRecord) : reductionOf k x = red x := by
    simp only [reductionOf, hholds]
    rfl
  have hrest {t : TierNo} {x : Tier} (hx : evaluatedTier s c t = x) (hh : (r.tier t).reduces = true)
      (hn : x.reduces = false) : recoveryDue s c t = true ∧ leftActive (r.tier t) x = true ∧
        tripped (r.tier t) x = false := by
    have hleft : leftActive (r.tier t) x = true := by rw [leftActive, hh, hn]; rfl
    refine ⟨by rw [recoveryDue, henabled, hx]; exact hleft, hleft, ?_⟩
    rw [← Bool.not_eq_true, tripped_iff]
    rcases (Tier.reduces_iff _).mp hh with h | h <;> simp [h]
  have hone {x : Tier} (hx : evaluatedTier s c .one = x) (hh : holds r.tier1 = true) (hn : x.reduces = false) :
      exec (.tierRecovered c .one) s = .next (put { r with tier1 := x } [.protect c .tier1Left]) := by
    obtain ⟨hdue, hleft, hnot⟩ := hrest hx ((hholds _).trans hh) hn
    rw [exec_tierRecovered, eventStep_moveTier_one ha hpath c hdue hx]
    simp only [show tripped s.prot.records[c].tier1 x = false from hnot,
      show leftActive s.prot.records[c].tier1 x = true from hleft, if_true, Bool.false_eq_true, if_false, List.nil_append]
    rw [show reductionOf (classOf s c) _ = _ from hred _]
    rfl
  have htwo {x : Tier} (hx : evaluatedTier s c .two = x) (hh : holds r.tier2 = true) (hn : x.reduces = false) :
      exec (.tierRecovered c .two) s = .next (put { r with tier2 := x } [.protect c .tier2Left]) := by
    obtain ⟨hdue, hleft, hnot⟩ := hrest hx ((hholds _).trans hh) hn
    rw [exec_tierRecovered, eventStep_moveTier_two ha hpath c hdue hx hleft hnot,
      show reductionOf (classOf s c) _ = _ from hred _]
    rfl
  have hrecovery {x : Tier} (h : x.state = .recovery) : holds x = true := by
    rw [← hholds]
    exact (Tier.reduces_iff x).mpr (.inr h)
  have hlevel {p q : Nat} (h : q < p) : ¬p ≤ q := not_le.mpr h
  refine ⟨fun h => ?_, fun ht hre hh => ⟨fun h => ?_, fun h => ?_⟩, fun h => ?_,
    fun ht hre hh => ⟨fun h => ?_, fun h => ?_⟩, fun hhold htimer hmarks => ?_, fun h => ?_⟩
  · rcases h with ⟨ht, hh⟩ | ⟨-, hre, hst, hti, hf⟩
    · exact hone (evaluatedTier_cleared (.inl ht)) hh rfl
    · exact hone (evaluatedTier_cleared (.inr ⟨hre, hst, hti, (hfalls _).mpr hf⟩)) (hrecovery hst) rfl
  · exact hone ((evaluatedTier_restarted (s := s) (t := .one) ht hre).trans (if_neg (hlevel ((hfalls _).mpr h)))) hh rfl
  · exact hone ((evaluatedTier_restarted (s := s) (t := .one) ht hre).trans (if_pos (not_lt.mp (mt (hfalls _).mp h)))) hh rfl
  · rcases h with ⟨ht, hh⟩ | ⟨-, hre, hst, hti, hf⟩
    · exact htwo (evaluatedTier_cleared (.inl ht)) hh rfl
    · exact htwo (evaluatedTier_cleared (.inr ⟨hre, hst, hti, (hfalls _).mpr hf⟩)) (hrecovery hst) rfl
  · exact htwo ((evaluatedTier_restarted (s := s) (t := .two) ht hre).trans (if_neg (hlevel ((hfalls _).mpr h)))) hh rfl
  · exact htwo ((evaluatedTier_restarted (s := s) (t := .two) ht hre).trans (if_pos (not_lt.mp (mt (hfalls _).mp h)))) hh rfl
  · have hfree : flagged s c = false := by
      unfold flagged statusAmp
      cases hamp : s.chan.channels[c].record.amp with
      | none => rfl
      | some a =>
        dsimp only
        cases hst : s.prot.amps[a].status with
        | false => rfl
        | true =>
          obtain ⟨hover, hclip⟩ := hmarks a hamp hst
          rw [if_pos rfl]
          exact Bool.or_eq_false_iff.mpr ⟨hover, hclip⟩
    have hfast : evaluatedFast s c = (false, 0) := by
      rw [evaluatedFast, hfree, show s.prot.records[c].fastHold = true from hhold]
      exact if_pos htimer
    have hdue : fastDue s c = true := by
      rw [fastDue, henabled, hfast, show s.prot.records[c].fastHold = true from hhold]
      rfl
    rw [exec_fastHoldExpiry, eventStep_due ha hdue]
    refine congrArg Host.Outcome.next ((takePath_moveProtection hpath c _ _ _).trans ?_)
    rw [afterMoves_of_not_tripped (tripped_self _), hfast, show reductionOf (classOf s c) _ = _ from hred _]
    simp only [protectNotices, tripped_self, leftActive_self, Bool.not_and_self]
    rfl
  · have hdue : fastDue s c = false := by
      unfold fastDue evaluatedFast
      cases hhold : s.prot.records[c].fastHold with
      | false => rw [Bool.and_false, Bool.false_and]
      | true =>
        have hlong : ¬s.prot.records[c].fastTimer ≤ 1 :=
          not_le.mpr (h.resolve_left (by rw [show r.fastHold = true from hhold]; nofun))
        dsimp only
        rw [hhold, fastEvaluate_holds hlong, Bool.not_true, Bool.and_false]
    rw [exec_fastHoldExpiry, eventStep_idle (.inr hdue)]

end Sys2Proof.Machine


namespace Sys2Proof.Machine

/-! ## The slot map as a whole (R16) -/

theorem roleAntenna_eq_some_iff {r : Role} {a : Fin 4} :
    roleAntenna r = some a ↔ ∃ n, r = .antI a n ∨ r = .antQ a n := by
  cases r <;> simp [roleAntenna]

theorem roleMedia_eq_some_iff {r : Role} {x : Media} : roleMedia r = some x ↔ r = .srcL x ∨ r = .srcR x := by
  cases r <;> simp [roleMedia]

theorem antennaWhole_eq_false_iff {m : List Role} {a : Fin 4} :
    antennaWhole m a = false ↔ ∃ n, ¬.antI a n ∈ m ∨ ¬.antQ a n ∈ m := by
  rw [← Bool.not_eq_true, antennaWhole, List.all_eq_true]
  simp only [antennaRoles, List.mem_append, List.mem_map, List.mem_finRange, true_and, List.contains_iff_mem]
  constructor
  · intro h
    by_contra hall
    push Not at hall
    refine h ?_
    rintro r (⟨n, rfl⟩ | ⟨n, rfl⟩)
    · exact (hall n).1
    · exact (hall n).2
  · rintro ⟨n, h | h⟩ hall
    · exact h (hall _ (.inl ⟨n, rfl⟩))
    · exact h (hall _ (.inr ⟨n, rfl⟩))

theorem mediaWhole_eq_false_iff {m : List Role} {x : Media} :
    mediaWhole m x = false ↔ ¬.srcL x ∈ m ∨ ¬.srcR x ∈ m := by
  rw [mediaWhole, Bool.and_eq_false_iff, ← Bool.not_eq_true, ← Bool.not_eq_true, List.contains_iff_mem,
    List.contains_iff_mem]

/-- An antenna of which a slot holds a role and some role is in no slot. -/
def AntennaPart (m : List Role) (a : Fin 4) : Prop :=
  (∃ n, .antI a n ∈ m ∨ .antQ a n ∈ m) ∧ ∃ n, ¬.antI a n ∈ m ∨ ¬.antQ a n ∈ m

/-- A stereo source mapped on one side only. -/
def MediaHalf (m : List Role) (x : Media) : Prop := ¬(.srcL x ∈ m ↔ .srcR x ∈ m)

/-- When a slot's role offends, in words about the roles of the whole map and of the slots before it. -/
theorem offends_iff {whole before : List Role} {r : Role} (hr : r ∈ whole) : offends whole before r = true ↔
    (r ≠ .unused ∧ r ∈ before) ∨
    (∃ a, AntennaPart whole a ∧ (∃ n, r = .antI a n ∨ r = .antQ a n) ∧
      ∀ y ∈ before, ∀ n, y ≠ .antI a n ∧ y ≠ .antQ a n) ∨
    ∃ x, MediaHalf whole x ∧ (r = .srcL x ∨ r = .srcR x) ∧ ∀ y ∈ before, y ≠ .srcL x ∧ y ≠ .srcR x := by
  have hantenna : (match roleAntenna r with
      | some a => !antennaWhole whole a && !before.any (fun x => roleAntenna x == some a)
      | none => false) = true ↔ ∃ a, AntennaPart whole a ∧ (∃ n, r = .antI a n ∨ r = .antQ a n) ∧
        ∀ y ∈ before, ∀ n, y ≠ .antI a n ∧ y ≠ .antQ a n := by
    simp only [← roleAntenna_eq_some_iff]
    cases h : roleAntenna r with
    | none => simp
    | some a =>
      obtain ⟨n, hn⟩ := roleAntenna_eq_some_iff.mp h
      have hin : ∃ n, .antI a n ∈ whole ∨ .antQ a n ∈ whole :=
        ⟨n, hn.imp (fun e => by rwa [e] at hr) fun e => by rwa [e] at hr⟩
      have hfirst : (!before.any fun x => roleAntenna x == some a) = true ↔
          ∀ y ∈ before, ∀ n, y ≠ .antI a n ∧ y ≠ .antQ a n := by
        rw [Bool.not_eq_true', List.any_eq_false]
        simp only [beq_iff_eq, roleAntenna_eq_some_iff, not_exists, not_or]
      have hpart : (!antennaWhole whole a) = true ↔ AntennaPart whole a := by
        rw [Bool.not_eq_true', antennaWhole_eq_false_iff]
        exact ⟨fun hno => ⟨hin, hno⟩, fun hp => hp.2⟩
      dsimp only
      rw [Bool.and_eq_true, hfirst, hpart]
      constructor
      · rintro ⟨hp, hb⟩
        exact ⟨a, hp, rfl, hb⟩
      · rintro ⟨b, hp, ⟨⟩, hb⟩
        exact ⟨hp, hb⟩
  have hmedia : (match roleMedia r with
      | some x => !mediaWhole whole x && !before.any (fun y => roleMedia y == some x)
      | none => false) = true ↔ ∃ x, MediaHalf whole x ∧ (r = .srcL x ∨ r = .srcR x) ∧
        ∀ y ∈ before, y ≠ .srcL x ∧ y ≠ .srcR x := by
    simp only [← roleMedia_eq_some_iff]
    cases h : roleMedia r with
    | none => simp
    | some x =>
      have hin : .srcL x ∈ whole ∨ .srcR x ∈ whole :=
        (roleMedia_eq_some_iff.mp h).imp (fun e => by rwa [e] at hr) fun e => by rwa [e] at hr
      have hfirst : (!before.any fun y => roleMedia y == some x) = true ↔
          ∀ y ∈ before, y ≠ .srcL x ∧ y ≠ .srcR x := by
        rw [Bool.not_eq_true', List.any_eq_false]
        simp only [beq_iff_eq, roleMedia_eq_some_iff, not_or]
      have hhalf : (!mediaWhole whole x) = true ↔ MediaHalf whole x := by
        rw [Bool.not_eq_true', mediaWhole_eq_false_iff, MediaHalf]
        tauto
      dsimp only
      rw [Bool.and_eq_true, hfirst, hhalf]
      constructor
      · rintro ⟨hp, hb⟩
        exact ⟨x, hp, rfl, hb⟩
      · rintro ⟨y, hp, ⟨⟩, hb⟩
        exact ⟨hp, hb⟩
  rw [offends, Bool.or_eq_true, Bool.or_eq_true, Bool.and_eq_true, bne_iff_ne, List.contains_iff_mem, or_assoc]
  exact or_congr Iff.rfl (or_congr hantenna hmedia)

/-- The search for the lowest offending slot, by a predicate on slot numbers that says which slots offend. -/
theorem firstOffence_spec {whole : List Role} {P : Nat → Prop} (rest before : List Role) (i : Nat)
    (hP : ∀ k (h : k < rest.length), offends whole ((rest.take k).reverse ++ before) rest[k] = true ↔ P (i + k)) :
    (firstOffence whole before rest i = none ↔ ∀ k < rest.length, ¬P (i + k)) ∧
      ∀ n, firstOffence whole before rest i = some n ↔
        ∃ k < rest.length, n = i + k ∧ P n ∧ ∀ j < k, ¬P (i + j) := by
  induction rest generalizing before i with
  | nil => exact ⟨⟨fun _ k h => absurd h (Nat.not_lt_zero k), fun _ => rfl⟩, fun n =>
      ⟨nofun, fun ⟨k, h, _⟩ => absurd h (Nat.not_lt_zero k)⟩⟩
  | cons r rest ih =>
    have hhead : offends whole before r = true ↔ P i := hP 0 (Nat.zero_lt_succ _)
    rw [firstOffence]
    by_cases ho : offends whole before r = true
    · rw [if_pos ho]
      refine ⟨⟨nofun, fun h => absurd (hhead.mp ho) (h 0 (Nat.zero_lt_succ _))⟩, fun n => ⟨?_, ?_⟩⟩
      · rintro ⟨⟩
        exact ⟨0, Nat.zero_lt_succ _, rfl, hhead.mp ho, fun j hj => absurd hj (Nat.not_lt_zero j)⟩
      · rintro ⟨k, -, rfl, -, hbefore⟩
        cases k with
        | zero => rfl
        | succ k => exact absurd (hhead.mp ho) (hbefore 0 (Nat.zero_lt_succ k))
    · have htail : ∀ k (h : k < rest.length),
          offends whole ((rest.take k).reverse ++ r :: before) rest[k] = true ↔ P (i + 1 + k) := fun k h => by
        have hk := hP (k + 1) (Nat.succ_lt_succ h)
        rw [List.take_succ_cons, List.reverse_cons, List.append_assoc, List.singleton_append, List.getElem_cons_succ]
          at hk
        rw [hk, Nat.add_assoc, Nat.add_comm 1]
      obtain ⟨hnone, hsome⟩ := ih (r :: before) (i + 1) htail
      have hshift (k : Nat) : i + 1 + k = i + (k + 1) := by omega
      rw [if_neg ho]
      refine ⟨hnone.trans ⟨fun h k hk => ?_, fun h k hk => ?_⟩, fun n => (hsome n).trans ⟨?_, ?_⟩⟩
      · cases k with
        | zero => exact fun hp => ho (hhead.mpr hp)
        | succ k => exact hshift k ▸ h k (Nat.lt_of_succ_lt_succ hk)
      · exact hshift k ▸ h (k + 1) (Nat.succ_lt_succ hk)
      · rintro ⟨k, hk, rfl, hp, hbefore⟩
        refine ⟨k + 1, Nat.succ_lt_succ hk, hshift k, hp, fun j hj => ?_⟩
        cases j with
        | zero => exact fun hp => ho (hhead.mpr hp)
        | succ j => exact hshift j ▸ hbefore j (Nat.lt_of_succ_lt_succ hj)
      · rintro ⟨k, hk, rfl, hp, hbefore⟩
        cases k with
        | zero => exact absurd (hhead.mpr hp) ho
        | succ k => exact ⟨k, Nat.lt_of_succ_lt_succ hk, (hshift k).symm, hp, fun j hj =>
            hshift j ▸ hbefore (j + 1) (Nat.succ_lt_succ hj)⟩

/-- The roles of the slots below slot i. -/
theorem mem_take_toList {n : Nat} {m : Vector Role n} {k : Nat} {y : Role} :
    y ∈ m.toList.take k ↔ ∃ j : Fin n, j.val < k ∧ m[j] = y := by
  rw [List.mem_take_iff_getElem]
  simp only [Vector.length_toList, Vector.getElem_toList, lt_min_iff]
  exact ⟨fun ⟨j, ⟨hk, hn⟩, h⟩ => ⟨⟨j, hn⟩, hk, h⟩, fun ⟨j, hk, h⟩ => ⟨j.val, ⟨hk, j.isLt⟩, h⟩⟩

theorem mem_toList_iff {n : Nat} {m : Vector Role n} {y : Role} : y ∈ m.toList ↔ ∃ j : Fin n, m[j] = y := by
  rw [Vector.mem_toList_iff, Vector.mem_iff_getElem]
  exact ⟨fun ⟨j, hj, h⟩ => ⟨⟨j, hj⟩, h⟩, fun ⟨j, h⟩ => ⟨j.val, j.isLt, h⟩⟩

/-- The lowest of the slots that hold what is looked for. -/
theorem exists_lowest {n : Nat} {Q : Fin n → Prop} (h : ∃ i, Q i) : ∃ i, Q i ∧ ∀ j : Fin n, j.val < i.val → ¬Q j := by
  classical
  obtain ⟨i, hi⟩ := h
  refine ⟨Fin.find Q ⟨i, hi⟩, Fin.find_spec _, fun j hj hq => ?_⟩
  exact absurd (Fin.find_le_of_pos _ hq) (not_le.mpr hj)

/-- Settles O19: the search finds the lowest offending slot, and no slot offends in a valid map. -/
theorem slotMapValid : Obligations.SlotMapValid := by
  intro m has half part offending
  have hhas (x : Role) : x ∈ m.toList ↔ has x := mem_toList_iff
  have hpart (a : Fin 4) : AntennaPart m.toList a ↔ part a := by
    simp only [AntennaPart, hhas]
    exact Iff.rfl
  have hhalf (x : Media) : MediaHalf m.toList x ↔ half x := by
    simp only [MediaHalf, hhas]
    exact Iff.rfl
  have hoffends (k : Nat) (h : k < m.toList.length) :
      offends m.toList ((m.toList.take k).reverse ++ []) m.toList[k] = true ↔
        ∃ i : Fin 96, i.val = 0 + k ∧ offending i := by
    have hk : k < 96 := by rwa [Vector.length_toList] at h
    have hat : offending ⟨k, hk⟩ ↔ ∃ i : Fin 96, i.val = 0 + k ∧ offending i := by
      constructor
      · exact fun ho => ⟨⟨k, hk⟩, (Nat.zero_add k).symm, ho⟩
      · rintro ⟨i, hi, ho⟩
        rwa [show (⟨k, hk⟩ : Fin 96) = i from Fin.ext (hi.trans (Nat.zero_add k)).symm]
    rw [← hat, offends_iff (List.getElem_mem h), List.append_nil]
    simp only [hpart, hhalf, List.mem_reverse, mem_take_toList, Vector.getElem_toList, forall_exists_index, and_imp]
    refine or_congr Iff.rfl (or_congr ?_ ?_)
    · exact exists_congr fun a => and_congr_right' (and_congr_right'
        ⟨fun hb j hj => hb _ j hj rfl, fun hb y j hj hy => hy ▸ hb j hj⟩)
    · exact exists_congr fun x => and_congr_right' (and_congr_right'
        ⟨fun hb j hj => hb _ j hj rfl, fun hb y j hj hy => hy ▸ hb j hj⟩)
  obtain ⟨hnone, hsome⟩ := firstOffence_spec (P := fun k => ∃ i : Fin 96, i.val = k ∧ offending i) m.toList [] 0 hoffends
  have hvalid : mapFault m = none ↔ ∀ i, ¬offending i := by
    refine hnone.trans ⟨fun h i ho => ?_, fun h k hk ⟨i, hi, ho⟩ => h i ho⟩
    exact h i.val (by rw [Vector.length_toList]; exact i.isLt) ⟨i, (Nat.zero_add _).symm, ho⟩
  refine ⟨hvalid.trans ⟨fun h => ⟨fun i j heq hused => ?_, fun a hp => ?_, fun x hh => ?_⟩, ?_⟩, fun n => (hsome n).trans ?_⟩
  · rcases lt_trichotomy i.val j.val with hlt | hlt | hlt
    · exact absurd (.inl ⟨heq ▸ hused, i, hlt, heq⟩) (h j)
    · exact Fin.ext hlt
    · exact absurd (.inl ⟨hused, j, hlt, heq.symm⟩) (h i)
  · obtain ⟨i, hi, hlow⟩ := exists_lowest (Q := fun i => ∃ n, m[i] = .antI a n ∨ m[i] = .antQ a n) (by
      obtain ⟨⟨n, ⟨i, hi⟩ | ⟨i, hi⟩⟩, -⟩ := hp
      · exact ⟨i, n, .inl hi⟩
      · exact ⟨i, n, .inr hi⟩)
    refine h i (.inr (.inl ⟨a, hp, hi, fun j hj n => ?_⟩))
    exact not_or.mp (not_exists.mp (hlow j hj) n)
  · obtain ⟨i, hi, hlow⟩ := exists_lowest (Q := fun i => m[i] = .srcL x ∨ m[i] = .srcR x) (by
      by_contra hno
      push Not at hno
      exact hh ⟨fun ⟨i, hi⟩ => absurd hi (hno i).1, fun ⟨i, hi⟩ => absurd hi (hno i).2⟩)
    exact h i (.inr (.inr ⟨x, hh, hi, fun j hj => not_or.mp (hlow j hj)⟩))
  · rintro ⟨honce, hwhole, hboth⟩ i (⟨hused, j, hj, heq⟩ | ⟨a, hp, -⟩ | ⟨x, hh, -⟩)
    · exact absurd (congrArg Fin.val (honce j i heq (heq ▸ hused))) (Nat.ne_of_lt hj)
    · exact hwhole a hp
    · exact hboth x hh
  · constructor
    · rintro ⟨k, -, rfl, ⟨i, hi, ho⟩, hbefore⟩
      exact ⟨i, hi, ho, fun j hj hoj => hbefore j.val (by omega) ⟨j, (Nat.zero_add _).symm, hoj⟩⟩
    · rintro ⟨i, rfl, ho, hbefore⟩
      refine ⟨i.val, by rw [Vector.length_toList]; exact i.isLt, (Nat.zero_add _).symm,
        ⟨i, rfl, ho⟩, fun j hj ⟨l, hl, hol⟩ => hbefore l (by omega) hol⟩

end Sys2Proof.Machine


namespace Sys2Proof.Machine

/-! ## START (R33, R138, R158, R178) -/

/-- The radio unit START leaves (R160). -/
def startedRadio (s : State) : RadioUnit :=
  { s.radio.restart.fair with
    settle := s.ant.record.tuneSettle, softMute := .mute, lastSample := (0, 0), decoder := []
    delay := List.replicate 16 (0, 0), cutLeft := [], cutRight := [], multiplex := [] }

/-- The notices START leaves (R157). -/
def startedNotices (s : State) : List Notice :=
  if s.radio.reception = .fair then s.msg.notices else postTo s.msg.notices (.reception .fair s.radio.frequency)

theorem startRadio_eq (s : State) :
    startRadio s = (s.setRadio (startedRadio s)).setMsg { s.msg with notices := startedNotices s } := by
  unfold startRadio moveRadio startedNotices
  by_cases h : s.radio.reception = .fair
  · rw [if_pos h]
    exact if_pos h.symm
  · rw [if_neg h]
    exact if_neg (Ne.symm h)

/-- The antennas as START finds them. -/
def startedAntennas (s : State) : Vector Antenna 4 :=
  Vector.ofFn fun a => { s.ant.antennas[a] with
    present := antennaMapped s.ring.slotMap a, absence := 0, score := 0 }

theorem startedAntennas_get (s : State) (a : Fin 4) : (startedAntennas s)[a] =
    { s.ant.antennas[a] with present := antennaMapped s.ring.slotMap a, absence := 0, score := 0 } := by
  simp [startedAntennas]

/-- The antenna unit as START finds it, before the selection. -/
def antennasAtStart (s : State) : AntennaUnit :=
  { s.ant with
    antennas := startedAntennas s
    fade := none
    powers := Vector.replicate 4 []
    corrSum := Vector.replicate 6 (0, 0)
    corrHeld := Vector.replicate 6 (0, 0) }

/-- The selection at START changes what the mode selects and nothing else. -/
theorem selectAtStart_rest (u : AntennaUnit) :
    { u.selectAtStart with
      current := u.current, alert := u.alert, pair := u.pair, challenge := u.challenge, w1 := u.w1, w2 := u.w2
      phase := u.phase } = u := by
  unfold AntennaUnit.selectAtStart
  dsimp only
  split <;> rfl

theorem selectAtStart_fixed {u : AntennaUnit} {a : Fin 4} (hm : u.mode = .fixed a)
    (ha : u.antennas[a].present = true) : u.selectAtStart.current = a := by
  rw [AntennaUnit.selectAtStart, hm]
  exact if_pos ha

theorem selectAtStart_switched {u : AntennaUnit} (hm : u.mode = .switched) :
    u.selectAtStart.alert = none ∧
      (u.antennas[u.current].present = true → u.selectAtStart.current = u.current) := by
  rw [AntennaUnit.selectAtStart, hm]
  exact ⟨rfl, fun h => if_pos h⟩

theorem selectAtStart_paired {u : AntennaUnit} (hm : u.mode = .paired) :
    u.selectAtStart.w1 = 128 ∧ u.selectAtStart.w2 = 128 ∧ u.selectAtStart.phase = 0 ∧
      u.selectAtStart.pair = ((List.finRange 4).filter fun a => u.antennas[a].present).take 2 := by
  rw [AntennaUnit.selectAtStart, hm]
  exact ⟨rfl, rfl, rfl, rfl⟩

/-- The uplink unit START leaves (R178, R182, R183, R185, R187). -/
def startedUplink (s : State) : UplinkUnit :=
  let u := s.uplink.rebuild s.call.placement
  { u.nextBlock with
    mics := Vector.replicate 6 (List.replicate 32 0)
    selections := u.selections.set (otherPoint u) []
    filters := zeroFilters
    references := Vector.replicate 10 []
    talk := .quiet
    nearQuiet := 0
    farQuiet := 0
    echo := .off
    converge := 0
    diverge := 0
    out := 0 }

/-- The point that is not live loses its selection, the live one keeps its own. -/
theorem clearOther_selections {x v : UplinkUnit} (hs : x.selections = v.selections.set (otherPoint v) [])
    (hl : x.live = v.live) : x.selections[x.live] = v.selections[v.live] ∧ x.selections[otherPoint x] = [] := by
  have hne : v.live ≠ otherPoint v := by
    rw [otherPoint]
    omega
  have hget (i j : Fin 2) (h : i = j) : x.selections[i] = if j = otherPoint v then [] else v.selections[j] := by
    subst h
    rw [hs, vector_set_fin]
  exact ⟨(hget _ _ hl).trans (if_neg hne), (hget _ _ (by rw [otherPoint, hl, otherPoint])).trans (if_pos rfl)⟩

theorem startedUplink_selections (s : State) :
    (startedUplink s).selections[(startedUplink s).live] = selectionOf s.uplink.beams s.call.placement ∧
      (startedUplink s).selections[otherPoint (startedUplink s)] = [] := by
  obtain ⟨-, -, -, hsel, -⟩ := rebuild_spec s.uplink s.call.placement
  obtain ⟨hlive, hother⟩ := clearOther_selections (x := startedUplink s) (v := s.uplink.rebuild s.call.placement) rfl rfl
  exact ⟨hlive.trans hsel, hother⟩

theorem rebuild_rest (u : UplinkUnit) (p : Fin 4) :
    (u.rebuild p).pathRaised = u.pathRaised ∧ (u.rebuild p).record = u.record ∧ (u.rebuild p).beams = u.beams := by
  rw [rebuild_eq]
  split <;> exact ⟨rfl, rfl, rfl⟩

/-- The amplifiers START leaves (R112). -/
theorem startAmps_get (s : State) (a : Fin 4) : (startAmps s).prot.amps[a] =
    { s.prot.amps[a] with status := (ampSlot s.ring.slotMap a).isSome, overTempMark := false, clipMarks := 0 } := by
  simp [startAmps, Amplifier.clearMarks]

/-- A channel START leaves (R92, R94, R15). -/
theorem startChannels_get (s : State) (c : Fin 28) :
    let x := (startChannels s).chan.channels[c]
    let y := s.chan.channels[c]
    x.peak = 0 ∧ x.out = 0 ∧ x.record = y.record ∧ x.spare = y.spare ∧ x.live.stages = y.live.stages ∧
      x.spareBank = y.spareBank ∧ ∀ i : Fin 8, x.live.history[i] = ⟨0, 0, 0, 0⟩ := by
  intro x y
  have hx : x = { y.setLive y.live.rested with peak := 0, out := 0 } := Vector.getElem_map _ _
  have hlive : x.live = y.live.rested := (congrArg Channel.live hx).trans (Channel.setLive_live y _)
  rw [hlive]
  exact ⟨(congrArg Channel.peak hx :), (congrArg Channel.out hx :),
    (congrArg Channel.record hx).trans (Channel.setLive_record y _),
    (congrArg Channel.spare hx).trans (Channel.setLive_spare y _), rfl,
    (congrArg Channel.spareBank hx).trans (Channel.setLive_spareBank y _), fun i => Vector.getElem_replicate _⟩

/-- What START makes of every unit. -/
theorem enterRun_eq (s : State) : enterRun s = { s with
    gain := { s.gain.mapPoints GainPoint.silenced with startPending := true }
    chan := (startChannels s).chan
    prot := (startAmps s).prot
    ant := (antennasAtStart s).selectAtStart
    radio := startedRadio s
    uplink := startedUplink s
    msg := { s.msg with op := .run, notices := startedNotices s } } := by
  unfold enterRun
  rw [startRadio_eq]
  have hrecord : ((antennasAtStart s).selectAtStart).record = s.ant.record :=
    (congrArg AntennaUnit.record (selectAtStart_rest (antennasAtStart s)) :)
  have hradio : startedRadio (startAntennas (startAmps (startChannels (startPoints (silenceAll (setOp .run s)))))) =
      startedRadio s := by
    show { startedRadio s with settle := ((antennasAtStart s).selectAtStart).record.tuneSettle } = startedRadio s
    rw [hrecord]
    rfl
  rw [hradio]
  rfl

theorem enterRun_phase (s : State) : (enterRun s).msg.resetPhase = s.msg.resetPhase := by rw [enterRun_eq]

/-- Settles O20: an invalid map, and every unit as START leaves it. -/
theorem start_holds : Obligations.Start := by
  refine ⟨fun r s i h hp hfault => ?_, fun r s h hp hfault => ?_⟩
  · refine exec_refused (k := .start) h hp ?_
    rw [handlerOf, handleStart, hfault]
  · have hhandle : handlerOf .start r s = answerOk (enterRun s) := by rw [handlerOf, handleStart, hfault]
    obtain ⟨hraised, hrecord, hbeams⟩ := rebuild_rest s.uplink s.call.placement
    have hpath : (enterRun s).uplink.pathRaised = s.uplink.pathRaised := by
      rw [enterRun_eq]
      exact hraised
    refine ⟨enterRun s, exec_answered (k := .start) h hp hhandle (enterRun_phase s) hpath, ?_⟩
    rw [enterRun_eq]
    have hrest := selectAtStart_rest (antennasAtStart s)
    obtain ⟨hfading, hpending, -, -, -⟩ := rebuild_spec s.uplink s.call.placement
    obtain ⟨hsel, hother⟩ := startedUplink_selections s
    refine ⟨rfl, rfl, rfl, rfl, rfl, rfl, rfl, rfl, rfl, rfl, rfl, rfl, fun c => ?_, fun a => startAmps_get s a, fun a => ?_,
      (congrArg AntennaUnit.mode hrest :), (congrArg AntennaUnit.record hrest :), (congrArg AntennaUnit.penalty hrest :),
      (congrArg AntennaUnit.fade hrest :), (congrArg AntennaUnit.powers hrest :), (congrArg AntennaUnit.corrSum hrest :),
      (congrArg AntennaUnit.corrHeld hrest :), fun a hm ha => selectAtStart_fixed hm ?_,
      fun hm => ?_, fun hm => ?_,
      rfl, rfl, rfl, rfl, rfl, rfl, rfl, rfl, rfl, rfl, rfl, rfl, rfl, rfl, rfl, rfl, rfl, rfl, rfl,
      fun m => ?_, rfl, rfl, rfl, rfl, rfl, rfl, rfl, rfl, rfl, rfl, rfl, rfl, rfl, hfading, hpending, ?_, ?_, hsel, hother⟩
    · exact startChannels_get s c
    · exact (congrArg (fun u : AntennaUnit => u.antennas[a]) hrest :).trans (startedAntennas_get s a)
    · exact (congrArg Antenna.present (startedAntennas_get s a)).trans ha
    · obtain ⟨halert, hcurrent⟩ := selectAtStart_switched (u := antennasAtStart s) hm
      exact ⟨halert, fun ha => hcurrent ((congrArg Antenna.present (startedAntennas_get s s.ant.current)).trans ha)⟩
    · obtain ⟨hw1, hw2, hphase, hpair⟩ := selectAtStart_paired (u := antennasAtStart s) hm
      have hmapped : (fun a => (antennasAtStart s).antennas[a].present) = fun a => antennaMapped s.ring.slotMap a :=
        funext fun a => congrArg Antenna.present (startedAntennas_get s a)
      exact ⟨hw1, hw2, hphase, hpair.trans (by rw [hmapped])⟩
    · exact Vector.getElem_replicate _
    · exact hrecord
    · exact hbeams

end Sys2Proof.Machine


namespace Sys2Proof.Machine

/-! ## The entries of a TABLE WRITE (R38, R39) -/

/-- A payload of whole entries, cut: how many there are and which words each has. -/
theorem entriesOf_spec {n : Nat} (hn : 0 < n) (fuel : Nat) (ws : List Word) (hfuel : ws.length ≤ fuel)
    (hwhole : ws.length % n = 0) :
    (entriesOf n fuel ws).length = ws.length / n ∧
      ∀ i (h : i < (entriesOf n fuel ws).length), (entriesOf n fuel ws)[i] = (ws.drop (n * i)).take n := by
  induction fuel generalizing ws with
  | zero =>
    obtain rfl := List.length_eq_zero_iff.mp (Nat.le_zero.mp hfuel)
    exact ⟨(Nat.zero_div n).symm, fun i h => absurd h (Nat.not_lt_zero i)⟩
  | succ fuel ih =>
    cases hws : ws with
    | nil => exact ⟨(Nat.zero_div n).symm, fun i h => absurd h (Nat.not_lt_zero i)⟩
    | cons w rest =>
      rw [← hws]
      have hpos : 0 < ws.length := by rw [hws]; exact Nat.succ_pos _
      have hle : n ≤ ws.length := Nat.le_of_dvd hpos (Nat.dvd_of_mod_eq_zero hwhole)
      have hcut : entriesOf n (fuel + 1) ws = ws.take n :: entriesOf n fuel (ws.drop n) := by rw [hws]; rfl
      obtain ⟨hlen, hget⟩ := ih (ws.drop n) (by rw [List.length_drop]; omega) (by
        rw [List.length_drop, ← Nat.mod_eq_sub_mod hle]
        exact hwhole)
      rw [hcut]
      refine ⟨by rw [List.length_cons, hlen, List.length_drop, Nat.div_eq_sub_div hn hle], fun i hi => ?_⟩
      cases i with
      | zero => rfl
      | succ i =>
        refine (hget i (Nat.lt_of_succ_lt_succ hi)).trans ?_
        rw [List.drop_drop, Nat.mul_succ, Nat.add_comm]

/-- How the entries of a TABLE WRITE end, `done` of them written before: all are written, the next one stands past the
end, or the next one is structurally wrong. -/
inductive WriteEnds (c : Cursor) (entry : Nat → List Word) (all n : Nat) (u : State) : WriteFault → Prop
  | none : n = all → WriteEnds c entry all n u .none
  | overrun : n < all → cursorEnd c ≤ c.index + n → WriteEnds c entry all n u .overrun
  | wrong : n < all → c.index + n < cursorEnd c → writeEntry c.table (c.index + n) (entry n) u = .none →
      WriteEnds c entry all n u .wrong

theorem writeEntries_spec (c : Cursor) (entry : Nat → List Word) (es : List (List Word)) (done : Nat) (s : State)
    (hes : ∀ i (h : i < es.length), es[i] = entry (done + i)) :
    ∃ n, (writeEntries c es done s).written = done + n ∧ n ≤ es.length ∧
      (List.range' done n).foldlM (fun t i => writeEntry c.table (c.index + i) (entry i) t) s =
        some (writeEntries c es done s).state ∧
      (∀ i < n, c.index + (done + i) < cursorEnd c) ∧
      WriteEnds c entry (done + es.length) (done + n) (writeEntries c es done s).state
        (writeEntries c es done s).fault := by
  induction es generalizing done s with
  | nil => exact ⟨0, rfl, Nat.le_refl _, rfl, fun i h => absurd h (Nat.not_lt_zero i), .none rfl⟩
  | cons e es ih =>
    have hhead : e = entry done := hes 0 (Nat.zero_lt_succ _)
    have hlen : done < done + (e :: es).length := Nat.lt_add_of_pos_right (Nat.succ_pos _)
    unfold writeEntries
    by_cases hend : cursorEnd c ≤ c.index + done
    · rw [if_pos hend]
      exact ⟨0, rfl, Nat.zero_le _, rfl, fun i h => absurd h (Nat.not_lt_zero i), .overrun hlen hend⟩
    · rw [if_neg hend]
      cases hw : writeEntry c.table (c.index + done) e s with
      | none =>
        exact ⟨0, rfl, Nat.zero_le _, rfl, fun i h => absurd h (Nat.not_lt_zero i),
          .wrong hlen (not_le.mp hend) (hhead ▸ hw)⟩
      | some t =>
        obtain ⟨n, hwritten, hle, hfold, hbelow, hends⟩ := ih (done + 1) t fun i h => by
          have hi := hes (i + 1) (Nat.succ_lt_succ h)
          rwa [List.getElem_cons_succ, ← Nat.add_assoc, Nat.add_right_comm] at hi
        refine ⟨n + 1, by rw [hwritten]; omega, Nat.succ_le_succ hle, ?_, fun i hi => ?_, ?_⟩
        · rw [List.range'_succ, List.foldlM_cons, ← hhead, hw]
          exact hfold
        · cases i with
          | zero => exact not_le.mp hend
          | succ i =>
            have hi := hbelow i (Nat.lt_of_succ_lt_succ hi)
            omega
        · rw [List.length_cons, ← Nat.add_assoc, Nat.add_right_comm, ← Nat.add_assoc, Nat.add_right_comm done n]
          exact hends

/-! ## What the entries leave alone -/

theorem writeEntry_path {t : Table} {i : Nat} {ws : List Word} {s u : State} (h : writeEntry t i ws s = some u) :
    u.uplink.pathRaised = s.uplink.pathRaised := by
  cases t with
  | slotMap | protect =>
    obtain ⟨r, -, rfl⟩ := Option.map_eq_some_iff.mp h
    rfl
  | channel | route =>
    obtain ⟨r, -, hr⟩ := Option.bind_eq_some_iff.mp h
    split at hr
    · cases hr
      rfl
    · cases hr
  | radio =>
    cases h
    unfold writeRadio
    dsimp only
    split <;> rfl
  | coef | zone | curve | duck | placement | amp | beam | penalty | blend | echo | ramp => cases h; rfl

theorem writeEntries_path (c : Cursor) (es : List (List Word)) (done : Nat) (s : State) :
    (writeEntries c es done s).state.uplink.pathRaised = s.uplink.pathRaised := by
  induction es generalizing done s with
  | nil => rfl
  | cons e es ih =>
    unfold writeEntries
    split
    · rfl
    · split
      · rfl
      · next t ht => rw [ih, writeEntry_path ht]

theorem activateOnClose_phase (c : Fin 28) (s : State) :
    (activateOnClose c s).msg.resetPhase = s.msg.resetPhase := by
  unfold activateOnClose
  split
  · rfl
  · split <;> rfl

theorem closeCursor_phase (b : Bool) (s : State) : (closeCursor b s).msg.resetPhase = s.msg.resetPhase := by
  unfold closeCursor
  split
  · rfl
  · dsimp only
    split
    · split
      · exact activateOnClose_phase _ _
      · rfl
    · rfl

theorem closeCursor_path (b : Bool) (s : State) :
    (closeCursor b s).uplink.pathRaised = s.uplink.pathRaised := by
  rw [(closeCursor_frame b s).2.2.2.2.2.2.2.1]

theorem closeCursor_aborted_of {s : State} {c : Cursor} (hc : s.msg.cursor = some c) :
    closeCursor false s = (let t := s.setMsg { s.msg with cursor := none }
      if c.table = Table.coef then setSpareState c.chan .loaded t else t) := by
  rw [closeCursor_aborted, hc]

theorem cursorEnd_eq (c : Cursor) :
    cursorEnd c = if c.table = .coef then c.chan.val * 8 + 8 else tableEntries c.table := by
  unfold cursorEnd
  cases c.table <;> rfl

theorem beamsTouched_iff (c : Cursor) (n : Nat) (s : State) : beamsTouched c n s = true ↔
    c.table = .beam ∧ s.msg.op = .run ∧ ∃ b ∈ selectionInUse s.uplink, ∃ i, i < n ∧ (c.index + i) / 6 = b.seat.val := by
  simp [beamsTouched, List.any_eq_true, and_assoc]

/-! ## TABLE WRITE (R38, R39) -/

/-- TABLE WRITE, passed, with an open cursor, whole entries and a table that is writable. -/
theorem handleTableWrite_open {r : Request} {s : State} {c : Cursor} (hc : s.msg.cursor = some c)
    (hwhole : r.payload.length % entryWords c.table = 0) (hw : tableWritable c.table s.msg.op = true) :
    handlerOf .tableWrite r s = writeTable c r.payload s := by
  rw [handlerOf, handleTableWrite, hc]
  dsimp only
  rw [if_neg (not_not.mpr hwhole), hw]
  rfl

/-- What a TABLE WRITE answers once n entries are written and the cursor stands after them in u. -/
def writeAnswer (c : Cursor) (n : Nat) (u : State) : WriteFault → Answer
  | .none => ⟨.ok, n, [], if c.cont then u else closeCursor true u⟩
  | .overrun => ⟨.overrun, n, [], closeCursor false u⟩
  | .wrong => ⟨.badArg, c.index + n, [], closeCursor false u⟩

theorem writeTable_eq {c : Cursor} {payload : List Word} {s u : State} {n : Nat} {f : WriteFault}
    (ho : writeEntries c (entriesOf (entryWords c.table) payload.length payload) 0 s = ⟨u, n, f⟩) :
    writeTable c payload s = writeAnswer c n
      (if beamsTouched c n s then changeBeams (advanceCursor c n u) else advanceCursor c n u) f := by
  unfold writeTable
  rw [ho]
  cases f <;> rfl

theorem entryWords_pos (t : Table) : 0 < entryWords t := by cases t <;> decide

/-- The entries of a TABLE WRITE of whole entries. -/
theorem writeEntries_payload (c : Cursor) (payload : List Word) (s : State)
    (hwhole : payload.length % entryWords c.table = 0) :
    ∃ n u f, writeEntries c (entriesOf (entryWords c.table) payload.length payload) 0 s = ⟨u, n, f⟩ ∧
      n ≤ payload.length / entryWords c.table ∧
      (List.range n).foldlM (fun t i => writeEntry c.table (c.index + i)
        ((payload.drop (entryWords c.table * i)).take (entryWords c.table)) t) s = some u ∧
      (∀ i < n, c.index + i < cursorEnd c) ∧
      WriteEnds c (fun i => (payload.drop (entryWords c.table * i)).take (entryWords c.table))
        (payload.length / entryWords c.table) n u f ∧
      u.msg = s.msg ∧ u.uplink.pathRaised = s.uplink.pathRaised := by
  obtain ⟨hlen, hget⟩ := entriesOf_spec (entryWords_pos c.table) payload.length payload (Nat.le_refl _) hwhole
  obtain ⟨n, hn, hle, hfold, hbelow, hends⟩ := writeEntries_spec c
    (fun i => (payload.drop (entryWords c.table * i)).take (entryWords c.table))
    (entriesOf (entryWords c.table) payload.length payload) 0 s
    (fun i h => by rw [Nat.zero_add]; exact hget i h)
  simp only [Nat.zero_add, hlen] at hn hle hbelow hends
  refine ⟨n, _, _, ?_, hle, ?_, hbelow, hends, writeEntries_msg _ _ _ _, writeEntries_path _ _ _ _⟩
  · rw [← hn]
  · rw [List.range_eq_range']
    exact hfold

/-- A BEAM entry written (R179). -/
theorem writeEntry_beam (i : Fin 24) (ws : List Word) (s : State) : writeEntry .beam i.val ws s =
    some (s.setUplink { s.uplink with beams := s.uplink.beams.set i (beamOfWord (ws.headD 0)) }) := by
  simp only [writeEntry, finWrap_val]

/-- The BEAM entries written by some one-word entries. -/
theorem foldlM_writeBeam {c : Cursor} (hc : c.table = .beam) (payload : List Word) (s : State) (n : Nat)
    (hfit : ∀ i < n, c.index + i < 24) {u : State}
    (hu : (List.range n).foldlM (fun t i => writeEntry c.table (c.index + i) ((payload.drop (1 * i)).take 1) t) s =
      some u) : u = s.setUplink { s.uplink with beams := u.uplink.beams } ∧
      (∀ (i : Fin 24) (k : Nat) (w : Word), i.val = c.index + k → k < n → payload[k]? = some w →
        u.uplink.beams[i] = beamOfWord w) ∧
      ∀ i : Fin 24, i.val < c.index ∨ c.index + n ≤ i.val → u.uplink.beams[i] = s.uplink.beams[i] := by
  induction n generalizing u with
  | zero =>
    cases hu
    exact ⟨rfl, fun i k w _ hk => absurd hk (Nat.not_lt_zero k), fun i _ => rfl⟩
  | succ n ih =>
    rw [List.range_succ, List.foldlM_append] at hu
    obtain ⟨v, hv, hlast⟩ := Option.bind_eq_some_iff.mp hu
    obtain ⟨hrest, hnew, hold⟩ := ih (fun i hi => hfit i (Nat.lt_succ_of_lt hi)) hv
    obtain ⟨j, hj⟩ : ∃ j : Fin 24, j.val = c.index + n := ⟨⟨_, hfit n (Nat.lt_succ_self n)⟩, rfl⟩
    have hstep : u = v.setUplink { v.uplink with
        beams := v.uplink.beams.set j (beamOfWord (((payload.drop (1 * n)).take 1).headD 0)) } := by
      rw [List.foldlM_cons, hc, ← hj, writeEntry_beam] at hlast
      cases hlast
      rfl
    have hget (i : Fin 24) : u.uplink.beams[i] =
        if i = j then beamOfWord (((payload.drop (1 * n)).take 1).headD 0) else v.uplink.beams[i] := by
      rw [hstep]
      exact vector_set_fin _ _ _ _
    refine ⟨?_, fun i k w hik hk hw => ?_, fun i hi => ?_⟩
    · rw [hstep, hrest]
      rfl
    · rw [hget]
      by_cases hkn : k = n
      · subst hkn
        have hword : ((payload.drop (1 * k)).take 1).headD 0 = w := by
          rw [Nat.one_mul, List.headD_eq_head?_getD, List.head?_take, List.head?_drop, hw]
          rfl
        rw [if_pos (Fin.ext (hik.trans hj.symm)), hword]
      · rw [if_neg (fun h => hkn (by rw [h, hj] at hik; omega))]
        exact hnew i k w hik (by omega) hw
    · rw [hget, if_neg (fun h => by rw [h, hj] at hi; omega)]
      exact hold i (by omega)

/-- The signed value of a field is the two's-complement value of its bits. -/
theorem signedOf_field (w : Word) {n : Nat} (hn : 0 < n) :
    signedOf n (field w (n - 1) 0) = (w.setWidth n : BitVec n).toInt := by
  have hfield : field w (n - 1) 0 = (w.setWidth n : BitVec n).toNat := by
    rw [field, BitVec.toNat_setWidth, pow_zero, Nat.div_one, Nat.sub_add_cancel hn, Nat.sub_zero]
  rw [hfield, BitVec.toInt_eq_msb_cond, BitVec.msb_eq_decide, signedOf]
  by_cases h : (w.setWidth n : BitVec n).toNat < 2 ^ (n - 1)
  · rw [if_pos h, if_neg (by simpa using h)]
  · rw [if_neg h, if_pos (by simpa using h)]
    push_cast
    rfl

/-- A table outside BEAM in RUN: the entries written in order, and the three ways a TABLE WRITE ends. -/
theorem tableWrite_entries {r : Request} {s : State} {c : Cursor} (h : Ready r s) (hp : Passes .tableWrite r s)
    (hc : s.msg.cursor = some c) (hw : tableWritable c.table s.msg.op = true)
    (hwhole : r.payload.length % entryWords c.table = 0) (hbeam : c.table ≠ .beam ∨ s.msg.op ≠ .run) :
    ∃ n u, n ≤ r.payload.length / entryWords c.table ∧
      (List.range n).foldlM (fun t i => writeEntry c.table (c.index + i)
        ((r.payload.drop (entryWords c.table * i)).take (entryWords c.table)) t) s = some u ∧
      (∀ i < n, c.index + i < cursorEnd c) ∧
      ((n = r.payload.length / entryWords c.table ∧ exec (.tableWrite r) s = .next (answered 9 r .ok n []
          (if c.cont then advanceCursor c n u else closeCursor true (advanceCursor c n u)))) ∨
        (n < r.payload.length / entryWords c.table ∧ cursorEnd c ≤ c.index + n ∧
          exec (.tableWrite r) s = .next (answered 9 r .overrun n [] (closeCursor false (advanceCursor c n u)))) ∨
        (n < r.payload.length / entryWords c.table ∧ c.index + n < cursorEnd c ∧ writeEntry c.table (c.index + n)
            ((r.payload.drop (entryWords c.table * n)).take (entryWords c.table)) u = none ∧
          exec (.tableWrite r) s =
            .next (answered 9 r .badArg (c.index + n) [] (closeCursor false (advanceCursor c n u))))) := by
  obtain ⟨n, u, f, ho, hle, hfold, hbelow, hends, hmsg, hpath⟩ := writeEntries_payload c r.payload s hwhole
  have hb : ¬beamsTouched c n s = true := by
    rw [beamsTouched_iff]
    rintro ⟨ht, hop, -⟩
    exact hbeam.elim (fun h => h ht) fun h => h hop
  have hhandle : handlerOf .tableWrite r s = writeAnswer c n (advanceCursor c n u) f := by
    rw [handleTableWrite_open hc hwhole hw, writeTable_eq ho, if_neg hb]
  have hphase : (advanceCursor c n u).msg.resetPhase = s.msg.resetPhase :=
    (congrArg MessageUnit.resetPhase hmsg :)
  have hclose (b : Bool) : (closeCursor b (advanceCursor c n u)).msg.resetPhase = s.msg.resetPhase ∧
      (closeCursor b (advanceCursor c n u)).uplink.pathRaised = s.uplink.pathRaised :=
    ⟨(closeCursor_phase b _).trans hphase, (closeCursor_path b _).trans hpath⟩
  refine ⟨n, u, hle, hfold, hbelow, ?_⟩
  cases hends with
  | none hall =>
    refine .inl ⟨hall, exec_answered (k := .tableWrite) h hp hhandle ?_ ?_⟩
    · split
      · exact hphase
      · exact (hclose true).1
    · split
      · exact hpath
      · exact (hclose true).2
  | overrun hlt hend =>
    exact .inr (.inl ⟨hlt, hend, exec_answered (k := .tableWrite) h hp hhandle (hclose false).1 (hclose false).2⟩)
  | wrong hlt hend hwrong =>
    exact .inr (.inr ⟨hlt, hend, hwrong,
      exec_answered (k := .tableWrite) h hp hhandle (hclose false).1 (hclose false).2⟩)

/-- A change of beams with the path-change event it may raise. -/
theorem takePath_changeBeams {s : State} (hpath : s.uplink.pathRaised = false) :
    takePath (changeBeams s) =
      if s.uplink.fading then s.setUplink { s.uplink with changePending := true }
      else pathEffect (s.setUplink { s.uplink with
        selections := s.uplink.selections.set (1 - s.uplink.live) (selectionOf s.uplink.beams s.call.placement)
        fading := true }) := by
  unfold changeBeams
  split
  · exact takePath_idle hpath
  · rw [startBeamFade, set_otherPoint]
    exact takePath_raised (by exact hpath)

theorem closeCursor_off_coef {s : State} {c : Cursor} (hc : s.msg.cursor = some c) (h : c.table ≠ .coef) (b : Bool) :
    closeCursor b s = s.setMsg { s.msg with cursor := none } := by
  rw [closeCursor, hc]
  exact if_neg h

theorem changeBeams_setMsg (m : MessageUnit) (s : State) : (changeBeams s).setMsg m = changeBeams (s.setMsg m) := by
  unfold changeBeams
  by_cases hf : s.uplink.fading = true
  · rw [if_pos hf, if_pos (by exact hf)]
    rfl
  · rw [if_neg hf, if_neg (by exact hf)]
    rfl

theorem changeBeams_msg (s : State) : (changeBeams s).msg = s.msg := by
  unfold changeBeams
  split <;> rfl

/-- What a BEAM write leaves before its path-change event: the entries and the cursor, then the beam change. -/
theorem writeAnswer_beam {c : Cursor} {n all : Nat} {entry : Nat → List Word} {u s : State} {f : WriteFault}
    (hc : c.table = .beam) (hends : WriteEnds c entry all n u f) (touched : Bool) (hmsg : u.msg = s.msg) :
    writeAnswer c n (if touched then changeBeams (advanceCursor c n u) else advanceCursor c n u) f =
      (let v := u.setMsg { s.msg with
        cursor := if n = all ∧ c.cont = true then some { c with index := c.index + n } else none }
       ⟨if n = all then .ok else .overrun, n, [], if touched then changeBeams v else v⟩) := by
  have hclose (b : Bool) :
      closeCursor b (if touched then changeBeams (advanceCursor c n u) else advanceCursor c n u) =
        if touched then changeBeams (u.setMsg { s.msg with cursor := none })
        else u.setMsg { s.msg with cursor := none } := by
    have hcursor : (if touched then changeBeams (advanceCursor c n u) else advanceCursor c n u).msg =
        { s.msg with cursor := some { c with index := c.index + n } } := by
      split
      · exact (changeBeams_msg _).trans (by rw [advanceCursor, hmsg]; rfl)
      · rw [advanceCursor, hmsg]
        rfl
    rw [closeCursor_off_coef (congrArg MessageUnit.cursor hcursor) (by simp only [hc]; decide), hcursor]
    split
    · rw [changeBeams_setMsg]
      rfl
    · rfl
  have hopen : advanceCursor c n u = u.setMsg { s.msg with cursor := some { c with index := c.index + n } } := by
    rw [advanceCursor, hmsg]
  cases hends with
  | none hall =>
    rw [writeAnswer, hclose, hopen]
    cases hcont : c.cont with
    | true => simp [hall]
    | false => simp [hall]
  | overrun hlt =>
    rw [writeAnswer, hclose]
    simp [hlt.ne]
  | wrong hlt hend hwrong =>
    rw [hc] at hwrong
    cases hwrong

/-- Settles O25: the refusals, the entries of any table in order, and the beam change of a BEAM write in RUN. -/
theorem tableWrite : Obligations.TableWrite := by
  refine ⟨⟨fun r s h hp hc => ?_, fun r s c h hp hc => ⟨fun hpart => ?_, fun hwhole hw => ?_⟩⟩,
    fun r s c h hp hc hw hwhole hbeam => ?_, fun r s c h hp hc ht hop => ?_⟩
  · exact exec_refused (k := .tableWrite) h hp (by rw [handlerOf, handleTableWrite, hc])
  · refine (exec_answered (k := .tableWrite) (t := closeCursor false s) h hp ?_ (closeCursor_phase false s)
      (closeCursor_path false s)).trans
      (congrArg (fun t => Host.Outcome.next (answered 9 r .badArg 65535 [] t)) (closeCursor_aborted_of hc))
    rw [handlerOf, handleTableWrite, hc]
    exact if_pos hpart
  · refine (exec_answered (k := .tableWrite) (t := closeCursor false s) h hp ?_ (closeCursor_phase false s)
      (closeCursor_path false s)).trans
      (congrArg (fun t => Host.Outcome.next (answered 9 r .state 0 [] t)) (closeCursor_aborted_of hc))
    rw [handlerOf, handleTableWrite, hc]
    dsimp only
    rw [if_neg (not_not.mpr hwhole), hw]
    rfl
  · intro w all entry last
    have hends := tableWrite_entries h hp hc hw hwhole hbeam
    rw [cursorEnd_eq] at hends
    exact hends
  · intro u n code used touched
    have hwhole : r.payload.length % entryWords c.table = 0 := by rw [ht]; exact Nat.mod_one _
    obtain ⟨m, x, f, ho, hle, hfold, hbelow, hends, hmsg, -⟩ := writeEntries_payload c r.payload s hwhole
    have hone : entryWords c.table = 1 := by rw [ht]; rfl
    have hend : cursorEnd c = 24 := by rw [cursorEnd_eq, ht]; rfl
    rw [hone, Nat.div_one] at hends hle
    rw [hone] at hfold
    rw [hend] at hbelow
    have hm : m = n := by
      have hlast : 0 < m → c.index + (m - 1) < 24 := fun hpos => hbelow (m - 1) (by omega)
      cases hends with
      | none hall => omega
      | overrun hlt hover => omega
      | wrong hlt hin hwrong =>
        rw [ht] at hwrong
        cases hwrong
    obtain ⟨hx, hnew, hold⟩ := foldlM_writeBeam ht r.payload s m hbelow hfold
    obtain ⟨-, -, hphase, -, hcalm⟩ := id h
    have hhandle := (handleTableWrite_open hc hwhole (by rw [ht, hop]; rfl)).trans
      ((writeTable_eq ho).trans (writeAnswer_beam ht hends _ hmsg))
    have htouched : beamsTouched c m s = true ↔ touched := by
      rw [beamsTouched_iff, hm]
      exact ⟨fun ⟨_, _, hb⟩ => hb, fun hb => ⟨ht, hop, hb⟩⟩
    rw [hx, hm] at hhandle
    rw [hm] at hnew hold htouched
    refine ⟨x.uplink.beams, fun i k w hik hk hw => ?_, hold, ?_⟩
    · rw [hnew i k w hik hk hw]
      exact ⟨Nat.mod_eq_of_lt (field_lt w 20 16), signedOf_field w (n := 16) (by decide)⟩
    · intro v
      have hpassed (hyes : touched) :
          exec (.tableWrite r) s = .next (answered 9 r code n [] (takePath (changeBeams v))) := by
        rw [htouched.mpr hyes] at hhandle
        exact exec_passed (k := .tableWrite) h hp hhandle
          ((congrArg MessageUnit.resetPhase (changeBeams_msg v)).trans hphase)
      have htake := takePath_changeBeams (s := v) hcalm
      refine ⟨fun hno => ?_, fun hyes hf => ?_, fun hyes hf => ?_⟩
      · rw [Bool.eq_false_of_not_eq_true (mt htouched.mp hno)] at hhandle
        exact exec_answered (k := .tableWrite) h hp hhandle rfl rfl
      · rw [hpassed hyes, htake.trans (if_pos hf)]
      · rw [hpassed hyes, htake.trans (if_neg (by rw [show v.uplink.fading = false from hf]; nofun))]
        rfl

end Sys2Proof.Machine


namespace Sys2Proof.Machine

/-! ## What an entry word stores (2.7, R38, R39) -/

/-- A step field that admits MUTE, in the words of 2.7. -/
theorem clampStep_stepOf (lo hi : Int) (code : Nat) :
    clampStep lo hi (stepOf code) = if code = 512 then .mute
      else .steps (max lo (min hi (if code < 512 then (code : Int) else (code : Int) - 1024))) := by
  unfold stepOf
  rw [show muteCode = 512 from rfl]
  split
  · rfl
  · rfl

theorem finWrap_val_of_lt {n i : Nat} (h : i < n + 1) : (finWrap n i).val = i := Nat.mod_eq_of_lt h

theorem levelField_eq (w : Word) : levelField w = min 8388607 (field w 23 0) := rfl

/-! ## Structural faults of ROUTE, CHANNEL and SLOTMAP (R13, R49, R50, R89) -/

theorem finOf_eq_some_iff {n i : Nat} {x : Fin n} : finOf n i = some x ↔ x.val = i := by
  unfold finOf
  split
  · next h =>
    rw [Option.some.injEq]
    exact ⟨fun h => h ▸ rfl, fun h => Fin.ext h.symm⟩
  · next h => exact ⟨nofun, fun hx => absurd (hx ▸ x.isLt) h⟩

theorem routeStateOf_eq_some_iff {code : Nat} {x : RouteState} : routeStateOf code = some x ↔ routeStateCode x = code := by
  constructor
  · intro h
    unfold routeStateOf at h
    split at h <;> cases h <;> rfl
  · rintro rfl
    cases x <;> rfl

theorem sourceOf_eq_some_iff {code : Nat} {x : Source} : sourceOf code = some x ↔ sourceCode x = code := by
  constructor
  · intro h
    unfold sourceOf at h
    split at h <;> cases h <;> rfl
  · rintro rfl
    cases x <;> rfl

theorem duckOf_eq_some_iff {code : Nat} {x : DuckClass} : duckOf code = some x ↔ duckCode x = code := by
  constructor
  · intro h
    unfold duckOf at h
    split at h <;> cases h <;> rfl
  · rintro rfl
    cases x <;> rfl

theorem sideOf_eq_some_iff {code : Nat} {x : Side} : sideOf code = some x ↔ sideCode x = code := by
  constructor
  · intro h
    unfold sideOf at h
    split at h <;> cases h <;> rfl
  · rintro rfl
    cases x <;> rfl

theorem mediaOf_eq_some_iff {code : Nat} {x : Media} : mediaOf code = some x ↔ mediaCode x = code := by
  constructor
  · intro h
    unfold mediaOf at h
    split at h <;> cases h <;> rfl
  · rintro rfl
    cases x <;> rfl

theorem monoOf_eq_some_iff {code : Nat} {x : Mono} : monoOf code = some x ↔ monoCode x = code := by
  constructor
  · intro h
    unfold monoOf at h
    split at h <;> cases h <;> rfl
  · rintro rfl
    cases x <;> rfl

/-- The role that a SLOTMAP word names, by its three fields. -/
def RoleNamed (code x n : Nat) : Role → Prop
  | .unused => code = 0
  | .antI a k => code = 1 ∧ x = a.val ∧ n = k.val
  | .antQ a k => code = 2 ∧ x = a.val ∧ n = k.val
  | .mic m => code = 3 ∧ x = m.val
  | .srcL m => code = 4 ∧ x = mediaCode m
  | .srcR m => code = 5 ∧ x = mediaCode m
  | .srcM m => code = 6 ∧ x = monoCode m
  | .out c => code = 7 ∧ x = c.val
  | .uplink => code = 8
  | .amp a => code = 9 ∧ x = a.val

theorem roleOfWord_eq_some_iff (w : Word) (r : Role) :
    roleOfWord w = some r ↔ RoleNamed (field w 31 24) (field w 23 16) (field w 15 8) r := by
  unfold roleOfWord
  generalize field w 31 24 = code
  generalize field w 23 16 = x
  generalize field w 15 8 = n
  constructor
  · intro h
    dsimp only at h
    split at h
    case h_1 | h_9 =>
      cases h
      rfl
    case h_2 | h_3 =>
      obtain ⟨y, hy, hr⟩ := Option.bind_eq_some_iff.mp h
      obtain ⟨k, hk, rfl⟩ := Option.map_eq_some_iff.mp hr
      exact ⟨rfl, (finOf_eq_some_iff.mp hy).symm, (finOf_eq_some_iff.mp hk).symm⟩
    case h_4 | h_8 | h_10 =>
      obtain ⟨y, hy, rfl⟩ := Option.map_eq_some_iff.mp h
      exact ⟨rfl, (finOf_eq_some_iff.mp hy).symm⟩
    case h_5 | h_6 =>
      obtain ⟨y, hy, rfl⟩ := Option.map_eq_some_iff.mp h
      exact ⟨rfl, (mediaOf_eq_some_iff.mp hy).symm⟩
    case h_7 =>
      obtain ⟨y, hy, rfl⟩ := Option.map_eq_some_iff.mp h
      exact ⟨rfl, (monoOf_eq_some_iff.mp hy).symm⟩
    case h_11 => cases h
  · cases r with
    | unused | uplink =>
      rintro rfl
      rfl
    | antI a k | antQ a k =>
      rintro ⟨rfl, rfl, rfl⟩
      simp only [finOf_val, Option.bind_some, Option.map_some]
    | mic y | out y | amp y =>
      rintro ⟨rfl, rfl⟩
      simp only [finOf_val, Option.map_some]
    | srcL y | srcR y | srcM y =>
      rintro ⟨rfl, rfl⟩
      cases y <;> rfl

/-- The step of a field without MUTE. -/
def fieldSteps (lo hi : Int) (code : Nat) : Int :=
  if code = 512 then lo else max lo (min hi (if code < 512 then (code : Int) else (code : Int) - 1024))

/-- The record that a ROUTE word of a non-EMPTY entry spells. -/
structure RouteSpelled (w : Word) (x : RouteRecord) : Prop where
  state : routeStateCode x.state = field w 31 30
  used : x.state ≠ .empty
  source : sourceCode x.source = field w 29 27
  routable : x.source ≠ .call
  zone : x.zone.val = field w 26 24
  duck : duckCode x.duck = field w 21 20
  trim : x.trim = fieldSteps (-320) 32 (field w 9 0)

theorem routeOfWord_empty {w : Word} (h : field w 31 30 = 0) :
    routeOfWord w = some ⟨.empty, .radio, 0, 0, .none⟩ := by
  rw [routeOfWord, h]
  rfl

theorem routeOfWord_eq_some_iff {w : Word} (h : field w 31 30 ≠ 0) (x : RouteRecord) :
    routeOfWord w = some x ↔ RouteSpelled w x := by
  constructor
  · intro hx
    obtain ⟨st, hst, hx⟩ := Option.bind_eq_some_iff.mp hx
    have hcode := routeStateOf_eq_some_iff.mp hst
    have hused : st ≠ .empty := fun he => h (by rw [← hcode, he]; rfl)
    rw [if_neg hused] at hx
    obtain ⟨src, hsrc, hx⟩ := Option.bind_eq_some_iff.mp hx
    obtain ⟨zone, hzone, hx⟩ := Option.bind_eq_some_iff.mp hx
    obtain ⟨duck, hduck, hx⟩ := Option.bind_eq_some_iff.mp hx
    split at hx
    · cases hx
    · next hcall =>
      cases hx
      exact ⟨hcode, hused, sourceOf_eq_some_iff.mp hsrc, hcall, finOf_eq_some_iff.mp hzone,
        duckOf_eq_some_iff.mp hduck, clampSteps_stepOf _ _ _⟩
  · rintro ⟨hstate, hused, hsource, hcall, hzone, hduck, htrim⟩
    unfold routeOfWord
    rw [routeStateOf_eq_some_iff.mpr hstate, sourceOf_eq_some_iff.mpr hsource, finOf_eq_some_iff.mpr hzone,
      duckOf_eq_some_iff.mpr hduck]
    simp only [Option.bind_some, if_neg hused, if_neg hcall]
    rw [clampSteps_stepOf, ← fieldSteps, ← htrim]

theorem routeFits_iff {m : MixUnit} {i : Fin 32} {x : RouteRecord} : routeFits m i x = true ↔ x.state = .empty ∨
    ¬∃ j : Fin 32, j ≠ i ∧ m.routes[j].state ≠ .empty ∧ m.routes[j].source = x.source ∧ m.routes[j].zone = x.zone := by
  unfold routeFits
  dsimp only
  rw [Bool.or_eq_true, List.all_eq_true, beq_iff_eq]
  refine or_congr Iff.rfl ?_
  simp only [List.mem_finRange, true_implies, Bool.or_eq_true, beq_iff_eq, Bool.not_eq_true', Bool.and_eq_false_iff,
    beq_eq_false_iff_ne, not_exists, not_and]
  refine forall_congr' fun j => ?_
  tauto

theorem channelZoneOf_eq_some_iff {code : Nat} {z : Option (Fin 5)} :
    channelZoneOf code = some z ↔ (z = none ↔ code = 7) ∧ ∀ y, z = some y → y.val = code := by
  unfold channelZoneOf
  by_cases h : code = 7
  · cases z with
    | none => simp [h]
    | some y => simp [h]
  · cases z with
    | none => simp [h]
    | some y => simp [h, finOf_eq_some_iff]

theorem channelAmpOf_eq_some_iff {code : Nat} {x : Option (Fin 4)} :
    channelAmpOf code = some x ↔ (x = none ↔ code = 7) ∧ ∀ y, x = some y → y.val = code := by
  unfold channelAmpOf
  by_cases h : code = 7
  · cases x with
    | none => simp [h]
    | some y => simp [h]
  · cases x with
    | none => simp [h]
    | some y => simp [h, finOf_eq_some_iff]

/-- The record that a CHANNEL word spells. -/
structure ChannelSpelled (w : Word) (x : ChannelRecord) : Prop where
  unzoned : x.zone = none ↔ field w 22 20 = 7
  zone : ∀ z, x.zone = some z → z.val = field w 22 20
  side : sideCode x.side = field w 19 18
  unamped : x.amp = none ↔ field w 14 12 = 7
  amp : ∀ a, x.amp = some a → a.val = field w 14 12
  cls : x.cls.val = field w 17 16
  ampChannel : x.ampChannel.val = field w 26 24
  trim : x.trim = fieldSteps (-320) 32 (field w 9 0)

theorem channelOfWord_eq_some_iff (w : Word) (x : ChannelRecord) : channelOfWord w = some x ↔ ChannelSpelled w x := by
  have hcls : (finWrap 3 (field w 17 16)).val = field w 17 16 := finWrap_val_of_lt (field_lt w 17 16)
  have hchan : (finWrap 7 (field w 26 24)).val = field w 26 24 := finWrap_val_of_lt (field_lt w 26 24)
  constructor
  · intro hx
    obtain ⟨zone, hzone, hx⟩ := Option.bind_eq_some_iff.mp hx
    obtain ⟨side, hside, hx⟩ := Option.bind_eq_some_iff.mp hx
    obtain ⟨amp, hamp, rfl⟩ := Option.map_eq_some_iff.mp hx
    obtain ⟨hunzoned, hz⟩ := channelZoneOf_eq_some_iff.mp hzone
    obtain ⟨hunamped, ha⟩ := channelAmpOf_eq_some_iff.mp hamp
    exact ⟨hunzoned, hz, sideOf_eq_some_iff.mp hside, hunamped, ha, hcls, hchan, clampSteps_stepOf _ _ _⟩
  · rintro ⟨hunzoned, hz, hside, hunamped, ha, hc, hac, htrim⟩
    unfold channelOfWord
    rw [channelZoneOf_eq_some_iff.mpr ⟨hunzoned, hz⟩, sideOf_eq_some_iff.mpr hside,
      channelAmpOf_eq_some_iff.mpr ⟨hunamped, ha⟩, show finWrap 3 (field w 17 16) = x.cls from Fin.ext (hcls.trans hc.symm),
      show finWrap 7 (field w 26 24) = x.ampChannel from Fin.ext (hchan.trans hac.symm), clampSteps_stepOf, ← fieldSteps,
      ← htrim]
    rfl

theorem channelFits_iff {u : ChannelUnit} {c : Fin 28} {x : ChannelRecord} : channelFits u c x = true ↔
    (24 ≤ c.val → (∀ z, x.zone = some z → 3 ≤ z.val) ∧ x.amp = none) ∧
      ∀ a, x.amp = some a → ¬∃ d : Fin 28, d ≠ c ∧ u.channels[d].record.amp = some a ∧
        u.channels[d].record.ampChannel = x.ampChannel := by
  have hhead : (decide (c.val < 24) || (x.zone.all (fun z => decide (3 ≤ z.val)) && x.amp.isNone)) = true ↔
      (24 ≤ c.val → (∀ z, x.zone = some z → 3 ≤ z.val) ∧ x.amp = none) := by
    rw [Bool.or_eq_true, Bool.and_eq_true, decide_eq_true_eq, Option.isNone_iff_eq_none, Option.all_eq_true]
    simp only [decide_eq_true_eq]
    constructor
    · rintro (h | h)
      · exact fun hc => absurd h (not_lt.mpr hc)
      · exact fun _ => h
    · exact fun h => (Nat.lt_or_ge c.val 24).imp id h
  have hpair : (x.amp.isNone || (List.finRange 28).all fun d =>
      d == c || !(u.channels[d].record.amp == x.amp && u.channels[d].record.ampChannel == x.ampChannel)) = true ↔
      ∀ a, x.amp = some a → ¬∃ d : Fin 28, d ≠ c ∧ u.channels[d].record.amp = some a ∧
        u.channels[d].record.ampChannel = x.ampChannel := by
    cases hamp : x.amp with
    | none => simp
    | some a =>
      simp only [Option.isNone_some, Bool.false_or, List.all_eq_true, List.mem_finRange, true_implies, Bool.or_eq_true,
        beq_iff_eq, Bool.not_eq_true', Bool.and_eq_false_iff, beq_eq_false_iff_ne, Option.some.injEq, forall_eq',
        not_exists, not_and]
      refine forall_congr' fun d => ?_
      tauto
  rw [channelFits, Bool.and_eq_true, hhead, hpair]

end Sys2Proof.Machine


namespace Sys2Proof.Machine

/-! ## One entry written, table by table (R38, R39) -/

theorem writeEntry_route (i : Fin 32) (w : Word) (s : State) : writeEntry .route i.val [w] s = writeRoute i w s := by
  simp only [writeEntry, finWrap_val]
  rfl

theorem writeEntry_channel (c : Fin 28) (w : Word) (s : State) :
    writeEntry .channel c.val [w] s = writeChannel c w s := by
  simp only [writeEntry, finWrap_val]
  rfl

/-- A stage's entry number is 8 times its channel and its own number. -/
theorem writeEntry_coef (c : Fin 28) (i : Fin 8) (ws : List Word) (s : State) :
    writeEntry .coef (c.val * 8 + i.val) ws s = some (writeStage c i ws s) := by
  have hc : finWrap 27 ((c.val * 8 + i.val) / 8) = c := Fin.ext (by
    rw [finWrap_val_of_lt (by omega)]
    omega)
  have hi : finWrap 7 (c.val * 8 + i.val) = i := Fin.ext (by
    show (c.val * 8 + i.val) % 8 = i.val
    omega)
  simp only [writeEntry, hc, hi]

theorem writeRoute_of_spelled {i : Fin 32} {w : Word} {s : State} {x : RouteRecord} (hx : routeOfWord w = some x)
    (hfits : routeFits s.mix i x = true) :
    writeRoute i w s = some (silencePoint (.route i) (s.setMix { s.mix with routes := s.mix.routes.set i x })) := by
  rw [writeRoute, hx]
  exact if_pos hfits

theorem writeRoute_eq_none {i : Fin 32} {w : Word} {s : State}
    (h : ∀ x, routeOfWord w = some x → ¬routeFits s.mix i x = true) : writeRoute i w s = none := by
  unfold writeRoute
  cases hx : routeOfWord w with
  | none => rfl
  | some x => exact if_neg (h x hx)

theorem writeChannel_of_spelled {c : Fin 28} {w : Word} {s : State} {x : ChannelRecord} (hx : ChannelSpelled w x)
    (hfits : channelFits s.chan c x = true) :
    writeChannel c w s = some (setChannel c { s.chan.channels[c] with record := x } s) := by
  rw [writeChannel, (channelOfWord_eq_some_iff w x).mpr hx]
  exact if_pos hfits

theorem writeChannel_eq_none {c : Fin 28} {w : Word} {s : State}
    (h : ∀ x, ChannelSpelled w x → ¬channelFits s.chan c x = true) : writeChannel c w s = none := by
  unfold writeChannel
  cases hx : channelOfWord w with
  | none => rfl
  | some x => exact if_neg (h x ((channelOfWord_eq_some_iff w x).mp hx))

theorem exists_source {n : Nat} (h : n ≤ 5) : ∃ x : Source, sourceCode x = n ∧ x ≠ .call := by
  interval_cases n
  exacts [⟨.radio, rfl, nofun⟩, ⟨.mediaA, rfl, nofun⟩, ⟨.mediaB, rfl, nofun⟩, ⟨.mediaC, rfl, nofun⟩,
    ⟨.prompt, rfl, nofun⟩, ⟨.chime, rfl, nofun⟩]

theorem sourceCode_le {x : Source} (h : x ≠ .call) : sourceCode x ≤ 5 := by
  cases x with
  | call => exact absurd rfl h
  | radio | mediaA | mediaB | mediaC | prompt | chime => decide

theorem sourceCode_injective {x y : Source} (h : sourceCode x = sourceCode y) : x = y :=
  Option.some.inj ((sourceOf_sourceCode x).symm.trans ((congrArg sourceOf h).trans (sourceOf_sourceCode y)))

theorem exists_duck {n : Nat} (h : n ≤ 2) : ∃ x : DuckClass, duckCode x = n := by
  interval_cases n
  exacts [⟨.none, rfl⟩, ⟨.media, rfl⟩, ⟨.prompt, rfl⟩]

theorem exists_side {n : Nat} (h : n ≤ 2) : ∃ x : Side, sideCode x = n := by
  interval_cases n
  exacts [⟨.left, rfl⟩, ⟨.right, rfl⟩, ⟨.sum, rfl⟩]

theorem sideCode_le (x : Side) : sideCode x ≤ 2 := by cases x <;> decide

theorem duckCode_le (x : DuckClass) : duckCode x ≤ 2 := by cases x <;> decide

/-- Another non-EMPTY entry holds the source and the zone that a ROUTE word names. -/
def RouteAgain (m : MixUnit) (i : Fin 32) (w : Word) : Prop :=
  ∃ j : Fin 32, j ≠ i ∧ m.routes[j].state ≠ .empty ∧ sourceCode m.routes[j].source = field w 29 27 ∧
    m.routes[j].zone.val = field w 26 24

theorem routeFits_iff_of_spelled {m : MixUnit} {i : Fin 32} {w : Word} {x : RouteRecord} (hx : RouteSpelled w x) :
    routeFits m i x = true ↔ ¬RouteAgain m i w := by
  rw [routeFits_iff, or_iff_right hx.used]
  refine not_congr (exists_congr fun j => and_congr_right' (and_congr_right' (and_congr ?_ ?_)))
  · rw [← hx.source]
    exact ⟨fun h => h ▸ rfl, sourceCode_injective⟩
  · rw [← hx.zone]
    exact ⟨fun h => h ▸ rfl, Fin.ext⟩

/-- A ROUTE word names what an entry may hold. -/
theorem exists_routeSpelled {w : Word} (hst : field w 31 30 = 1 ∨ field w 31 30 = 2) (hsrc : field w 29 27 ≤ 5)
    (hzone : field w 26 24 ≤ 4) (hduck : field w 21 20 ≤ 2) : ∃ x, RouteSpelled w x := by
  obtain ⟨src, hsrc, hcall⟩ := exists_source hsrc
  obtain ⟨duck, hduck⟩ := exists_duck hduck
  obtain ⟨st, hst, hused⟩ : ∃ x : RouteState, routeStateCode x = field w 31 30 ∧ x ≠ .empty := by
    rcases hst with h | h
    · exact ⟨.enabled, h.symm, nofun⟩
    · exact ⟨.disabled, h.symm, nofun⟩
  exact ⟨⟨st, src, ⟨field w 26 24, by omega⟩, fieldSteps (-320) 32 (field w 9 0), duck⟩,
    hst, hused, hsrc, hcall, rfl, hduck, rfl⟩

/-- Another channel names the amplifier and the amplifier channel that a CHANNEL word names. -/
def ChannelAgain (u : ChannelUnit) (c : Fin 28) (w : Word) : Prop :=
  ∃ (d : Fin 28) (a : Fin 4), d ≠ c ∧ u.channels[d].record.amp = some a ∧ a.val = field w 14 12 ∧
    u.channels[d].record.ampChannel.val = field w 26 24

theorem channelFits_iff_of_spelled {u : ChannelUnit} {c : Fin 28} {w : Word} {x : ChannelRecord}
    (hx : ChannelSpelled w x) : channelFits u c x = true ↔
      ¬(24 ≤ c.val ∧ (field w 22 20 ≤ 2 ∨ field w 14 12 ≠ 7)) ∧ ¬ChannelAgain u c w := by
  rw [channelFits_iff]
  have hzone : (∀ z, x.zone = some z → 3 ≤ z.val) ↔ ¬field w 22 20 ≤ 2 := by
    cases hz : x.zone with
    | none =>
      have hseven := hx.unzoned.mp hz
      exact ⟨fun _ => by omega, fun _ => nofun⟩
    | some z =>
      rw [← hx.zone z hz]
      exact ⟨fun h => by have := h z rfl; omega, fun h y hy => by cases hy; omega⟩
  have hamp : x.amp = none ↔ ¬field w 14 12 ≠ 7 := hx.unamped.trans not_not.symm
  have hagain : (∀ a, x.amp = some a → ¬∃ d : Fin 28, d ≠ c ∧ u.channels[d].record.amp = some a ∧
      u.channels[d].record.ampChannel = x.ampChannel) ↔ ¬ChannelAgain u c w := by
    constructor
    · rintro h ⟨d, a, hd, ha, hcode, hchan⟩
      obtain ⟨b, hb⟩ : ∃ b, x.amp = some b := by
        rw [← Option.ne_none_iff_exists']
        exact fun hnone => by have := hx.unamped.mp hnone; omega
      have hba : b = a := Fin.ext ((hx.amp b hb).trans hcode.symm)
      exact h b hb ⟨d, hd, hba ▸ ha, Fin.ext (hchan.trans hx.ampChannel.symm)⟩
    · rintro h a ha ⟨d, hd, hda, hchan⟩
      exact h ⟨d, a, hd, hda, hx.amp a ha, (congrArg Fin.val hchan).trans hx.ampChannel⟩
  rw [hzone, hamp, hagain, not_and, not_or]

theorem not_spelled_zone {w : Word} {x : ChannelRecord} (hx : ChannelSpelled w x) :
    ¬(field w 22 20 = 5 ∨ field w 22 20 = 6) := by
  cases hz : x.zone with
  | none =>
    have hseven := hx.unzoned.mp hz
    omega
  | some z =>
    have hval := hx.zone z hz
    omega

theorem not_spelled_amp {w : Word} {x : ChannelRecord} (hx : ChannelSpelled w x) :
    ¬(field w 14 12 = 4 ∨ field w 14 12 = 5 ∨ field w 14 12 = 6) := by
  cases ha : x.amp with
  | none =>
    have hseven := hx.unamped.mp ha
    omega
  | some a =>
    have hval := hx.amp a ha
    omega

/-- A field that may be NONE, coded 7. -/
theorem exists_noneSeven {n code : Nat} (h : code = 7 ∨ code < n) :
    ∃ x : Option (Fin n), (x = none ↔ code = 7) ∧ ∀ y, x = some y → y.val = code := by
  by_cases hseven : code = 7
  · exact ⟨none, by simp [hseven], nofun⟩
  · have hlt : code < n := h.resolve_left hseven
    exact ⟨some ⟨code, hlt⟩, by simp [hseven], fun y hy => by cases hy; rfl⟩

/-- A CHANNEL word whose codes all name something spells a record. -/
theorem exists_channelSpelled {w : Word} (hzone : ¬(field w 22 20 = 5 ∨ field w 22 20 = 6)) (hside : field w 19 18 ≠ 3)
    (hamp : ¬(field w 14 12 = 4 ∨ field w 14 12 = 5 ∨ field w 14 12 = 6)) : ∃ x, ChannelSpelled w x := by
  have hzlt := field_lt w 22 20
  have hslt := field_lt w 19 18
  have halt := field_lt w 14 12
  obtain ⟨zone, hunzoned, hz⟩ := exists_noneSeven (n := 5) (code := field w 22 20) (by omega)
  obtain ⟨amp, hunamped, ha⟩ := exists_noneSeven (n := 4) (code := field w 14 12) (by omega)
  obtain ⟨side, hside⟩ := exists_side (n := field w 19 18) (by omega)
  exact ⟨⟨zone, side, fieldSteps (-320) 32 (field w 9 0), ⟨field w 17 16, field_lt w 17 16⟩, amp,
    ⟨field w 26 24, field_lt w 26 24⟩⟩, hunzoned, hz, hside, hunamped, ha, rfl, rfl, rfl⟩

/-- The stages and the rest of a channel whose spare bank takes another stage. -/
theorem setSpare_rest (x : Channel) (b : Bank) :
    (x.setSpare b).live = x.live ∧ (x.setSpare b).liveB = x.liveB ∧ (x.setSpare b).spare = x.spare ∧
      (x.setSpare b).record = x.record ∧ (x.setSpare b).peak = x.peak ∧ (x.setSpare b).out = x.out ∧
      (x.setSpare b).spareBank = b := by
  unfold Channel.setSpare Channel.live Channel.spareBank
  cases x.liveB <;> simp

theorem stageOfWords_eq (b0 b1 b2 a1 a2 : Word) : stageOfWords [b0, b1, b2, a1, a2] =
    ⟨(b0.setWidth 24 : BitVec 24).toInt, (b1.setWidth 24 : BitVec 24).toInt, (b2.setWidth 24 : BitVec 24).toInt,
      (a1.setWidth 24 : BitVec 24).toInt, (a2.setWidth 24 : BitVec 24).toInt⟩ := by
  have hread (w : Word) : signedOf 24 (field w 23 0) = (w.setWidth 24 : BitVec 24).toInt :=
    signedOf_field w (n := 24) (by decide)
  rw [← hread, ← hread, ← hread, ← hread, ← hread]
  rfl

/-- The class that eight words spell, clamped (R110). -/
def classSpelled (ws : List Word) : ProtectClass :=
  { t1Level := levelField (ws.getD 0 0)
    t1Recover := levelField (ws.getD 1 0)
    t2Level := levelField (ws.getD 2 0)
    t2Recover := levelField (ws.getD 3 0)
    t1Time := field (ws.getD 4 0) 31 16
    t2Time := field (ws.getD 4 0) 15 0
    recoverTime := max 1 (field (ws.getD 5 0) 31 16)
    fastHold := max 1 (field (ws.getD 5 0) 15 0)
    latchWindow := max 1 (field (ws.getD 6 0) 31 16)
    derateFactor := field (ws.getD 6 0) 15 8
    latchCount := field (ws.getD 6 0) 3 0
    t1Reduce := clampSteps (-320) 0 (stepOf (field (ws.getD 7 0) 29 20))
    fastReduce := clampSteps (-320) 0 (stepOf (field (ws.getD 7 0) 19 10))
    derateBand := min 100 (field (ws.getD 7 0) 6 0) }

theorem classOfWords_of_sound {ws : List Word} (h : ¬(levelField (ws.getD 0 0) < levelField (ws.getD 1 0) ∨
    levelField (ws.getD 2 0) < levelField (ws.getD 3 0))) : classOfWords ws = some (classSpelled ws) :=
  if_neg h

/-- Settles O26: every table's entry. -/
theorem entryStored : Obligations.EntryStored := by
  intro s w
  refine ⟨fun a => ?_, fun i => ?_, fun i => ?_, fun i => ?_, fun i => ?_, fun i => ?_, fun i => ?_, fun z => ?_,
    fun c i b0 b1 b2 a1 a2 => ?_, fun k w1 w2 w3 w4 w5 w6 w7 => ?_, fun w1 w2 w3 => ?_, fun w1 w2 w3 => ?_,
    fun w1 w2 w3 w4 w5 => ?_, fun i => ?_, fun c => ?_, fun i => ?_⟩
  · simp only [writeEntry, finWrap_val]
    rfl
  · simp only [writeEntry, finWrap_val]
    rfl
  · simp only [writeEntry, finWrap_val, clampStep_stepOf]
    rfl
  · simp only [writeEntry, finWrap_val, clampStep_stepOf]
    rfl
  · simp only [writeEntry, finWrap_val, clampStep_stepOf]
    rfl
  · simp only [writeEntry, finWrap_val, blendOfWord, clampStep_stepOf]
    rfl
  · refine ⟨finWrap 31 (field w 20 16), finWrap_val_of_lt (field_lt w 20 16), ?_⟩
    rw [writeEntry_beam, ← signedOf_field w (n := 16) (by decide)]
    rfl
  · refine ⟨finWrap 3 (field w 31 30), finWrap_val_of_lt (field_lt w 31 30), ?_⟩
    simp only [writeEntry, finWrap_val, zoneWritten, clampSteps_stepOf]
    rfl
  · obtain ⟨hlive, hliveB, hspare, hrecord, hpeak, hout, hbank⟩ := setSpare_rest s.chan.channels[c]
      { s.chan.channels[c].spareBank with
        stages := s.chan.channels[c].spareBank.stages.set i (stageOfWords [b0, b1, b2, a1, a2]) }
    exact ⟨_, writeEntry_coef c i _ s, hlive, hliveB, hspare, hrecord, hpeak, hout,
      hbank.trans (by rw [stageOfWords_eq])⟩
  · intro wrong
    refine ⟨fun h => ?_, fun h => ?_⟩
    · exact (congrArg (Option.map _) (if_pos h)).trans rfl
    · have hclass := classOfWords_of_sound (ws := [w, w1, w2, w3, w4, w5, w6, w7]) h
      simp only [writeEntry, finWrap_val, hclass, classSpelled, clampSteps_stepOf]
      rfl
  · rfl
  · intro part t
    rfl
  · simp only [writeEntry, echoOfWords, clampSteps_stepOf]
    rfl
  · intro st src zone duck again zero
    refine ⟨fun hst => ?_, fun hwrong => ?_, fun hst hsrc hzone hduck hno => ?_⟩
    · rw [writeEntry_route, writeRoute_of_spelled (routeOfWord_empty hst) (routeFits_iff.mpr (.inl rfl))]
      rfl
    · rw [writeEntry_route]
      refine writeRoute_eq_none fun x hx => ?_
      have hne : field w 31 30 ≠ 0 := by
        rcases hwrong with h | ⟨h, -⟩
        · exact fun h0 => absurd (h0.symm.trans h) (by decide)
        · exact h
      have hsp := (routeOfWord_eq_some_iff hne x).mp hx
      rw [routeFits_iff_of_spelled hsp, not_not]
      have hstate : routeStateCode x.state ≤ 2 := by cases x.state <;> decide
      have hsource := sourceCode_le hsp.routable
      have hduck := duckCode_le x.duck
      rw [hsp.state] at hstate
      rw [hsp.source] at hsource
      rw [hsp.duck] at hduck
      have hzone := hsp.zone
      rcases hwrong with h | ⟨-, h | h | h | h⟩
      · exact absurd h (by omega)
      · exact absurd h (by omega)
      · exact absurd h (by omega)
      · exact absurd h (by omega)
      · exact h
    · obtain ⟨x, hx⟩ := exists_routeSpelled hst hsrc hzone hduck
      refine ⟨x, ?_, ?_, hx.source, hx.zone, hx.duck, hx.trim⟩
      · have hne : field w 31 30 ≠ 0 := by rcases hst with h | h <;> exact fun h0 => by cases h0.symm.trans h
        rw [writeEntry_route, writeRoute_of_spelled ((routeOfWord_eq_some_iff hne x).mpr hx)
          ((routeFits_iff_of_spelled hx).mpr hno)]
        rfl
      · have hstate : routeStateOf st = some x.state := routeStateOf_eq_some_iff.mpr hx.state
        split
        · next h1 =>
          rw [h1] at hstate
          exact (Option.some.inj hstate).symm
        · next h1 =>
          rw [hst.resolve_left h1] at hstate
          exact (Option.some.inj hstate).symm
  · intro zone side amp again wrong
    refine ⟨fun h => ?_, fun h => ?_⟩
    · rw [writeEntry_channel]
      refine writeChannel_eq_none fun x hx => ?_
      rw [channelFits_iff_of_spelled hx]
      rintro ⟨hphones, hno⟩
      have hz := not_spelled_zone hx
      have ha := not_spelled_amp hx
      have hs := sideCode_le x.side
      rw [hx.side] at hs
      rcases h with h | h | h | h | h | h | h | h
      · exact hz (.inl h)
      · exact hz (.inr h)
      · exact absurd h (by omega)
      · exact ha (.inl h)
      · exact ha (.inr (.inl h))
      · exact ha (.inr (.inr h))
      · exact hphones h
      · exact hno h
    · simp only [wrong, not_or] at h
      obtain ⟨hz5, hz6, hs, ha4, ha5, ha6, hphones, hno⟩ := h
      obtain ⟨x, hx⟩ := exists_channelSpelled (not_or.mpr ⟨hz5, hz6⟩) hs (not_or.mpr ⟨ha4, not_or.mpr ⟨ha5, ha6⟩⟩)
      refine ⟨x, ?_, hx.unzoned, hx.zone, hx.side, hx.unamped, hx.amp, hx.cls, hx.ampChannel, hx.trim⟩
      rw [writeEntry_channel, writeChannel_of_spelled hx ((channelFits_iff_of_spelled hx).mpr ⟨hphones, hno⟩)]
      rfl
  · intro code x n names
    have hnames (r : Role) : roleOfWord w = some r ↔ names r := by
      rw [roleOfWord_eq_some_iff]
      cases r <;> exact Iff.rfl
    have hwrite : writeEntry .slotMap i.val [w] s = (roleOfWord w).map fun r => s.setRing { s.ring with
        slotMap := s.ring.slotMap.set i r } := by
      simp only [writeEntry, finWrap_val]
      rfl
    refine ⟨fun r hr => ?_, fun hno => ?_⟩
    · rw [hwrite, (hnames r).mpr hr]
      rfl
    · rw [hwrite, Option.map_eq_none_iff, Option.eq_none_iff_forall_ne_some]
      exact fun r hr => hno r ((hnames r).mp hr)

end Sys2Proof.Machine


namespace Sys2Proof.Machine

/-! ## Targets from their components (R69) -/

theorem combine_one (a : Step) : combine [a] = limitStep a := by
  cases a with
  | mute => rfl
  | steps n => simp [combine, addStep]

theorem combine_two (a b : Step) : combine [a, b] = limitStep (addStep a b) := by
  cases a with
  | mute => rfl
  | steps n => simp [combine, addStep]

theorem combine_three (a b c : Step) : combine [a, b, c] = limitStep (addStep (addStep a b) c) := by
  cases a with
  | mute => rfl
  | steps n => simp [combine, addStep]

/-! ## One point in a frame (R68, R82) -/

@[simp] theorem GainPoint.advance_step (p : GainPoint) : p.advance.step = p.step := by
  unfold GainPoint.advance
  split
  · rfl
  · split <;> rfl

@[simp] theorem GainPoint.advance_linear (p : GainPoint) : p.advance.linear = p.linear := by
  unfold GainPoint.advance
  split
  · rfl
  · split <;> rfl

theorem GainPoint.retarget_step (p : GainPoint) (t : Step) (n : Nat) (cause : RampCause) :
    (p.retarget t n cause).step = t ∧ (p.retarget t n cause).linear = linearOf t := by
  unfold GainPoint.retarget
  dsimp only
  split
  · next h => exact ⟨rfl, h.symm⟩
  · split <;> exact ⟨rfl, rfl⟩

theorem GainPoint.frame_step (p : GainPoint) (starting : Bool) (t : Step) (first n : Nat) (cause : RampCause) :
    (p.frame starting t first n cause).step = t ∧ (p.frame starting t first n cause).linear = linearOf t := by
  unfold GainPoint.frame
  rw [GainPoint.advance_step, GainPoint.advance_linear]
  split
  · exact ⟨rfl, rfl⟩
  · exact p.retarget_step t n cause

/-- A point at START or relink (R82, R86). -/
def started (t : Step) (n : Nat) : GainPoint :=
  ⟨t, linearOf t, 0, if linearOf t = 0 then none else some ⟨0, (linearOf t : Int).tdiv n, n, n, .start⟩⟩

theorem GainPoint.startAgain_eq (p : GainPoint) (t : Step) (n : Nat) : p.startAgain t n = started t n := by
  simp [GainPoint.startAgain, started, Ramp.toward]

/-- One frame of a point that has come to stand as q, in terms of q's own target. -/
theorem GainPoint.frame_runs {p q : GainPoint} {starting : Bool} {t : Step} {first n : Nat} {cause : RampCause}
    (h : q = p.frame starting t first n cause) :
    q = (if starting then started q.step first else p.retarget q.step n cause).advance := by
  have hstep : q.step = t := h ▸ (p.frame_step starting t first n cause).1
  rw [hstep, h, GainPoint.frame, GainPoint.startAgain_eq]

section
variable (s : State)

theorem gainStep_route (i : Fin 32) : (gainStep s).route[i] = routePointFrame s i := Vector.getElem_ofFn _

theorem gainStep_out (c : Fin 28) : (gainStep s).out[c] = outPointFrame s c := Vector.getElem_ofFn _

theorem gainStep_seat (z : Fin 2) : (gainStep s).seat[z] = s.gain.seat[z].frame s.gain.startPending
    (seatTarget s.mix z) s.gain.ramps.claim s.gain.ramps.claim .claim := Vector.getElem_ofFn _

theorem gainStep_feed (z : Fin 5) : (gainStep s).feed[z] = s.gain.feed[z].frame s.gain.startPending
    (feedTarget s.call z) s.gain.ramps.call s.gain.ramps.call .call := Vector.getElem_ofFn _

theorem gainStep_beam (b : Fin 2) : (gainStep s).beam[b] = s.gain.beam[b].frame s.gain.startPending
    (beamTarget s.uplink b) 480 480 .beam := Vector.getElem_ofFn _

theorem gainStep_routeContext (i : Fin 32) : (gainStep s).routeContext[i] = routeContextOf s i :=
  Vector.getElem_ofFn _

theorem gainStep_outContext (c : Fin 28) : (gainStep s).outContext[c] = outputContext s c := Vector.getElem_ofFn _

end

theorem suspended_iff (m : MixUnit) (r : RouteRecord) :
    suspended m r = true ↔ r.zone.val ≤ 2 ∧ ∃ c ∈ m.claims, c.source = r.source := by
  simp [suspended]

theorem ducking_iff (c : CallUnit) : ducking c = true ↔ c.state ≠ .idle ∧ c.state ≠ .closing := by
  unfold ducking
  cases c.state <;> simp

/-- The duck component by the call state and the route's class (R166, R167). -/
theorem duckPart_eq (c : CallUnit) (r : RouteRecord) : duckPart c r =
    match c.state, r.duck with
    | .idle, _ | .closing, _ | _, .none => .steps 0
    | _, .media => c.ducks[(c.placement.val * 5 + r.zone.val) * 2]
    | _, .prompt => c.ducks[(c.placement.val * 5 + r.zone.val) * 2 + 1] := by
  unfold duckPart ducking
  cases c.state <;> cases r.duck <;> rfl

theorem routeTarget_off {m : MixUnit} {c : CallUnit} {r : RouteRecord} (h : r.state ≠ .enabled ∨ suspended m r = true) :
    routeTarget m c r = .mute := by
  unfold routeTarget
  cases hr : r.state with
  | empty | disabled => rfl
  | enabled => exact if_pos (h.resolve_left (not_not.mpr hr))

theorem routeTarget_on {m : MixUnit} {c : CallUnit} {r : RouteRecord} (h : r.state = .enabled)
    (hs : ¬suspended m r = true) : routeTarget m c r = combine [.steps r.trim, duckPart c r] := by
  unfold routeTarget
  rw [h]
  exact if_neg hs

/-! ## The cause of a route's change (R51, R167) -/

theorem routeCause_suspension {r : RampRecord} {old new : RouteContext} (h : old.suspended ≠ new.suspended) :
    routeCause r old new = (r.claim, .suspension) := if_pos (bne_iff_ne.mpr h)

theorem routeCause_same {r : RampRecord} {old new : RouteContext} (h : old.suspended = new.suspended) :
    routeCause r old new = if (old.ducked ≠ new.ducked ∨ old.placement ≠ new.placement) ∧ old.duck ≠ new.duck then
      (r.route, .ducking) else (r.route, .route) := by
  unfold routeCause
  rw [if_neg (by simp [h])]
  simp only [Bool.and_eq_true, Bool.or_eq_true, bne_iff_ne]

/-! ## The cause of an output's change (R79) -/

theorem outputMove_same (x : Step) (fall rise : Nat) (cause : RampCause) : outputMove x x fall rise cause = none := by
  cases x with
  | mute => rfl
  | steps n => simp [outputMove]

/-- A single move decides alone. -/
theorem decideMoves_one (r : RampRecord) (m : OutputMove) : decideMoves r [m] = (m.length, m.cause) := by
  cases hm : m.falls <;> simp [decideMoves, hm, deepest, longest]

/-- No entry to STOPPING (R83). -/
def StopEntered (a b : OutputContext) : Prop := b.stopping = true ∧ a.stopping = false

theorem outputCause_stop {a b : OutputContext} (h : StopEntered a b) (r : RampRecord) :
    outputCause r a b = (r.stop, .stop) := by
  obtain ⟨hb, ha⟩ := h
  exact if_pos (by rw [hb, ha]; rfl)

theorem outputCause_moves {a b : OutputContext} (h : ¬StopEntered a b) (r : RampRecord) : outputCause r a b =
    (let all := outputMoves r a b
     let parts := all.filter fun x => x.2.target != a.target
     decideMoves r (if parts.isEmpty then all.map (·.1) else parts.map (·.1))) :=
  if_neg (by
    rw [Bool.and_eq_true, Bool.not_eq_true']
    exact h)

/-- The length and cause of a single move, or of none. -/
def moveCause (r : RampRecord) : Option OutputMove → Nat × RampCause
  | none => (r.volume, .volume)
  | some m => (m.length, m.cause)

/-- Where at most one component moves, its move decides. -/
theorem outputCause_single {a b u : OutputContext} {r : RampRecord} {o : Option OutputMove}
    (h : ¬StopEntered a b) (ho : outputMoves r a b = [o.map fun m => (m, u)].reduceOption) :
    outputCause r a b = moveCause r o := by
  rw [outputCause_moves h, ho]
  cases o with
  | none => rfl
  | some x =>
    cases hp : u.target != a.target <;> simp [List.reduceOption, hp, decideMoves_one, moveCause]

/-- Where two components move and each alone changes the target, both decide. -/
theorem outputCause_both {a b : OutputContext} {r : RampRecord} {p q : OutputMove} {u v : OutputContext}
    (h : ¬StopEntered a b) (ho : outputMoves r a b = [(p, u), (q, v)]) (hu : u.target ≠ a.target)
    (hv : v.target ≠ a.target) : outputCause r a b = decideMoves r [p, q] := by
  rw [outputCause_moves h, ho]
  simp [hu, hv]

theorem outputMove_steps_fall {x m : Int} (hm : m < 0) (fall rise : Nat) (cause : RampCause) :
    outputMove (.steps x) (.steps (x + m)) fall rise cause = some ⟨true, some (-m).toNat, fall, cause⟩ := by
  have hsize : x - (x + m) = -m := by omega
  rw [outputMove, if_pos (by omega), hsize]

theorem outputMove_steps_rise {x m : Int} (hm : 0 < m) (fall rise : Nat) (cause : RampCause) :
    outputMove (.steps x) (.steps (x + m)) fall rise cause = some ⟨false, some m.toNat, rise, cause⟩ := by
  have hsize : x + m - x = m := by omega
  rw [outputMove, if_neg (by omega), if_pos (by omega), hsize]

theorem outputMove_below {x y : Step} (h : y.below x = true) (fall rise : Nat) (cause : RampCause) :
    ∃ n, outputMove x y fall rise cause = some ⟨true, n, fall, cause⟩ := by
  cases x with
  | mute => cases y <;> cases h
  | steps a =>
    cases y with
    | mute => exact ⟨none, rfl⟩
    | steps b => exact ⟨some (a - b).toNat, if_pos (of_decide_eq_true h)⟩

theorem outputMove_above {x y : Step} (h : x.below y = true) (fall rise : Nat) (cause : RampCause) :
    ∃ n, outputMove x y fall rise cause = some ⟨false, n, rise, cause⟩ := by
  cases x with
  | mute =>
    cases y with
    | mute => cases h
    | steps b => exact ⟨none, rfl⟩
  | steps a =>
    cases y with
    | mute => cases h
    | steps b =>
      have hlt : a < b := of_decide_eq_true h
      exact ⟨some (b - a).toNat, (if_neg (by omega)).trans (if_pos hlt)⟩

/-- A move whose fall and rise have one length. -/
theorem outputMove_length {x y : Step} {n : Nat} {cause : RampCause} {m : OutputMove}
    (h : outputMove x y n n cause = some m) : m.length = n ∧ m.cause = cause := by
  unfold outputMove at h
  split at h
  · cases h
  · cases h
    exact ⟨rfl, rfl⟩
  · cases h
    exact ⟨rfl, rfl⟩
  · split at h
    · cases h
      exact ⟨rfl, rfl⟩
    · split at h
      · cases h
        exact ⟨rfl, rfl⟩
      · cases h

theorem outputMoves_curve {a b : OutputContext} (hm : a.muted = b.muted) (hr : a.reduction = b.reduction)
    (r : RampRecord) : outputMoves r a b =
      [(outputMove a.curve b.curve r.volume r.volume .volume).map fun m => (m, { a with curve := b.curve })].reduceOption := by
  rw [outputMoves, hm, hr, outputMove_same, outputMove_same]
  rfl

theorem outputMoves_mute {a b : OutputContext} (hc : a.curve = b.curve) (hr : a.reduction = b.reduction)
    (r : RampRecord) : outputMoves r a b =
      [(outputMove (muteStep a.muted) (muteStep b.muted) r.volume r.volume .volume).map fun m =>
        (m, { a with muted := b.muted })].reduceOption := by
  rw [outputMoves, hc, hr, outputMove_same, outputMove_same]
  rfl

theorem outputMoves_reduction {a b : OutputContext} (hc : a.curve = b.curve) (hm : a.muted = b.muted)
    (r : RampRecord) : outputMoves r a b =
      [(outputMove a.reduction b.reduction r.attack r.release .protection).map fun m =>
        (m, { a with reduction := b.reduction })].reduceOption := by
  rw [outputMoves, hc, hm, outputMove_same, outputMove_same]
  rfl

theorem outputMoves_two {a b : OutputContext} (hm : a.muted = b.muted) {r : RampRecord} {p q : OutputMove}
    (hp : outputMove a.curve b.curve r.volume r.volume .volume = some p)
    (hq : outputMove a.reduction b.reduction r.attack r.release .protection = some q) :
    outputMoves r a b = [(p, { a with curve := b.curve }), (q, { a with reduction := b.reduction })] := by
  rw [outputMoves, hp, hq, hm, outputMove_same]
  rfl

/-- Only the curve or only a mute has changed, or nothing: the volume ramp. -/
theorem outputCause_volume {a b : OutputContext} (h : ¬StopEntered a b) (hr : a.reduction = b.reduction)
    (hone : a.curve = b.curve ∨ a.muted = b.muted) (r : RampRecord) : outputCause r a b = (r.volume, .volume) := by
  rcases hone with hc | hm
  · rw [outputCause_single h (outputMoves_mute hc hr r)]
    cases ho : outputMove (muteStep a.muted) (muteStep b.muted) r.volume r.volume .volume with
    | none => rfl
    | some m =>
      obtain ⟨hlength, hcause⟩ := outputMove_length ho
      exact Prod.ext hlength hcause
  · rw [outputCause_single h (outputMoves_curve hm hr r)]
    cases ho : outputMove a.curve b.curve r.volume r.volume .volume with
    | none => rfl
    | some m =>
      obtain ⟨hlength, hcause⟩ := outputMove_length ho
      exact Prod.ext hlength hcause

/-- Two moves, both falls: the larger decides, of equal ones the shorter length. -/
theorem decideMoves_falls {r : RampRecord} {p q : OutputMove} (hp : p.falls = true) (hq : q.falls = true) :
    decideMoves r [p, q] =
      (let x := if largerFall q.size p.size || (q.size == p.size && decide (q.length < p.length)) then q else p
       (x.length, x.cause)) := by
  rw [decideMoves, if_pos (by simp [hp, hq])]
  rfl

/-- Two moves, both rises: the longer length decides. -/
theorem decideMoves_rises {r : RampRecord} {p q : OutputMove} (hp : p.falls = false) (hq : q.falls = false) :
    decideMoves r [p, q] = (let x := if p.length < q.length then q else p; (x.length, x.cause)) := by
  rw [decideMoves, if_neg (by simp [hp]), if_pos (by simp [hp, hq])]
  rfl

/-- A fall beside a rise takes the attack ramp. -/
theorem decideMoves_mixed {r : RampRecord} {p q : OutputMove} (h : (p.falls && q.falls || !p.falls && !q.falls) = false) :
    decideMoves r [p, q] = (r.attack, .protection) := by
  obtain ⟨hfalls, hrises⟩ := Bool.or_eq_false_iff.mp h
  rw [decideMoves, if_neg (by simpa using hfalls), if_neg (by simpa using hrises)]

/-- The causes of an output's change when curve value and reduction both move (R79). -/
theorem outputCause_together {r : RampRecord} {a b : OutputContext} (h : ¬StopEntered a b) {x y m n : Int}
    (hmuted : a.muted = b.muted) (hac : a.curve = .steps x) (har : a.reduction = .steps y)
    (hbc : b.curve = .steps (x + m)) (hbr : b.reduction = .steps (y + n))
    (hu : ({ a with curve := b.curve } : OutputContext).target ≠ a.target)
    (hv : ({ a with reduction := b.reduction } : OutputContext).target ≠ a.target) :
    (m < n → n < 0 → outputCause r a b = (r.volume, .volume)) ∧
    (n < m → m < 0 → outputCause r a b = (r.attack, .protection)) ∧
    (m < 0 → m = n → (outputCause r a b).1 = min r.volume r.attack) ∧
    (0 < m → 0 < n → (outputCause r a b).1 = max r.volume r.release) ∧
    (m < 0 → 0 < n → outputCause r a b = (r.attack, .protection)) ∧
    (0 < m → n < 0 → outputCause r a b = (r.attack, .protection)) := by
  have hboth {p q : OutputMove}
      (hp : outputMove (.steps x) (.steps (x + m)) r.volume r.volume .volume = some p)
      (hq : outputMove (.steps y) (.steps (y + n)) r.attack r.release .protection = some q) :
      outputCause r a b = decideMoves r [p, q] :=
    outputCause_both h (outputMoves_two hmuted (by rw [hac, hbc, hp]) (by rw [har, hbr, hq])) hu hv
  refine ⟨fun h1 h2 => ?_, fun h1 h2 => ?_, fun h1 h2 => ?_, fun h1 h2 => ?_, fun h1 h2 => ?_, fun h1 h2 => ?_⟩
  · rw [hboth (outputMove_steps_fall (by omega) _ _ _) (outputMove_steps_fall h2 _ _ _), decideMoves_falls rfl rfl]
    have hlarger : ¬(largerFall (some (-n).toNat) (some (-m).toNat) ||
        (some (-n).toNat == some (-m).toNat && decide (r.attack < r.volume))) = true := by
      have hne : (-n).toNat ≠ (-m).toNat := by omega
      have hle : ¬(-m).toNat < (-n).toNat := by omega
      simp [largerFall, hne, hle]
    dsimp only
    rw [if_neg hlarger]
  · rw [hboth (outputMove_steps_fall h2 _ _ _) (outputMove_steps_fall (by omega) _ _ _), decideMoves_falls rfl rfl]
    have hlarger : (largerFall (some (-n).toNat) (some (-m).toNat) ||
        (some (-n).toNat == some (-m).toNat && decide (r.attack < r.volume))) = true := by
      have hlt : (-m).toNat < (-n).toNat := by omega
      simp [largerFall, hlt]
    dsimp only
    rw [if_pos hlarger]
  · subst h2
    rw [hboth (outputMove_steps_fall h1 _ _ _) (outputMove_steps_fall h1 _ _ _), decideMoves_falls rfl rfl]
    by_cases hlt : r.attack < r.volume
    · simp [largerFall, hlt, Nat.min_eq_right hlt.le]
    · simp [largerFall, hlt, Nat.min_eq_left (not_lt.mp hlt)]
  · rw [hboth (outputMove_steps_rise h1 _ _ _) (outputMove_steps_rise h2 _ _ _), decideMoves_rises rfl rfl]
    by_cases hlt : r.volume < r.release
    · simp [hlt, Nat.max_eq_right hlt.le]
    · simp [hlt, Nat.max_eq_left (not_lt.mp hlt)]
  · exact (hboth (outputMove_steps_fall h1 _ _ _) (outputMove_steps_rise h2 _ _ _)).trans (decideMoves_mixed rfl)
  · exact (hboth (outputMove_steps_rise h1 _ _ _) (outputMove_steps_fall h2 _ _ _)).trans (decideMoves_mixed rfl)

end Sys2Proof.Machine


namespace Sys2Proof.Machine

/-! ## Every target, ramp and cause of a frame (R51, R68, R73, R79) -/

theorem routePointFrame_eq (s : State) (i : Fin 32) : routePointFrame s i = s.gain.route[i].frame s.gain.startPending
    (routeTarget s.mix s.call s.mix.routes[i]) s.gain.ramps.route
    (routeCause s.gain.ramps s.gain.routeContext[i] (routeContextOf s i)).1
    (routeCause s.gain.ramps s.gain.routeContext[i] (routeContextOf s i)).2 := rfl

theorem outPointFrame_eq (s : State) (c : Fin 28) : outPointFrame s c = s.gain.out[c].frame s.gain.startPending
    (outputContext s c).target s.gain.ramps.volume
    (outputCause s.gain.ramps s.gain.outContext[c] (outputContext s c)).1
    (outputCause s.gain.ramps s.gain.outContext[c] (outputContext s c)).2 := rfl

theorem gainStep_route_step (s : State) (i : Fin 32) :
    (gainStep s).route[i].step = routeTarget s.mix s.call s.mix.routes[i] := by
  rw [gainStep_route, routePointFrame_eq]
  exact (GainPoint.frame_step _ _ _ _ _ _).1

theorem gainStep_out_step (s : State) (c : Fin 28) : (gainStep s).out[c].step = (outputContext s c).target := by
  rw [gainStep_out, outPointFrame_eq]
  exact (GainPoint.frame_step _ _ _ _ _ _).1

/-- A point that takes a target has its linear gain. -/
theorem GainPoint.frame_sound_linear {p q : GainPoint} {starting : Bool} {t : Step} {first n : Nat} {cause : RampCause}
    (h : q = p.frame starting t first n cause) : q.linear = linearOf q.step := by
  obtain ⟨hstep, hlinear⟩ := p.frame_step starting t first n cause
  rw [h, hstep, hlinear]

theorem outputContext_none {s : State} {c : Fin 28} (h : s.chan.channels[c].record.zone = none) :
    (outputContext s c).target = .mute := by
  unfold outputContext
  dsimp only
  rw [h]
  rfl

/-- An output's target under its zone's mute, in STOPPING, or of its components (R73, R74). -/
theorem outputContext_some {s : State} {c : Fin 28} {z : Fin 5} (h : s.chan.channels[c].record.zone = some z) :
    (outputContext s c).target = if s.mix.zones[z].mute = true ∨ s.msg.op = .stopping then .mute
      else limitStep (addStep (addStep (curveValue s c z) (.steps s.chan.channels[c].record.trim))
        s.prot.records[c].reduction) := by
  unfold outputContext
  dsimp only
  rw [h]
  dsimp only [OutputContext.target]
  rw [combine_three]
  simp only [Bool.false_or, Bool.or_eq_true, beq_iff_eq]

theorem curveValue_eq (s : State) (c : Fin 28) (z : Fin 5) : curveValue s c z =
    match s.gain.curve[s.mix.zones[z].curve.val * 64 + s.mix.zones[z].volume.val] with
    | .mute => .mute
    | .steps v => .steps (if c.val < 24 ∧ 3 ≤ z.val then min v s.mix.zones[z].cap else v) := by
  unfold curveValue
  dsimp only
  split
  · next h => rw [h]
  · next v h =>
    rw [h]
    exact (apply_ite Step.steps _ _ _).symm

theorem placementCloses_iff (p : Fin 4) (z : Fin 5) :
    placementCloses p z = true ↔ (p = 2 ∧ z ≠ 3) ∨ (p = 3 ∧ z ≠ 4) := by
  simp [placementCloses]

theorem feedTarget_eq (c : CallUnit) (z : Fin 5) : feedTarget c z =
    match c.state with
    | .idle | .onHold | .closing => .mute
    | .alerting | .active =>
      if (c.placement = 2 ∧ z ≠ 3) ∨ (c.placement = 3 ∧ z ≠ 4) then .mute
      else limitStep c.placements[c.placement.val * 5 + z.val] := by
  unfold feedTarget
  simp only [placementCloses_iff, combine_one]
  rfl

theorem uplinkTarget_eq (s : State) : uplinkTarget s =
    if s.msg.op = .stopping ∨ s.call.state ≠ .active then .mute
    else limitStep (.steps (s.call.uplinkGain +
      if s.uplink.echo = .converging then s.uplink.record.attenuation else 0)) := by
  have hecho : echoAttenuation s.uplink = if s.uplink.echo = .converging then s.uplink.record.attenuation else 0 := by
    unfold echoAttenuation
    cases s.uplink.echo <;> rfl
  unfold uplinkTarget
  rw [combine_two, hecho]
  by_cases hop : s.msg.op = .stopping
  · rw [if_pos (beq_iff_eq.mpr hop), if_pos (.inl hop)]
  · rw [if_neg (mt beq_iff_eq.mp hop)]
    cases hc : s.call.state with
    | active => simp [hop, addStep]
    | idle | alerting | onHold | closing => simp

theorem radioTarget_eq (s : State) : radioTarget s =
    if s.radio.blocksSinceTune < s.radio.settle ∨ s.radio.noAntenna = true then .mute else limitStep s.radio.softMute := by
  unfold radioTarget settleForced
  rw [combine_one]
  simp only [Bool.or_eq_true, decide_eq_true_eq]

theorem beamTarget_eq (u : UplinkUnit) (b : Fin 2) : beamTarget u b =
    if (b = u.live ∧ u.fading = false) ∨ (b ≠ u.live ∧ u.fading = true) then .steps 0 else .mute := by
  unfold beamTarget
  by_cases hb : b = u.live <;> cases u.fading <;> simp [hb]

/-- The limits of R69, in the order in which the statement of the targets writes them. -/
theorem limitStep_cases : limitStep = fun a => match a with
    | .steps n => if n < -320 then .mute else .steps (min 32 n)
    | .mute => .mute := by
  funext a
  cases a <;> rfl

theorem addStep_cases : addStep = fun a b => match a, b with
    | .steps x, .steps y => .steps (x + y)
    | _, _ => .mute := by
  funext a b
  cases a <;> cases b <;> rfl

/-- Settles O49: the targets from their components, then every point's ramp, then the causes of an output's change. -/
theorem pointTargets : Obligations.PointTargets := by
  intro s g
  refine ⟨fun i => ?_, fun c => ?_, ?_, fun i => ?_, fun z => ?_, fun z => ?_, fun c => ?_, ?_, ?_, fun b => ?_, ?_, ?_⟩
  · exact GainPoint.frame_sound_linear (gainStep_route s i)
  · exact GainPoint.frame_sound_linear (gainStep_out s c)
  · exact GainPoint.frame_sound_linear rfl
  · intro x off duck
    have hstep : g.route[i].step = routeTarget s.mix s.call x := gainStep_route_step s i
    have hoff : off ↔ x.state ≠ .enabled ∨ suspended s.mix x = true := or_congr Iff.rfl (suspended_iff s.mix x).symm
    rw [hstep, hoff]
    refine ⟨routeTarget_off, fun hon => ?_⟩
    obtain ⟨henabled, hsuspended⟩ := not_or.mp hon
    rw [routeTarget_on (not_not.mp henabled) hsuspended, combine_two, duckPart_eq, limitStep_cases, addStep_cases] <;> rfl
  · have hstep : g.seat[z].step = seatTarget s.mix z := by
      rw [show g.seat[z] = _ from gainStep_seat s z]
      exact (GainPoint.frame_step _ _ _ _ _ _).1
    exact hstep
  · have hstep : g.feed[z].step = feedTarget s.call z := by
      rw [show g.feed[z] = _ from gainStep_feed s z]
      exact (GainPoint.frame_step _ _ _ _ _ _).1
    rw [hstep, feedTarget_eq, limitStep_cases] <;> rfl
  · have hstep : g.out[c].step = (outputContext s c).target := gainStep_out_step s c
    rw [hstep]
    cases hz : s.chan.channels[c].record.zone with
    | none => exact outputContext_none hz
    | some z =>
      rw [outputContext_some hz, curveValue_eq, limitStep_cases, addStep_cases] <;> rfl
  · have hstep : g.uplink.step = uplinkTarget s := (GainPoint.frame_step _ _ _ _ _ _).1
    rw [hstep, uplinkTarget_eq, limitStep_cases] <;> rfl
  · have hstep : g.radio.step = radioTarget s := (GainPoint.frame_step _ _ _ _ _ _).1
    rw [hstep, radioTarget_eq, limitStep_cases] <;> rfl
  · have hstep : g.beam[b].step = beamTarget s.uplink b := by
      rw [show g.beam[b] = _ from gainStep_beam s b]
      exact (GainPoint.frame_step _ _ _ _ _ _).1
    rw [hstep, beamTarget_eq]
  · intro r first runs
    refine ⟨rfl, fun i => ?_, fun z => ?_, fun z => ?_, ?_, ?_, fun b => ?_, fun c => ?_⟩
    · intro old new x moved
      have hnew : new = routeContextOf s i := gainStep_routeContext s i
      have hruns {n : Nat} {cause : RampCause} (h : routeCause r old new = (n, cause)) :
          runs s.gain.route[i] g.route[i] r.route n cause := by
        refine GainPoint.frame_runs (t := routeTarget s.mix s.call x) ?_
        rw [show g.route[i] = _ from gainStep_route s i, routePointFrame_eq, ← hnew,
          show routeCause s.gain.ramps _ _ = _ from h]
      refine ⟨?_, ?_, ?_, ?_, fun hs => hruns (routeCause_suspension hs),
        fun hs hmoved => hruns ((routeCause_same hs).trans (if_pos hmoved)),
        fun hs hmoved => hruns ((routeCause_same hs).trans (if_neg hmoved))⟩
      · rw [hnew]
        exact suspended_iff s.mix x
      · rw [hnew]
        exact ducking_iff s.call
      · rw [hnew]
        rfl
      · rw [hnew]
        exact duckPart_eq s.call x
    · exact GainPoint.frame_runs (gainStep_seat s z)
    · exact GainPoint.frame_runs (gainStep_feed s z)
    · exact GainPoint.frame_runs (t := uplinkTarget s) rfl
    · intro falls
      have hstep : g.radio.step = radioTarget s := (GainPoint.frame_step _ _ _ _ _ _).1
      have hfalls : (radioTarget s).below s.gain.radio.step = true ↔ falls := by
        show _ ↔ match s.gain.radio.step, g.radio.step with
          | .steps _, .mute => True
          | .steps a, .steps b => b < a
          | .mute, _ => False
        rw [hstep]
        cases s.gain.radio.step <;> cases radioTarget s <;> simp [Step.below]
      have hruns (n : Nat) (h : radioLength r s.gain.radio.step (radioTarget s) = n) :
          runs s.gain.radio g.radio r.release n .radio :=
        GainPoint.frame_runs (t := radioTarget s) (by rw [← h]; rfl)
      exact ⟨fun h => hruns _ (if_pos (hfalls.mpr h)), fun h => hruns _ (if_neg (mt hfalls.mp h))⟩
    · exact GainPoint.frame_runs (gainStep_beam s b)
    · intro k
      have hcontext : g.outContext[c] = outputContext s c := gainStep_outContext s c
      refine ⟨GainPoint.frame_runs (t := (outputContext s c).target) ?_, hcontext⟩
      rw [show g.out[c] = _ from gainStep_out s c, outPointFrame_eq, ← hcontext]
  · intro r a b alone
    have hcalm (h : b.stopping = false ∨ a.stopping = true) : ¬StopEntered a b := by
      rintro ⟨hb, ha⟩
      rcases h with h | h
      · exact absurd (hb.symm.trans h) nofun
      · exact absurd (ha.symm.trans h) nofun
    refine ⟨fun hb ha => outputCause_stop ⟨hb, ha⟩ r, fun h => ⟨fun hc hm hr => ?_, fun hr hone => ?_, fun hc hm hr => ?_,
      fun hc hm hr => ?_, fun x y m n hm hac har hbc hbr hu hv => ?_⟩⟩
    · exact outputCause_volume (hcalm h) hr (.inl hc) r
    · exact outputCause_volume (hcalm h) hr hone r
    · obtain ⟨n, hmove⟩ := outputMove_below hr r.attack r.release .protection
      rw [outputCause_single (hcalm h) (outputMoves_reduction hc hm r), hmove]
      rfl
    · obtain ⟨n, hmove⟩ := outputMove_above hr r.attack r.release .protection
      rw [outputCause_single (hcalm h) (outputMoves_reduction hc hm r), hmove]
      rfl
    · exact outputCause_together (hcalm h) hm hac har hbc hbr hu hv

end Sys2Proof.Machine


namespace Sys2Proof.Machine

/-! ## Positions (R3, R4) -/

theorem takePosition_eq (p : Option Node) (s : State) : takePosition p s =
    (s.setRing { s.ring with position := p }).setMsg
      { s.msg with sent := if p = s.ring.position then s.msg.sent else 0 } := by
  unfold takePosition
  by_cases h : p = s.ring.position
  · rw [if_pos h, if_pos h, h]
    rfl
  · rw [if_neg h, if_neg h]
    rfl

theorem adoptPosition_same {p : Option Node} {s : State} (h : p = s.ring.position) : adoptPosition p s = s := if_pos h

theorem adoptPosition_new {p : Option Node} {s : State} (h : p ≠ s.ring.position) : adoptPosition p s =
    postNotice (.link true false p s.ring.position) ((s.setRing { s.ring with position := p }).setMsg
      { s.msg with sent := 0 }) := by
  rw [adoptPosition, if_neg h, takePosition, if_neg h]
  rfl

/-- A linked part as a good frame finds it once it has taken the frame's position (R4, R6). -/
def adopted (f : Frame) (s : State) : State :=
  (s.setRing { s.ring with frameSeen := true, badRun := 0, position := positionOf f.hop }).setMsg { s.msg with
    sent := if positionOf f.hop = s.ring.position then s.msg.sent else 0
    notices := if positionOf f.hop = s.ring.position then s.msg.notices
      else postTo s.msg.notices (.link true false (positionOf f.hop) s.ring.position) }

theorem goodFrame_linked {f : Frame} {s : State} (h : s.ring.link = .linked) :
    goodFrame f s = processFrame f (adopted f s) := by
  have hlinked : goodFrame f s = linkedFrame f (seeFrame s) := by
    unfold goodFrame
    dsimp only
    rw [show (seeFrame s).ring.link = .linked from h]
  rw [hlinked, linkedFrame]
  unfold adopted
  by_cases hp : positionOf f.hop = s.ring.position
  · rw [adoptPosition_same (by exact hp), if_pos hp, if_pos hp, hp]
    rfl
  · rw [adoptPosition_new (by exact hp), if_neg hp, if_neg hp]
    rfl

theorem goodFrame_acquires {f : Frame} {s : State} (h : s.ring.link = .acquiring) (hr : s.ring.goodRun = 15) :
    goodFrame f s = acquireLink f (seeFrame s) := by
  unfold goodFrame
  dsimp only
  rw [show (seeFrame s).ring.link = .acquiring from h]
  exact if_pos (by rw [show (seeFrame s).ring.goodRun = 15 from hr])

theorem goodFrame_relinks {f : Frame} {s : State} (h : s.ring.link = .lost) (hr : s.ring.goodRun = 15) :
    goodFrame f s = relinkFrame f (seeFrame s) := by
  unfold goodFrame
  dsimp only
  rw [show (seeFrame s).ring.link = .lost from h]
  exact if_pos (by rw [show (seeFrame s).ring.goodRun = 15 from hr])

theorem exec_goodFrame (f : Frame) (s : State) : exec (.goodFrame f) s = .next (goodFrame f s) := rfl

theorem exec_linkAcquired (f : Frame) (s : State) : exec (.linkAcquired f) s =
    .next (if s.ring.link = .acquiring ∧ 16 ≤ s.ring.goodRun + 1 then acquireLink f (seeFrame s) else s) := rfl

theorem exec_relink (f : Frame) (s : State) : exec (.relink f) s =
    .next (if s.ring.link = .lost ∧ 16 ≤ s.ring.goodRun + 1 then relinkFrame f (seeFrame s) else s) := rfl

/-- Settles O10: acquisition, relink, a new position in LINKED, and the rows that are not due. -/
theorem linkAcquiredAndRelink : Obligations.LinkAcquiredAndRelink := by
  refine ⟨fun f s hl hr => ?_, fun f s hl hr => ?_, fun f s hl => ?_, fun f s h => ?_, fun f s h => ?_⟩
  · intro p
    have hexec : exec (.linkAcquired f) s = .next (acquireLink f (seeFrame s)) := by
      rw [exec_linkAcquired, if_pos ⟨hl, by omega⟩]
    refine ⟨hexec.trans ?_, ?_⟩
    · rw [acquireLink, takePosition_eq]
      rfl
    · rw [hexec, exec_goodFrame, goodFrame_acquires hl hr]
  · intro p u n v
    have hexec : exec (.relink f) s = .next (relinkFrame f (seeFrame s)) := by
      rw [exec_relink, if_pos ⟨hl, by omega⟩]
    refine ⟨hexec.trans ?_, ?_⟩
    · rw [relinkFrame, takePosition_eq]
      rfl
    · rw [hexec, exec_goodFrame, goodFrame_relinks hl hr]
  · intro p u
    have hlinked : goodFrame f s = processFrame f (adoptPosition p u) := by
      unfold goodFrame
      dsimp only
      rw [show (seeFrame s).ring.link = .linked from hl]
      rfl
    refine ⟨fun hp => ?_, fun hp => ?_⟩
    · rw [exec_goodFrame, hlinked, adoptPosition_same (by exact hp)]
    · rw [exec_goodFrame, hlinked, adoptPosition_new (by exact hp)]
      rfl
  · rw [exec_linkAcquired, if_neg]
    rintro ⟨hl, hr⟩
    exact h.elim (fun h => h hl) fun h => by omega
  · rw [exec_relink, if_neg]
    rintro ⟨hl, hr⟩
    exact h.elim (fun h => h hl) fun h => by omega

/-! ## What a processed frame carries (R2, R3, R12, R15, R19) -/

theorem replyForwarded_of_used {s : State} {r : ReplyField} (h : r.wtype ≠ .idle) : replyForwarded s r = r := if_neg h

theorem replyForwarded_of_idle {s : State} {r : ReplyField} (h : r.wtype = .idle) :
    replyForwarded s r = (nextWord s).getD r := if_pos h

theorem nextWord_getD (s : State) (r : ReplyField) : (nextWord s).getD r =
    match s.ring.position, s.msg.queue with
    | some n, m :: _ =>
      match (messageWords m n)[s.msg.sent]? with
      | some w => ⟨w.1, n, w.2⟩
      | none => r
    | _, _ => r := by
  unfold nextWord
  cases s.ring.position with
  | none => rfl
  | some n =>
    cases s.msg.queue with
    | nil => rfl
    | cons m rest =>
      dsimp only
      cases (messageWords m n)[s.msg.sent]? <;> rfl

theorem frameForwarded_slot (s : State) (f : Frame) (i : Fin 96) :
    (frameForwarded s f).slots[i] = slotForwarded s f i := Vector.getElem_ofFn _

/-- Settles O6: the frame that a processed one leaves as. -/
theorem goodFrameTransmits : Obligations.GoodFrameTransmits := by
  intro f s hl
  refine ⟨goodFrame f s, frameForwarded (adopted f s) f, rfl, ?_, rfl, rfl, rfl, rfl,
    fun hr => replyForwarded_of_used hr, fun hr => ?_, fun i => ?_⟩
  · rw [goodFrame_linked hl, processFrame_transmitted]
  · intro p k
    exact (replyForwarded_of_idle hr).trans (nextWord_getD _ _)
  · intro held j pattern
    have hheld : outputOf (adopted f s) s.ring.slotMap[i] = held := by
      show _ = match s.ring.slotMap[i] with
        | .out c => some s.chan.channels[c].out
        | .uplink => some s.uplink.out
        | _ => none
      cases s.ring.slotMap[i] <;> rfl
    rw [frameForwarded_slot, slotForwarded, show outputOf (adopted f s) (adopted f s).ring.slotMap[i] = held from hheld]
    cases held with
    | none => rfl
    | some x =>
      dsimp only
      rw [show (adopted f s).msg.op = s.msg.op from rfl]
      cases s.msg.op with
      | config | run | stopping => rfl
      | pattern => exact (rfl : patternWord s.ring j f.index.val = pattern)

/-! ## Message assembly (R21 to R23) -/

/-- A path-change event changes no part of the message unit but the notices. -/
theorem takePath_msg (s : State) : { (takePath s).msg with notices := s.msg.notices } = s.msg := by
  cases h : s.uplink.pathRaised with
  | false => rw [takePath_idle h]
  | true =>
    rw [takePath_of_raised h]
    unfold pathEffect
    cases (clearPath s).uplink.echo <;> rfl

theorem gainFrame_msg (s : State) : { (gainFrame s).msg with notices := s.msg.notices } = s.msg := by
  unfold gainFrame
  generalize gainStep s = x
  generalize gainEvent s = e
  cases e with
  | false => rfl
  | true => exact takePath_msg (raisePath (s.setGain x))

/-- The units change no part of the message unit but the notices. -/
theorem unitsFrame_msg (f : Frame) (b : Bool) (s : State) :
    { (unitsFrame f b s).msg with notices := s.msg.notices } = s.msg := by
  cases b with
  | false => exact congrArg (fun m : MessageUnit => { m with notices := s.msg.notices }) (gainRecord_frame s).2.1
  | true =>
    have hmsg : (audioFrame f s).msg = (gainFrame (ampFrame f s)).msg := by simp [audioFrame]
    show { (audioFrame f s).msg with notices := s.msg.notices } = s.msg
    rw [hmsg]
    exact gainFrame_msg (ampFrame f s)

/-- Sending a word moves the queue, the count of words sent and a RESET's phase alone. -/
theorem frameSent_msg (f : Frame) (s : State) :
    { (frameSent f s).msg with queue := s.msg.queue, sent := s.msg.sent, resetPhase := s.msg.resetPhase } = s.msg := by
  unfold frameSent sendWord
  split
  · split
    · rfl
    · show { s.msg.wordSent with queue := s.msg.queue, sent := s.msg.sent, resetPhase := s.msg.resetPhase } = s.msg
      unfold MessageUnit.wordSent
      split
      · rfl
      · split <;> rfl
  · rfl

theorem frameSent_ring (f : Frame) (s : State) :
    (frameSent f s).ring.link = s.ring.link ∧ (frameSent f s).ring.position = s.ring.position := by
  unfold frameSent sendWord
  split
  · split <;> exact ⟨rfl, rfl⟩
  · exact ⟨rfl, rfl⟩

theorem gapTick_assembling {s : State} {h : Word} {b : List Word} {o : Bool} {g : Nat}
    (ha : s.msg.assembly = .assembling h b o g) : gapTick s =
      if g < 64 then s.setMsg { s.msg with assembly := .assembling h b o (g + 1) }
      else s.setMsg { s.msg with assembly := .empty, broken := min 65535 (s.msg.broken + 1) } := by
  unfold gapTick
  rw [ha]
  dsimp only
  by_cases hg : g < 64
  · rw [if_pos hg, if_neg (by omega)]
    rfl
  · rw [if_neg hg, if_pos (by omega)]
    rfl

theorem gapTick_skipping {s : State} {g : Nat} (ha : s.msg.assembly = .skipping g) : gapTick s =
    if g < 64 then s.setMsg { s.msg with assembly := .skipping (g + 1) }
    else s.setMsg { s.msg with assembly := .empty } := by
  unfold gapTick
  rw [ha]
  dsimp only
  by_cases hg : g < 64
  · rw [if_pos hg, if_neg (by omega)]
    rfl
  · rw [if_neg hg, if_pos (by omega)]
    rfl

theorem gapTick_empty {s : State} (ha : s.msg.assembly = .empty) : gapTick s = s := by
  unfold gapTick
  rw [ha]

theorem exec_messageGapTimeout (s : State) :
    exec .messageGapTimeout s = .next (if s.linked && gapDue s then gapTick s else s) := rfl

/-- The gap row with the gap count at 64, and below it. -/
theorem exec_gap {s : State} {g : Nat} (hl : s.ring.link = .linked) (hdue : gapDue s = decide (65 ≤ g + 1)) :
    exec .messageGapTimeout s = .next (if g < 64 then s else gapTick s) := by
  rw [exec_messageGapTimeout, linked_of_link hl, hdue, Bool.true_and]
  by_cases hg : g < 64
  · rw [if_pos hg, decide_eq_false (by omega)]
    rfl
  · rw [if_neg hg, decide_eq_true (by omega)]
    rfl

theorem node_eq_iff {w : Word} (p : Node) : BitVec.ofNat 4 (field w 31 28) = p ↔ p.toNat = field w 31 28 := by
  have hlt := field_lt w 31 28
  rw [← BitVec.toNat_inj, BitVec.toNat_ofNat, Nat.mod_eq_of_lt hlt]
  exact eq_comm

/-- A HEAD word names this part: the broadcast destination, or the position held. -/
theorem forUs_iff (w : Word) (s : State) : forUs (headDest w) s = true ↔
    field w 31 28 = 0 ∨ ∃ p : Node, s.ring.position = some p ∧ p.toNat = field w 31 28 := by
  unfold forUs headDest
  rw [Bool.or_eq_true, beq_iff_eq, beq_iff_eq, node_eq_iff]
  refine or_congr eq_comm ⟨fun h => ⟨_, h, (node_eq_iff _).mp rfl⟩, fun ⟨p, hp, hval⟩ => ?_⟩
  rw [hp, (node_eq_iff p).mpr hval]

theorem messageSound_iff (h w : Word) (b : List Word) (o : Bool) : messageSound h b o w = true ↔
    o = false ∧ b.length = field h 17 14 ∧ (h :: b ++ [w]).sum = 0 := by
  unfold messageSound
  rw [wordSum_eq_sum, Bool.and_eq_true, Bool.and_eq_true, Bool.not_eq_true', beq_iff_eq, beq_iff_eq, and_assoc,
    List.sum_append, List.sum_singleton]

/-- The request of a message, from the fields of its HEAD word. -/
theorem requestOf_eq {h : Word} {b : List Word} {r : Request} (hd : r.dest.toNat = field h 31 28)
    (ho : r.origin.toNat = field h 27 24) (ht : r.tag.toNat = field h 7 0) (hp : r.payload = b) : requestOf h b = r := by
  have hdest : headDest h = r.dest := (node_eq_iff r.dest).mpr hd
  have horigin : BitVec.ofNat 4 (field h 27 24) = r.origin := by rw [← ho, BitVec.ofNat_toNat, BitVec.setWidth_eq]
  have htag : BitVec.ofNat 8 (field h 7 0) = r.tag := by rw [← ht, BitVec.ofNat_toNat, BitVec.setWidth_eq]
  unfold requestOf
  rw [hdest, horigin, htag, ← hp]

theorem takeCommand_idle {f : Frame} {u : State} (h : f.ctype = .idle) : takeCommand f u = gapTick u := by
  rw [takeCommand, h]

theorem takeCommand_head {f : Frame} {u : State} (h : f.ctype = .head) : takeCommand f u = takeHead f.cword u := by
  rw [takeCommand, h]

theorem takeCommand_body {f : Frame} {u : State} (h : f.ctype = .body) : takeCommand f u = takeBody f.cword u := by
  rw [takeCommand, h]

theorem takeCommand_check {f : Frame} {u : State} (h : f.ctype = .check) : takeCommand f u = takeCheck f.cword u := by
  rw [takeCommand, h]

/-- A HEAD word that finds an unfinished message counts it as broken. -/
theorem takeHead_counted (a : Assembly) (u : State) :
    setAssembly a (match u.msg.assembly with
      | .assembling .. => countBroken u
      | .empty | .skipping _ => u) = u.setMsg { u.msg with
        assembly := a
        broken := match u.msg.assembly with
          | .assembling .. => min 65535 (u.msg.broken + 1)
          | _ => u.msg.broken } := by
  cases u.msg.assembly <;> rfl

/-- A CHECK word at the end of a message (R23, R24). -/
theorem takeCheck_assembling {w : Word} {u : State} {h : Word} {b : List Word} {o : Bool} {g : Nat}
    (ha : u.msg.assembly = .assembling h b o g) : takeCheck w u =
      if messageSound h b o w then
        takeRequest (headKind h) (answerCode (headKind h)) (requestOf h b) (setAssembly .empty u)
      else u.setMsg { u.msg with assembly := .empty, checkFailed := min 65535 (u.msg.checkFailed + 1) } := by
  unfold takeCheck
  rw [ha]
  rfl

/-- Settles O12: the gap row, the frame that hands its command word over, and each word type in each assembly state. -/
theorem messageGapTimeout : Obligations.MessageGapTimeout := by
  refine ⟨⟨fun s h b o g hl ha => ?_, fun s g hl ha => ?_, fun s h => ?_⟩, fun f s hl => ?_, fun f u => ?_⟩
  · rw [exec_gap (g := g) hl (by rw [gapDue, ha]), gapTick_assembling ha]
    by_cases hg : g < 64
    · rw [if_pos hg, if_pos hg]
    · rw [if_neg hg, if_neg hg, if_neg hg]
  · rw [exec_gap (g := g) hl (by rw [gapDue, ha]), gapTick_skipping ha]
    by_cases hg : g < 64
    · rw [if_pos hg, if_pos hg]
    · rw [if_neg hg, if_neg hg, if_neg hg]
  · rw [exec_messageGapTimeout]
    rcases h with h | h
    · rw [not_linked_of_link h]
      rfl
    · rw [gapDue, h, Bool.and_false]
      rfl
  · have hsent := frameSent_msg f (adopted f s)
    have hunits := unitsFrame_msg f s.running (frameSent f (adopted f s))
    have hring := unitsFrame_ring f s.running (frameSent f (adopted f s))
    obtain ⟨hlink, hposition⟩ := frameSent_ring f (adopted f s)
    have hqueue : (unitsFrame f s.running (frameSent f (adopted f s))).msg.queue =
        (frameSent f (adopted f s)).msg.queue := (congrArg MessageUnit.queue hunits :)
    refine ⟨unitsFrame f s.running (frameSent f (adopted f s)), gainEvent (frameSent f (adopted f s)),
      (congrArg RingUnit.link hring).trans (hlink.trans hl), (congrArg RingUnit.position hring).trans hposition,
      (congrArg MessageUnit.assembly hunits :).trans (congrArg MessageUnit.assembly hsent :),
      (congrArg MessageUnit.broken hunits :).trans (congrArg MessageUnit.broken hsent :),
      (congrArg MessageUnit.checkFailed hunits :).trans (congrArg MessageUnit.checkFailed hsent :),
      (congrArg MessageUnit.dropped hunits :).trans (congrArg MessageUnit.dropped hsent :),
      (congrArg MessageUnit.cursor hunits :).trans (congrArg MessageUnit.cursor hsent :),
      (congrArg MessageUnit.op hunits :).trans (congrArg MessageUnit.op hsent :), ?_⟩
    rw [exec_goodFrame, goodFrame_linked hl, processFrame_eq, hqueue]
    rfl
  · intro w dest ours put broken
    have hours : forUs (headDest w) u = true ↔ ours := forUs_iff w u
    refine ⟨fun ht => ?_, fun ht => ?_, fun ht => ?_, fun ht => ?_⟩
    · rw [takeCommand_idle ht]
      cases ha : u.msg.assembly with
      | empty => exact gapTick_empty ha
      | assembling h b o g => exact gapTick_assembling ha
      | skipping g => exact gapTick_skipping ha
    · intro n
      rw [takeCommand_head ht]
      refine ⟨fun h => ?_, fun h => ?_⟩
      · rw [takeHead, if_pos (hours.mpr h)]
        exact takeHead_counted _ _
      · rw [takeHead, if_neg (mt hours.mp h)]
        exact takeHead_counted _ _
    · rw [takeCommand_body ht, takeBody]
      cases ha : u.msg.assembly with
      | empty | assembling | skipping => rfl
    · rw [takeCommand_check ht]
      refine ⟨fun ha => ?_, fun g ha => ?_, fun h b o g ha => ?_⟩
      · rw [takeCheck, ha]
      · rw [takeCheck, ha]
        rfl
      · intro sound
        have hsound : messageSound h b o w = true ↔ sound := messageSound_iff h w b o
        rw [takeCheck_assembling ha]
        refine ⟨fun hno => if_neg (mt hsound.mp hno), fun k r hk hd ho htag hp hyes hlinked haddr => ?_⟩
        have hkind : headKind h = k := by
          rw [headKind, ← hk, BitVec.ofNat_toNat, BitVec.setWidth_eq]
        rw [if_pos (hsound.mpr hyes), hkind, requestOf_eq hd ho htag hp]
        refine congrArg Host.Outcome.next (if_pos ?_)
        rw [Bool.and_eq_true, addressed, Bool.or_eq_true, beq_iff_eq, beq_iff_eq]
        exact ⟨hlinked, haddr⟩

end Sys2Proof.Machine


namespace Sys2Proof.Machine

/-! ## A frame while the units do not run (R11, R68) -/

/-- Sending a word makes no RESET due while no queued message is a RESET's reply. -/
theorem frameSent_phase {f : Frame} {s : State} (h : ∀ m ∈ s.msg.queue, m.resets = false) :
    (frameSent f s).msg.resetPhase = s.msg.resetPhase := by
  unfold frameSent sendWord
  split
  · split
    · rfl
    · show s.msg.wordSent.resetPhase = s.msg.resetPhase
      unfold MessageUnit.wordSent
      split
      · rfl
      · next m rest hq =>
        split
        · rfl
        · have hm : m.resets = false := h m (by rw [hq]; exact List.mem_cons_self)
          rw [hm]
          rfl
  · rfl

@[simp] theorem frameSent_frame (f : Frame) (s : State) :
    (frameSent f s).mix = s.mix ∧ (frameSent f s).gain = s.gain ∧ (frameSent f s).chan = s.chan ∧
      (frameSent f s).prot = s.prot ∧ (frameSent f s).ant = s.ant ∧ (frameSent f s).radio = s.radio ∧
      (frameSent f s).call = s.call ∧ (frameSent f s).uplink = s.uplink ∧ (frameSent f s).pending = s.pending ∧
      (frameSent f s).draws = s.draws := by
  unfold frameSent
  split <;> simp

@[simp] theorem adopted_frame (f : Frame) (s : State) :
    (adopted f s).mix = s.mix ∧ (adopted f s).gain = s.gain ∧ (adopted f s).chan = s.chan ∧
      (adopted f s).prot = s.prot ∧ (adopted f s).ant = s.ant ∧ (adopted f s).radio = s.radio ∧
      (adopted f s).call = s.call ∧ (adopted f s).uplink = s.uplink ∧ (adopted f s).pending = s.pending ∧
      (adopted f s).draws = s.draws := ⟨rfl, rfl, rfl, rfl, rfl, rfl, rfl, rfl, rfl, rfl⟩

@[simp] theorem adopted_slotMap (f : Frame) (s : State) : (adopted f s).ring.slotMap = s.ring.slotMap := rfl

@[simp] theorem frameSent_slotMap (f : Frame) (s : State) : (frameSent f s).ring.slotMap = s.ring.slotMap := by
  unfold frameSent sendWord
  split
  · split <;> rfl
  · rfl

theorem gapTick_msg (s : State) :
    { (gapTick s).msg with assembly := s.msg.assembly, broken := s.msg.broken } = s.msg := by
  unfold gapTick
  split
  · rfl
  · split <;> rfl
  · split <;> rfl

/-- Without a command word, a reset or a path-change event, such a frame ends with its targets recorded. -/
theorem frameSettled_resting {f : Frame} {s : State} (hrunning : s.running = false) (ht : f.ctype = .idle)
    (hphase : s.msg.resetPhase = .none) (hresets : ∀ m ∈ s.msg.queue, m.resets = false)
    (hpath : s.uplink.pathRaised = false) : frameSettled f s = gapTick (gainRecord (frameSent f s)) := by
  have hcalm : (gapTick (gainRecord (frameSent f s))).uplink.pathRaised = false := by simpa using hpath
  have hnone : (gapTick (gainRecord (frameSent f s))).msg.resetPhase = .none := by
    have htick : (gapTick (gainRecord (frameSent f s))).msg.resetPhase = (gainRecord (frameSent f s)).msg.resetPhase :=
      (congrArg MessageUnit.resetPhase (gapTick_msg _) :)
    rw [htick, (gainRecord_frame _).2.1, frameSent_phase hresets, hphase]
  rw [frameSettled, hrunning, takeCommand_idle ht]
  show settleReset (takePath (gapTick (gainRecord (frameSent f s)))) = _
  rw [takePath_idle hcalm, settleReset_idle (by rw [hnone]; nofun)]

/-- A recorded target leaves a point's current gain and its ramp (R81). -/
theorem gainRecord_rests (s : State) (i : GainId) : ((gainRecord s).gain.point i).current = (s.point i).current ∧
    ((gainRecord s).gain.point i).ramp = (s.point i).ramp := by
  obtain ⟨t, -, hp⟩ := gainRecord_point s i
  rw [hp]
  exact ⟨rfl, rfl⟩

/-- Settles O7: the steps of a processed frame in CONFIG, none of which moves a unit. -/
theorem goodFrameInConfig : Obligations.GoodFrameInConfig := by
  intro f s hl hop ht hphase hresets hpath
  have hrunning : (adopted f s).running = false := by
    rw [State.running, show (adopted f s).msg.op = .config from hop]
  have hsettled : frameSettled f (adopted f s) = gapTick (gainRecord (frameSent f (adopted f s))) :=
    frameSettled_resting hrunning ht hphase hresets hpath
  have hframe : goodFrame f s = enterNotice (frameSent f (adopted f s)).msg.queue.isEmpty
      (gapTick (gainRecord (frameSent f (adopted f s)))) := by
    rw [goodFrame_linked hl, processFrame_eq, hsettled]
  have hop : (goodFrame f s).msg.op = .config := by
    have hsent : (frameSent f (adopted f s)).msg.op = s.msg.op :=
        (congrArg MessageUnit.op (frameSent_msg f (adopted f s)) :)
    have htick : (gapTick (gainRecord (frameSent f (adopted f s)))).msg.op =
        (gainRecord (frameSent f (adopted f s))).msg.op := (congrArg MessageUnit.op (gapTick_msg _) :)
    rw [hframe, (enterNotice_op _ _).1, htick, (gainRecord_frame _).2.1, hsent, hop]
  have hpoint (i : GainId) : (goodFrame f s).point i = (gainRecord (frameSent f (adopted f s))).gain.point i := by
    have hgain : (goodFrame f s).gain = (gainRecord (frameSent f (adopted f s))).gain := by rw [hframe]; simp
    exact congrArg (fun g : GainUnit => g.point i) hgain
  have hbefore (i : GainId) : (frameSent f (adopted f s)).point i = s.point i := by
    have hgain : (frameSent f (adopted f s)).gain = s.gain := by simp
    exact congrArg (fun g : GainUnit => g.point i) hgain
  have hrests (i : GainId) : ((goodFrame f s).point i).current = (s.point i).current ∧
      ((goodFrame f s).point i).ramp = (s.point i).ramp := by
    rw [hpoint, ← hbefore]
    exact gainRecord_rests _ i
  refine ⟨goodFrame f s, rfl, ?_, ?_, ?_, ?_, ?_, ?_, ?_, ?_, hop, hrests⟩
  all_goals
    rw [hframe]
    simp

end Sys2Proof.Machine


namespace Sys2Proof.Machine

/-! ## The gain unit's part of a frame, on what it reads (R68) -/

theorem curveValue_congr {s t : State} (hmix : t.mix = s.mix) (hgain : t.gain = s.gain) (c : Fin 28) (z : Fin 5) :
    curveValue t c z = curveValue s c z := by
  obtain ⟨⟩ := s
  obtain ⟨⟩ := t
  subst hmix hgain
  rfl

/-- The targets read the operating state, the channels' reductions and the other units; nothing else of the part. -/
theorem gainStep_congr {s t : State} (hop : t.msg.op = s.msg.op) (hmix : t.mix = s.mix) (hgain : t.gain = s.gain)
    (hchan : t.chan = s.chan) (hrecords : t.prot.records = s.prot.records) (hradio : t.radio = s.radio)
    (hcall : t.call = s.call) (huplink : t.uplink = s.uplink) : gainStep t = gainStep s := by
  have hroute (i : Fin 32) : routeContextOf t i = routeContextOf s i := by
    unfold routeContextOf
    rw [hmix, hcall]
  have hout (c : Fin 28) : outputContext t c = outputContext s c := by
    unfold outputContext
    rw [hchan, hmix, hrecords, hop]
    simp only [curveValue_congr hmix hgain]
  have hsoft : radioTarget t = radioTarget s := by
    unfold radioTarget settleForced
    rw [hradio]
  have hup : uplinkTarget t = uplinkTarget s := by
    unfold uplinkTarget
    rw [hop, hcall, huplink]
  unfold gainStep routePointFrame outPointFrame
  simp only [hroute, hout, hsoft, hup, hmix, hgain, hcall, huplink]

/-! ## A path-change event on the uplink unit alone (R76, R188) -/

/-- The uplink unit once a path-change event has taken effect. -/
def UplinkUnit.disturbed (u : UplinkUnit) : UplinkUnit :=
  { u with
    echo := if u.echo = .off then .off else .converging
    converge := if u.echo = .off then u.converge else 0 }

theorem pathEffect_uplink (s : State) : (pathEffect s).uplink = s.uplink.disturbed := by
  unfold pathEffect UplinkUnit.disturbed
  cases h : s.uplink.echo with
  | off => simp [← h]
  | converging => simp [h]
  | converged => simp

theorem pathEffect_msg (s : State) : { (pathEffect s).msg with notices := s.msg.notices } = s.msg := by
  unfold pathEffect
  cases s.uplink.echo <;> rfl

/-- An event that has just been raised takes effect. -/
theorem takePath_raisePath_uplink (s : State) :
    (takePath (raisePath s)).uplink = { s.uplink.disturbed with pathRaised := false } := by
  rw [takePath_of_raised rfl, pathEffect_uplink]
  rfl

/-- The gain unit's event, taken in the frame that raises it. -/
theorem gainFrame_uplink (s : State) : (gainFrame s).uplink =
    if gainEvent s then { s.uplink.disturbed with pathRaised := false } else s.uplink := by
  unfold gainFrame
  generalize gainStep s = g
  cases gainEvent s with
  | false => rfl
  | true => exact takePath_raisePath_uplink (s.setGain g)

theorem gainFrame_gain (s : State) : (gainFrame s).gain = gainStep s := by
  unfold gainFrame
  dsimp only
  split
  · simp
  · rfl

/-! ## What each unit makes of a frame while the units run (R11, R14) -/

/-- The state the frame's buses are formed from: the radio unit's part done, the points at their gains. -/
def mixed (f : Frame) (s : State) : State := (radioFrame (combinedSamples s f) s).setGain (gainStep s)

theorem zoneBus_congr {s t : State} (hmix : t.mix = s.mix) (hgain : t.gain = s.gain) (src : Source → Int × Int)
    (z : Fin 5) : zoneBus t src z = zoneBus s src z := by
  unfold zoneBus contributions routeContributions seatContributions
  rw [hmix, hgain]

theorem zoneBuses_congr {f : Frame} {s t : State} (hmix : t.mix = s.mix) (hgain : t.gain = s.gain)
    (hradio : t.radio = s.radio) (hmap : t.ring.slotMap = s.ring.slotMap) : zoneBuses f t = zoneBuses f s := by
  unfold zoneBuses radioPair
  simp only [zoneBus_congr hmix hgain, hgain, hradio, hmap]

section
variable (f : Frame) (s : State)

/-- The state after the gain unit's part, the amplifiers' status taken. -/
def gained : State := gainFrame (ampFrame f s)

theorem gainStep_ampFrame : gainStep (ampFrame f s) = gainStep s :=
  gainStep_congr rfl rfl rfl rfl rfl rfl rfl rfl

theorem gainEvent_ampFrame : gainEvent (ampFrame f s) = gainEvent s :=
  congrArg (outputsJump s.uplink.record.pathStep s.gain) (gainStep_ampFrame f s)

theorem gained_gain : (gained f s).gain = gainStep s := by
  rw [gained, gainFrame_gain, gainStep_ampFrame]

theorem gained_uplink : (gained f s).uplink =
    if gainEvent s then { s.uplink.disturbed with pathRaised := false } else s.uplink := by
  rw [gained, gainFrame_uplink, gainEvent_ampFrame]
  rfl

theorem gained_msg : { (gained f s).msg with notices := s.msg.notices } = s.msg := gainFrame_msg (ampFrame f s)

theorem gained_frame : (gained f s).ring = s.ring ∧ (gained f s).mix = s.mix ∧ (gained f s).chan = s.chan ∧
    (gained f s).prot = (ampFrame f s).prot ∧ (gained f s).ant = s.ant ∧ (gained f s).radio = s.radio ∧
    (gained f s).call = s.call ∧ (gained f s).draws = s.draws := by
  simp [gained]

/-- The frame's combined samples are those of the antennas as the frame finds them. -/
theorem combinedSamples_gained : combinedSamples (gained f s) f = combinedSamples s f := by
  obtain ⟨hring, -, -, -, hant, -⟩ := gained_frame f s
  unfold combinedSamples
  rw [hring, hant]

/-- The frame's buses. -/
def frameBuses : Vector (Int × Int) 5 := zoneBuses f (mixed f s)

theorem radioFrame_congr {s t : State} (zs : List Complex24) (h : t.radio = s.radio) :
    (radioFrame zs t).radio = (radioFrame zs s).radio := by
  unfold radioFrame
  rw [h]
  rfl

theorem audioFrame_buses : zoneBuses f (radioFrame (combinedSamples (gained f s) f) (antennaFrame f (gained f s))) =
    frameBuses f s := by
  obtain ⟨hring, hmix, -, -, -, hradio, -⟩ := gained_frame f s
  unfold frameBuses
  refine zoneBuses_congr (s := mixed f s) ?_ ?_ ?_ ?_
  · simp [mixed, hmix]
  · simp [mixed, gained_gain]
  · rw [combinedSamples_gained, mixed, State.setGain_radio]
    exact radioFrame_congr _ (by simpa using hradio)
  · simp [mixed, hring]

theorem audioFrame_eq : audioFrame f s = armClosing (uplinkFrame f (frameBuses f s) (channelFrame (frameBuses f s)
    (radioFrame (combinedSamples s f) (antennaFrame f (gained f s))))) := by
  rw [← audioFrame_buses, combinedSamples_gained]
  unfold audioFrame
  rw [← gained]
  dsimp only
  rw [combinedSamples_gained]

theorem audioFrame_gain : (audioFrame f s).gain = gainStep s := by
  simp [audioFrame_eq, gained_gain]

theorem audioFrame_msg : { (audioFrame f s).msg with notices := s.msg.notices } = s.msg := by
  have h : (audioFrame f s).msg = (gained f s).msg := by simp [audioFrame_eq]
  rw [h]
  exact gained_msg f s

theorem audioFrame_prot : (audioFrame f s).prot = (ampFrame f s).prot := by
  obtain ⟨-, -, -, hprot, -⟩ := gained_frame f s
  simp [audioFrame_eq, hprot]

theorem audioFrame_ant : (audioFrame f s).ant = (antennaFrame f s).ant := by
  obtain ⟨hring, -, -, -, hant, -⟩ := gained_frame f s
  have h : (audioFrame f s).ant = (antennaFrame f (gained f s)).ant := by simp [audioFrame_eq]
  rw [h]
  unfold antennaFrame
  rw [hring, hant]
  rfl

theorem audioFrame_radio : (audioFrame f s).radio = (radioFrame (combinedSamples s f) s).radio := by
  obtain ⟨-, -, -, -, -, hradio, -⟩ := gained_frame f s
  have h : (audioFrame f s).radio = (radioFrame (combinedSamples s f) (antennaFrame f (gained f s))).radio := by
    simp [audioFrame_eq]
  rw [h]
  exact radioFrame_congr _ (by simpa using hradio)

theorem audioFrame_call : (audioFrame f s).call = { s.call with closingArmed := true } := by
  obtain ⟨-, -, -, -, -, -, hcall, -⟩ := gained_frame f s
  have h : (audioFrame f s).call = { (gained f s).call with closingArmed := true } := by
    rw [audioFrame_eq]
    rfl
  rw [h, hcall]

theorem channelFrame_congr {s t : State} (buses : Vector (Int × Int) 5) (hchan : t.chan = s.chan)
    (hgain : t.gain = s.gain) : (channelFrame buses t).chan = (channelFrame buses s).chan := by
  unfold channelFrame
  rw [hgain, hchan]
  rfl

theorem audioFrame_chan : (audioFrame f s).chan =
    (channelFrame (frameBuses f s) (s.setGain (gainStep s))).chan := by
  obtain ⟨-, -, hchan, -⟩ := gained_frame f s
  have h : (audioFrame f s).chan = (channelFrame (frameBuses f s) (radioFrame (combinedSamples s f)
      (antennaFrame f (gained f s)))).chan := by simp [audioFrame_eq]
  rw [h]
  exact channelFrame_congr _ (by simp [hchan]) (by simp [gained_gain])

end

end Sys2Proof.Machine


namespace Sys2Proof.Machine

/-! ## The block in progress and a mode change (R130, R145, R146) -/

/-- The antenna unit with the powers and the sums of another block. -/
def AntennaUnit.withBlock (u : AntennaUnit) (p : Vector (List Nat) 4) (c : Vector Complex24 6) : AntennaUnit :=
  { u with powers := p, corrSum := c }

section
variable (u : AntennaUnit) (p : Vector (List Nat) 4) (c : Vector Complex24 6)

theorem switchTo_withBlock (b : Fin 4) : (u.withBlock p c).switchTo b = (u.switchTo b).withBlock p c := by
  have hcurrent : (u.withBlock p c).current = u.current := rfl
  unfold AntennaUnit.switchTo
  rw [hcurrent]
  split <;> rfl

theorem align_withBlock : (u.withBlock p c).align = u.align.withBlock p c := by
  have hpair : (u.withBlock p c).pair = u.pair := rfl
  unfold AntennaUnit.align
  rw [hpair]
  split <;> rfl

/-- A mode change goes by scores and held correlations, not by the block in progress. -/
theorem changeMode_withBlock (m : DiversityMode) :
    (u.withBlock p c).changeMode m = (u.changeMode m).withBlock p c := by
  have hmode : (u.withBlock p c).mode = u.mode := rfl
  unfold AntennaUnit.changeMode
  rw [hmode]
  by_cases h : m = u.mode
  · rw [if_pos h, if_pos h]
  · rw [if_neg h, if_neg h]
    cases hu : u.mode with
    | paired =>
      cases m with
      | fixed a => rfl
      | switched => rfl
      | paired => exact absurd hu.symm h
    | fixed b =>
      cases m with
      | fixed a => exact switchTo_withBlock { u with mode := .fixed a } p c _
      | switched => rfl
      | paired => exact align_withBlock { u with
        mode := .paired, pair := bestPair u, challenge := Vector.replicate 4 0 } p c
    | switched =>
      cases m with
      | fixed a => exact switchTo_withBlock { u with mode := .fixed a } p c _
      | switched => exact absurd hu.symm h
      | paired => exact align_withBlock { u with
        mode := .paired, pair := bestPair u, challenge := Vector.replicate 4 0 } p c

theorem modeTaken_withBlock (m : DiversityMode) : modeTaken (u.withBlock p c) m = (modeTaken u m).withBlock p c :=
  congrArg (fun v : AntennaUnit => { v with pendingMode := none })
    (changeMode_withBlock { u with fade := none } p c m)

end

/-- The antennas once a crossfade has ended, the pending mode taken. -/
def fadeEndedAnt (u : AntennaUnit) : AntennaUnit :=
  match u.fade, u.pendingMode with
  | some _, some m => modeTaken u m
  | _, _ => { u with fade := none }

theorem fadeEndedAnt_mode {u : AntennaUnit} {f : SwitchFade} {m : DiversityMode} (hf : u.fade = some f)
    (hp : u.pendingMode = some m) : fadeEndedAnt u = modeTaken u m := by
  unfold fadeEndedAnt
  rw [hf, hp]

theorem fadeEndedAnt_rests {u : AntennaUnit} (h : u.fade = none ∨ u.pendingMode = none) :
    fadeEndedAnt u = { u with fade := none } := by
  unfold fadeEndedAnt
  split
  · next hf hp => exact absurd h (by rw [hf, hp]; simp)
  · rfl

theorem endSwitchFade_ant_eq (s : State) : (endSwitchFade postNotice s).ant = fadeEndedAnt s.ant := by
  obtain ⟨hs, hs'⟩ := endSwitchFade_ant (post := postNotice) (fun _ _ => rfl) s
  cases hf : s.ant.fade with
  | none => rw [hs (.inl hf), fadeEndedAnt_rests (.inl hf)]
  | some f =>
    cases hp : s.ant.pendingMode with
    | none => rw [hs (.inr hp), fadeEndedAnt_rests (.inr hp)]
    | some m => rw [hs' m (by rw [hf]; nofun) hp, fadeEndedAnt_mode hf hp]

/-- A crossfade's end leaves the block in progress. -/
theorem fadeEndedAnt_block (u : AntennaUnit) :
    (fadeEndedAnt u).powers = u.powers ∧ (fadeEndedAnt u).corrSum = u.corrSum := by
  unfold fadeEndedAnt
  split
  · next m _ _ =>
    have h := modeTaken_withBlock u u.powers u.corrSum m
    exact ⟨(congrArg AntennaUnit.powers h :), (congrArg AntennaUnit.corrSum h :)⟩
  · exact ⟨rfl, rfl⟩

/-- The crossfade's end after a frame is the crossfade's end before it, on another block. -/
theorem fadeEndedAnt_antennaFrame (f : Frame) (s : State) :
    (fadeEndedAnt (antennaFrame f s).ant).withBlock s.ant.powers s.ant.corrSum = fadeEndedAnt s.ant := by
  have hfade : (antennaFrame f s).ant.fade = s.ant.fade.map fun x => { x with count := x.count + 1 } := rfl
  have hpending : (antennaFrame f s).ant.pendingMode = s.ant.pendingMode := rfl
  cases hf : s.ant.fade with
  | none =>
    rw [hf] at hfade
    rw [fadeEndedAnt_rests (.inl hf), fadeEndedAnt_rests (.inl hfade)]
    rfl
  | some x =>
    rw [hf] at hfade
    cases hp : s.ant.pendingMode with
    | none =>
      rw [fadeEndedAnt_rests (.inr hp), fadeEndedAnt_rests (.inr (hpending.trans hp))]
      rfl
    | some m =>
      rw [fadeEndedAnt_mode hf hp, fadeEndedAnt_mode hfade (hpending.trans hp), ← modeTaken_withBlock]
      rfl

end Sys2Proof.Machine


namespace Sys2Proof.Machine

/-! ## The uplink unit's part of a frame (R178, R183, R185) -/

theorem uplinkFrame_congr {s t : State} (f : Frame) (buses : Vector (Int × Int) 5) (hgain : t.gain = s.gain)
    (hmap : t.ring.slotMap = s.ring.slotMap) (huplink : t.uplink = s.uplink) :
    (uplinkFrame f buses t).uplink = (uplinkFrame f buses s).uplink := by
  unfold uplinkFrame beamSum
  simp only [State.setUplink_uplink, State.setUplink_gain, hgain, hmap, huplink]

/-- The chain does not look at the echo state: an event before it has the effect of one after it. -/
theorem uplinkFrame_disturbed (f : Frame) (buses : Vector (Int × Int) 5) (s : State) :
    (uplinkFrame f buses (s.setUplink { s.uplink.disturbed with pathRaised := false })).uplink =
      { (uplinkFrame f buses s).uplink.disturbed with pathRaised := false } := rfl

theorem audioFrame_uplink (f : Frame) (s : State) {v : UplinkUnit}
    (hv : (uplinkFrame f (frameBuses f s) (s.setGain (gainStep s))).uplink = v) : (audioFrame f s).uplink =
      if gainEvent s then { v.disturbed with pathRaised := false } else v := by
  obtain ⟨hring, -⟩ := gained_frame f s
  have h : (audioFrame f s).uplink = (uplinkFrame f (frameBuses f s) (channelFrame (frameBuses f s)
      (radioFrame (combinedSamples s f) (antennaFrame f (gained f s))))).uplink := by simp [audioFrame_eq]
  have hsame {z : State} {b : Vector (Int × Int) 5} {g : GainUnit} {u : UplinkUnit} (hgain : z.gain = g)
      (hmap : z.ring.slotMap = s.ring.slotMap) (hu : z.uplink = u) :
      (uplinkFrame f b z).uplink = (uplinkFrame f b ((s.setGain g).setUplink u)).uplink :=
    uplinkFrame_congr f b hgain hmap hu
  rw [h, hsame (g := gainStep s) (by simp [gained_gain]) (by simp [hring]) rfl, ← hv]
  have hu : (channelFrame (frameBuses f s) (radioFrame (combinedSamples s f) (antennaFrame f (gained f s)))).uplink =
      if gainEvent s then { s.uplink.disturbed with pathRaised := false } else s.uplink := by
    simpa using gained_uplink f s
  rw [hu]
  generalize gainStep s = g
  generalize frameBuses f s = b
  cases gainEvent s with
  | false => rfl
  | true => exact uplinkFrame_disturbed f b (s.setGain g)

/-! ## The crossfades that end with a frame (R103, R105, R142, R181) -/

/-- What a frame has put into a channel: its record, its output and its peak. -/
def Channel.heard (c : Channel) : ChannelRecord × Int × Nat := (c.record, c.out, c.peak)

theorem Channel.exchange_heard (c : Channel) : c.exchange.heard = c.heard := by
  unfold Channel.exchange Channel.setLive
  split <;> rfl

theorem Channel.fadeBegun_heard (c : Channel) : c.fadeBegun.heard = c.heard := by
  unfold Channel.fadeBegun Channel.setSpare
  split <;> rfl

/-- The message unit is the same but for the notices. -/
def NoticesOnly (s t : State) : Prop := { t.msg with notices := s.msg.notices } = s.msg

theorem NoticesOnly.refl (s : State) : NoticesOnly s s := rfl

theorem NoticesOnly.of_msg {s t : State} (h : t.msg = s.msg) : NoticesOnly s t := by
  unfold NoticesOnly
  rw [h]

theorem NoticesOnly.trans {s t u : State} (h : NoticesOnly s t) (h' : NoticesOnly t u) : NoticesOnly s u := by
  unfold NoticesOnly at *
  rw [← h, ← h']

theorem NoticesOnly.op {s t : State} (h : NoticesOnly s t) : t.msg.op = s.msg.op := (congrArg MessageUnit.op h :)

theorem NoticesOnly.phase {s t : State} (h : NoticesOnly s t) : t.msg.resetPhase = s.msg.resetPhase :=
  (congrArg MessageUnit.resetPhase h :)

/-- What the end of some fades leaves: each channel as it was heard, an event raised if one was over. -/
structure FadesEnded (l : List (Fin 4)) (s t : State) : Prop where
  msg : NoticesOnly s t
  heard : ∀ c : Fin 28, t.chan.channels[c].heard = s.chan.channels[c].heard
  uplink : t.uplink = { s.uplink with pathRaised := s.uplink.pathRaised || l.any (fadeOver s) }

theorem fadeOver_iff (s : State) (u : Fin 4) :
    fadeOver s u = true ↔ ∃ x, s.chan.fades[u] = some x ∧ 512 ≤ x.count := by
  unfold fadeOver
  cases s.chan.fades[u] with
  | none => simp
  | some x => simp

theorem endFade_heard (u : Fin 4) (s : State) (c : Fin 28) :
    (endFade u s).chan.channels[c].heard = s.chan.channels[c].heard := by
  unfold endFade
  split
  · rfl
  · next x _ =>
    show (s.chan.channels.set x.channel s.chan.channels[x.channel].exchange)[c].heard = _
    rw [vector_set_fin]
    split
    · next h =>
      subst h
      exact Channel.exchange_heard _
    · rfl

theorem endFade_uplink {u : Fin 4} {s : State} (h : fadeOver s u = true) :
    (endFade u s).uplink = { s.uplink with pathRaised := true } := by
  obtain ⟨x, hx, -⟩ := (fadeOver_iff s u).mp h
  rw [endFade_eq hx]
  rfl

theorem endFade_msg (u : Fin 4) (s : State) : NoticesOnly s (endFade u s) := by
  unfold endFade
  split <;> rfl

theorem endFades_fold {l : List (Fin 4)} (hl : l.Nodup) (s : State) :
    FadesEnded l s (l.foldl (fun t u => if fadeOver t u then endFade u t else t) s) := by
  induction l generalizing s with
  | nil => exact ⟨rfl, fun _ => rfl, by simp⟩
  | cons u l ih =>
    obtain ⟨hu, hl⟩ := List.nodup_cons.mp hl
    rw [List.foldl_cons]
    cases hover : fadeOver s u with
    | false =>
      rw [if_neg (by decide)]
      obtain ⟨hmsg, hheard, huplink⟩ := ih hl s
      exact ⟨hmsg, hheard, by rw [huplink, List.any_cons, hover, Bool.false_or]⟩
    | true =>
      rw [if_pos rfl]
      obtain ⟨hmsg, hheard, huplink⟩ := ih hl (endFade u s)
      refine ⟨(endFade_msg u s).trans hmsg, fun c => (hheard c).trans (endFade_heard u s c), ?_⟩
      rw [huplink, endFade_uplink hover, List.any_cons, hover]
      simp

theorem serveQueue_heard (s : State) (c : Fin 28) :
    (serveQueue s).chan.channels[c].heard = s.chan.channels[c].heard := by
  have hc := (serveQueue_spec s).channels c
  generalize serveQueue s = t at hc ⊢
  rw [hc, apply_ite Channel.heard, Channel.fadeBegun_heard, ite_self]

/-- Banks whose fades are over have changed places, and the queue has been served. -/
def banksServed (s : State) : State := serveQueue (endFades s)

theorem endFades_spec (s : State) : FadesEnded (List.finRange 4) s (endFades s) :=
  endFades_fold (List.nodup_finRange 4) s

/-- The queue's service keeps what the end of the fades leaves. -/
theorem FadesEnded.served {l : List (Fin 4)} {s t : State} (h : FadesEnded l s t) : FadesEnded l s (serveQueue t) := by
  obtain ⟨hmsg, hheard, huplink⟩ := h
  have hsame : (serveQueue t).msg = t.msg ∧ (serveQueue t).uplink = t.uplink := by simp
  exact ⟨hmsg.trans (.of_msg hsame.1), fun c => (serveQueue_heard t c).trans (hheard c), hsame.2.trans huplink⟩

theorem banksServed_spec (s : State) : FadesEnded (List.finRange 4) s (banksServed s) := (endFades_spec s).served

/-- Two uplink units agree but for the beam crossfade and a raised path-change event. -/
def UplinkUnit.Crossfaded (u v : UplinkUnit) : Prop :=
  { v with
    selections := u.selections, live := u.live, fading := u.fading, changePending := u.changePending
    pathRaised := u.pathRaised } = u

theorem UplinkUnit.Crossfaded.of_raised {u v : UplinkUnit} {b : Bool} (h : v = { u with pathRaised := b }) :
    u.Crossfaded v := by
  subst h
  rfl

theorem UplinkUnit.Crossfaded.trans {u v w : UplinkUnit} (h : u.Crossfaded v) (h' : v.Crossfaded w) :
    u.Crossfaded w := by
  unfold UplinkUnit.Crossfaded at *
  rw [← h, ← h']

/-- What the end of a frame's crossfades leaves of the state before. -/
structure CrossfadesEnded (s t : State) : Prop where
  msg : NoticesOnly s t
  heard : ∀ c : Fin 28, t.chan.channels[c].heard = s.chan.channels[c].heard
  uplink : s.uplink.Crossfaded t.uplink
  raised : s.uplink.pathRaised = true ∨ (∃ u, fadeOver s u = true) → t.uplink.pathRaised = true
  calm : s.uplink.pathRaised = false → (∀ u, fadeOver s u = false) →
    s.uplink.fading = false ∨ s.uplink.changePending = false → t.uplink.pathRaised = false
  ant : t.ant = if switchFadeOver s then fadeEndedAnt s.ant else s.ant

/-- A beam crossfade that ends changes the selections and the marks of the crossfade, and may raise an event. -/
theorem endBeamFade_uplink (s : State) : s.uplink.Crossfaded (endBeamFade s).uplink := by
  unfold endBeamFade
  dsimp only
  split <;> rfl

theorem endBeamFade_path (s : State) : (s.uplink.pathRaised = true → (endBeamFade s).uplink.pathRaised = true) ∧
    (s.uplink.pathRaised = false → s.uplink.changePending = false → (endBeamFade s).uplink.pathRaised = false) := by
  unfold endBeamFade
  dsimp only
  split
  · next h => exact ⟨fun _ => rfl, fun _ hp => absurd (h.1.symm.trans hp) (by decide)⟩
  · exact ⟨id, fun h _ => h⟩

theorem endSwitchFade_msg (s : State) : NoticesOnly s (endSwitchFade postNotice s) := by
  unfold endSwitchFade applyPendingMode
  split
  · dsimp only
    split <;> rfl
  · rfl

/-- The beam crossfade resolved when its ramps have ended. -/
def beamsEnded (s : State) : State := if beamFadeOver s then endBeamFade s else s

theorem endCrossfades_spec (s : State) : CrossfadesEnded s (endCrossfades s) := by
  have heq : endCrossfades s =
      if switchFadeOver (beamsEnded (banksServed s)) then endSwitchFade postNotice (beamsEnded (banksServed s))
      else beamsEnded (banksServed s) := rfl
  obtain ⟨hmsg, hheard, huplink⟩ := banksServed_spec s
  have hchan : (beamsEnded (banksServed s)).chan = (banksServed s).chan := by
    unfold beamsEnded
    split <;> simp
  have hbeams : NoticesOnly (banksServed s) (beamsEnded (banksServed s)) := by
    unfold beamsEnded
    exact .of_msg (by split <;> simp)
  have hant : (beamsEnded (banksServed s)).ant = s.ant := by
    unfold beamsEnded banksServed
    split <;> simp
  have hover : switchFadeOver (beamsEnded (banksServed s)) = switchFadeOver s := by
    unfold switchFadeOver
    rw [hant]
  have hend : NoticesOnly (beamsEnded (banksServed s)) (endCrossfades s) ∧
      (endCrossfades s).chan = (beamsEnded (banksServed s)).chan ∧
      (endCrossfades s).uplink = (beamsEnded (banksServed s)).uplink := by
    rw [heq]
    split
    · exact ⟨endSwitchFade_msg _, by simp, by simp⟩
    · exact ⟨.refl _, rfl, rfl⟩
  obtain ⟨hendmsg, hendchan, henduplink⟩ := hend
  have hraised : (banksServed s).uplink.pathRaised = (s.uplink.pathRaised || (List.finRange 4).any (fadeOver s)) := by
    rw [huplink]
  refine ⟨(hmsg.trans hbeams).trans hendmsg, fun c => by rw [hendchan, hchan, hheard], ?_, fun h => ?_,
    fun h hno hpending => ?_, ?_⟩
  · rw [henduplink]
    unfold beamsEnded
    have hbanks : s.uplink.Crossfaded (banksServed s).uplink := .of_raised huplink
    split
    · exact hbanks.trans (endBeamFade_uplink _)
    · exact hbanks
  · have htrue : (banksServed s).uplink.pathRaised = true := by
      rw [hraised]
      rcases h with h | ⟨u, hu⟩
      · rw [h, Bool.true_or]
      · rw [List.any_eq_true.mpr ⟨u, List.mem_finRange u, hu⟩, Bool.or_true]
    rw [henduplink]
    unfold beamsEnded
    split
    · exact (endBeamFade_path _).1 htrue
    · exact htrue
  · have hfalse : (banksServed s).uplink.pathRaised = false := by
      rw [hraised, h, Bool.false_or]
      exact List.any_eq_false.mpr fun u _ => by rw [hno u]; decide
    rw [henduplink]
    unfold beamsEnded
    split
    · next hb =>
      rcases hpending with hf | hp
      · obtain ⟨hfading, -⟩ := (beamFadeOver_iff _).mp hb
        rw [huplink] at hfading
        exact absurd (hfading.symm.trans hf) (by decide)
      · exact (endBeamFade_path _).2 hfalse (by rw [huplink]; exact hp)
    · exact hfalse
  · rw [heq, hover]
    split
    · rw [endSwitchFade_ant_eq, hant]
    · exact hant

end Sys2Proof.Machine


namespace Sys2Proof.Machine

/-! ## The units' work on a processed frame, on the state the frame finds (R11, R14) -/

section
variable {f : Frame} {s t : State}

theorem combinedSamples_congr (hant : t.ant = s.ant) (hmap : t.ring.slotMap = s.ring.slotMap) :
    combinedSamples t f = combinedSamples s f := by
  unfold combinedSamples
  rw [hant, hmap]

theorem frameBuses_congr (hgain : gainStep t = gainStep s) (hmix : t.mix = s.mix) (hant : t.ant = s.ant)
    (hradio : t.radio = s.radio) (hmap : t.ring.slotMap = s.ring.slotMap) : frameBuses f t = frameBuses f s := by
  unfold frameBuses mixed
  rw [hgain, combinedSamples_congr hant hmap]
  refine zoneBuses_congr ?_ (by simp) ?_ ?_
  · simpa using hmix
  · rw [State.setGain_radio, State.setGain_radio]
    exact radioFrame_congr _ hradio
  · simpa using hmap

theorem antennaFrame_congr (hant : t.ant = s.ant) (hmap : t.ring.slotMap = s.ring.slotMap) :
    (antennaFrame f t).ant = (antennaFrame f s).ant := by
  unfold antennaFrame
  rw [hant, hmap]
  rfl

theorem ampFrame_congr (hprot : t.prot = s.prot) (hmap : t.ring.slotMap = s.ring.slotMap) :
    (ampFrame f t).prot = (ampFrame f s).prot := by
  unfold ampFrame ampInFrame
  rw [hprot, hmap]
  rfl

end

/-- The uplink unit after its part of a frame, no path-change event taken. -/
def uplinkHeard (f : Frame) (s : State) : UplinkUnit := (uplinkFrame f (frameBuses f s) (s.setGain (gainStep s))).uplink

/-- The uplink unit after the units' work: the gain unit's event is taken at once. -/
def uplinkMoved (f : Frame) (s : State) : UplinkUnit :=
  if gainEvent s then { (uplinkHeard f s).disturbed with pathRaised := false } else uplinkHeard f s

/-- A channel after its part of a frame. -/
def channelMoved (f : Frame) (s : State) (c : Fin 28) : Channel :=
  channelStep s.chan.channels[c] (fadeOf s.chan c) (gainStep s).out[c].current (frameBuses f s)

/-- A bank crossfade has run its last frame (R104). -/
def FadeEnds (s : State) : Prop := ∃ (n : Fin 4) (x : BankFade), s.chan.fades[n] = some x ∧ 511 ≤ x.count

/-- The part after the units' work on a frame without a command word, the crossfades of the frame ended. -/
structure FrameWorked (f : Frame) (s w : State) : Prop where
  op : w.msg.op = s.msg.op
  phase : w.msg.resetPhase = s.msg.resetPhase
  gain : w.gain = gainStep s
  mix : w.mix = s.mix
  slotMap : w.ring.slotMap = s.ring.slotMap
  draws : w.draws = s.draws
  call : w.call = { s.call with closingArmed := true }
  prot : w.prot = (ampFrame f s).prot
  radio : w.radio = (radioFrame (combinedSamples s f) s).radio
  ant : w.ant = if switchFadeOver (antennaFrame f s) then fadeEndedAnt (antennaFrame f s).ant
    else (antennaFrame f s).ant
  heard : ∀ c : Fin 28, w.chan.channels[c].heard = (channelMoved f s c).heard
  uplink : (uplinkMoved f s).Crossfaded w.uplink
  raised : gainEvent s = false → s.uplink.pathRaised = true ∨ FadeEnds s → w.uplink.pathRaised = true
  calm : gainEvent s = false → s.uplink.pathRaised = false → ¬FadeEnds s →
    s.uplink.fading = false ∨ s.uplink.changePending = false → w.uplink.pathRaised = false

/-- The frame's work, from the frame's arrival to the end of its crossfades. -/
def worked (f : Frame) (s : State) : State := endCrossfades (gapTick (audioFrame f (frameSent f (adopted f s))))

theorem channelFrame_channel (buses : Vector (Int × Int) 5) (s : State) (c : Fin 28) :
    (channelFrame buses s).chan.channels[c] =
      channelStep s.chan.channels[c] (fadeOf s.chan c) s.gain.out[c].current buses := Vector.getElem_ofFn _

theorem fadeOver_of_frame {buses : Vector (Int × Int) 5} {s z t : State} (hz : z.chan = s.chan)
    (ht : t.chan = (channelFrame buses z).chan) : (∃ u, fadeOver t u = true) ↔ FadeEnds s := by
  have hcount (u : Fin 4) : t.chan.fades[u] = s.chan.fades[u].map fun b => { b with count := b.count + 1 } := by
    rw [ht, ← hz]
    exact Vector.getElem_map _ _
  simp only [fadeOver_iff, hcount, Option.map_eq_some_iff]
  constructor
  · rintro ⟨u, x, ⟨y, hy, rfl⟩, hx⟩
    exact ⟨u, y, hy, by simpa using hx⟩
  · rintro ⟨u, y, hy, hx⟩
    exact ⟨u, _, ⟨y, hy, rfl⟩, by simpa using hx⟩

section
variable (f : Frame) (s : State)

theorem arrived_msg : { (frameSent f (adopted f s)).msg with
    queue := s.msg.queue, sent := s.msg.sent, resetPhase := s.msg.resetPhase, notices := s.msg.notices } = s.msg := by
  have h := frameSent_msg f (adopted f s)
  exact (congrArg (fun m : MessageUnit => { m with
    queue := s.msg.queue, sent := s.msg.sent, resetPhase := s.msg.resetPhase, notices := s.msg.notices }) h :)

theorem gainStep_arrived : gainStep (frameSent f (adopted f s)) = gainStep s :=
  gainStep_congr (congrArg MessageUnit.op (arrived_msg f s) :) (by simp) (by simp) (by simp) (by simp) (by simp)
    (by simp) (by simp)

theorem gainEvent_arrived : gainEvent (frameSent f (adopted f s)) = gainEvent s := by
  unfold gainEvent
  rw [gainStep_arrived]
  simp

theorem frameBuses_arrived : frameBuses f (frameSent f (adopted f s)) = frameBuses f s :=
  frameBuses_congr (gainStep_arrived f s) (by simp) (by simp) (by simp) (by simp)

theorem uplinkHeard_arrived : uplinkHeard f (frameSent f (adopted f s)) = uplinkHeard f s := by
  unfold uplinkHeard
  rw [frameBuses_arrived, gainStep_arrived]
  exact uplinkFrame_congr _ _ (by simp) (by simp) (by simp)

/-- The units' work, before the crossfades of the frame end. -/
def sounded : State := gapTick (audioFrame f (frameSent f (adopted f s)))

theorem sounded_uplink : (sounded f s).uplink = uplinkMoved f s := by
  have h := audioFrame_uplink f (frameSent f (adopted f s)) rfl
  rw [gainEvent_arrived] at h
  rw [sounded, (gapTick_frame _).2.2.2.2.2.2.2.2.1, h, uplinkMoved, ← uplinkHeard_arrived]
  rfl

theorem sounded_op : (sounded f s).msg.op = s.msg.op := by
  have hgap : (sounded f s).msg.op = (audioFrame f (frameSent f (adopted f s))).msg.op :=
    (congrArg MessageUnit.op (gapTick_msg (audioFrame f (frameSent f (adopted f s)))) :)
  have haudio : (audioFrame f (frameSent f (adopted f s))).msg.op = (frameSent f (adopted f s)).msg.op :=
    (congrArg MessageUnit.op (audioFrame_msg f (frameSent f (adopted f s))) :)
  exact (hgap.trans haudio).trans (congrArg MessageUnit.op (arrived_msg f s) :)

theorem sounded_phase (hresets : ∀ m ∈ s.msg.queue, m.resets = false) :
    (sounded f s).msg.resetPhase = s.msg.resetPhase := by
  have hgap : (sounded f s).msg.resetPhase = (audioFrame f (frameSent f (adopted f s))).msg.resetPhase :=
    (congrArg MessageUnit.resetPhase (gapTick_msg (audioFrame f (frameSent f (adopted f s)))) :)
  have haudio : (audioFrame f (frameSent f (adopted f s))).msg.resetPhase =
      (frameSent f (adopted f s)).msg.resetPhase :=
    (congrArg MessageUnit.resetPhase (audioFrame_msg f (frameSent f (adopted f s))) :)
  have hsent : (frameSent f (adopted f s)).msg.resetPhase = (adopted f s).msg.resetPhase := frameSent_phase hresets
  exact (hgap.trans haudio).trans hsent

theorem sounded_chan : (sounded f s).chan = (channelFrame (frameBuses f s) (s.setGain (gainStep s))).chan := by
  have h : (sounded f s).chan = (audioFrame f (frameSent f (adopted f s))).chan := by simp [sounded]
  rw [h, audioFrame_chan, frameBuses_arrived, gainStep_arrived]
  exact channelFrame_congr _ (by simp) (by simp)

theorem sounded_ant : (sounded f s).ant = (antennaFrame f s).ant := by
  have h : (sounded f s).ant = (audioFrame f (frameSent f (adopted f s))).ant := by simp [sounded]
  rw [h, audioFrame_ant]
  exact antennaFrame_congr (by simp) (by simp)

theorem sounded_gain : (sounded f s).gain = gainStep s := by
  have h : (sounded f s).gain = (audioFrame f (frameSent f (adopted f s))).gain := by simp [sounded]
  rw [h, audioFrame_gain, gainStep_arrived]

theorem sounded_call : (sounded f s).call = { s.call with closingArmed := true } := by
  have h : (sounded f s).call = (audioFrame f (frameSent f (adopted f s))).call := by simp [sounded]
  rw [h, audioFrame_call]
  simp

theorem sounded_prot : (sounded f s).prot = (ampFrame f s).prot := by
  have h : (sounded f s).prot = (audioFrame f (frameSent f (adopted f s))).prot := by simp [sounded]
  rw [h, audioFrame_prot]
  exact ampFrame_congr (by simp) (by simp)

theorem sounded_radio : (sounded f s).radio = (radioFrame (combinedSamples s f) s).radio := by
  have h : (sounded f s).radio = (audioFrame f (frameSent f (adopted f s))).radio := by simp [sounded]
  rw [h, audioFrame_radio, combinedSamples_congr (s := s) (by simp) (by simp)]
  exact radioFrame_congr _ (by simp)

theorem sounded_frame : (sounded f s).mix = s.mix ∧ (sounded f s).ring.slotMap = s.ring.slotMap ∧
    (sounded f s).draws = s.draws := by
  simp [sounded]

theorem sounded_path (he : gainEvent s = false) : (sounded f s).uplink.pathRaised = s.uplink.pathRaised ∧
    (sounded f s).uplink.fading = s.uplink.fading ∧ (sounded f s).uplink.changePending = s.uplink.changePending := by
  rw [sounded_uplink, uplinkMoved, he, if_neg (by decide), uplinkHeard]
  generalize gainStep s = g
  generalize frameBuses f s = b
  exact ⟨rfl, rfl, rfl⟩

theorem sounded_fades : (∃ u, fadeOver (sounded f s) u = true) ↔ FadeEnds s :=
  fadeOver_of_frame (State.setGain_chan s (gainStep s)) (sounded_chan f s)

theorem sounded_channel (c : Fin 28) : (sounded f s).chan.channels[c] = channelMoved f s c := by
  rw [sounded_chan, channelFrame_channel, State.setGain_chan, State.setGain_gain, channelMoved]

theorem sounded_switch : switchFadeOver (sounded f s) = switchFadeOver (antennaFrame f s) := by
  unfold switchFadeOver
  rw [sounded_ant]

end

theorem worked_spec {f : Frame} {s : State} (hresets : ∀ m ∈ s.msg.queue, m.resets = false) :
    FrameWorked f s (worked f s) := by
  have hworked : worked f s = endCrossfades (sounded f s) := rfl
  obtain ⟨hmsg, hheard, huplink, hraised, hcalm, hant⟩ := endCrossfades_spec (sounded f s)
  obtain ⟨hring, hmix, hgain, hprot, hradio, hcall, -, hdraws⟩ := endCrossfades_frame (sounded f s)
  obtain ⟨emix, emap, edraws⟩ := sounded_frame f s
  rw [← hworked] at *
  refine ⟨hmsg.op.trans (sounded_op f s), hmsg.phase.trans (sounded_phase f s hresets),
    hgain.trans (sounded_gain f s), hmix.trans emix, (congrArg RingUnit.slotMap hring).trans emap,
    hdraws.trans edraws, hcall.trans (sounded_call f s), hprot.trans (sounded_prot f s),
    hradio.trans (sounded_radio f s), ?_, fun c => (hheard c).trans (congrArg Channel.heard (sounded_channel f s c)),
    sounded_uplink f s ▸ huplink, fun he h => ?_, fun he h hno hpending => ?_⟩
  · rw [hant, sounded_switch, sounded_ant]
  · obtain ⟨hp, -⟩ := sounded_path f s he
    exact hraised (h.imp hp.trans (sounded_fades f s).mpr)
  · obtain ⟨hp, hf, hc⟩ := sounded_path f s he
    exact hcalm (hp.trans h) (fun u => Bool.eq_false_iff.mpr fun hu => hno ((sounded_fades f s).mp ⟨u, hu⟩))
      (hpending.imp hf.trans hc.trans)

/-! ## The end of a frame that ends no block (R11, R34, R188) -/

/-- The uplink unit once the frame's path-change events have taken effect; with the gain unit's taken, no other. -/
def pathSettled (early : Bool) (u : UplinkUnit) : UplinkUnit :=
  if early = false ∧ u.pathRaised = true then u.disturbed else u

/-- Two uplink units agree but for the echo state, its converge count and a raised event. -/
def UplinkUnit.Evented (u v : UplinkUnit) : Prop :=
  { u with echo := v.echo, converge := v.converge, pathRaised := v.pathRaised } = v

/-- The part after a frame that ends no block, from the state the crossfades leave. -/
structure FrameEnded (early : Bool) (w t : State) : Prop where
  prot : t.prot = w.prot
  radio : t.radio = w.radio
  routes : t.mix.routes = w.mix.routes
  zones : t.mix.zones = w.mix.zones
  heard : ∀ c : Fin 28, t.chan.channels[c].heard = w.chan.channels[c].heard
  uplink : (pathSettled early w.uplink).Crossfaded t.uplink
  block : t.ant.powers = w.ant.powers ∧ t.ant.corrSum = w.ant.corrSum
  running : configDue w = false → t.gain = w.gain ∧ t.msg.op = w.msg.op ∧ t.ant = w.ant ∧ t.chan = w.chan ∧
    w.uplink.Evented t.uplink
  silent : configDue w = true → t.gain = w.gain.mapPoints GainPoint.silenced ∧ t.msg.op = .config

/-- The claims' part of what the end of a frame leaves: the routes and the zones. -/
def MixRests (s t : State) : Prop := t.mix.routes = s.mix.routes ∧ t.mix.zones = s.mix.zones ∧ NoticesOnly s t

theorem MixRests.trans {s t u : State} (h : MixRests s t) (h' : MixRests t u) : MixRests s u :=
  ⟨h'.1.trans h.1, h'.2.1.trans h.2.1, h.2.2.trans h'.2.2⟩

theorem claimReachesNone_rests (z : Fin 2) (s : State) : MixRests s (claimReachesNone z s) := by
  unfold claimReachesNone
  split <;> exact ⟨rfl, rfl, rfl⟩

theorem claimBecomesHeld_rests (z : Fin 2) (s : State) : MixRests s (claimBecomesHeld z s) := by
  unfold claimBecomesHeld
  split <;> exact ⟨rfl, rfl, rfl⟩

theorem settleClaims_rests (s : State) : MixRests s (settleClaims s) := by
  have hnone (z : Fin 2) (t : State) : MixRests t (if noneDue t z then claimReachesNone z t else t) := by
    split
    · exact claimReachesNone_rests z t
    · exact ⟨rfl, rfl, rfl⟩
  have hheld (z : Fin 2) (t : State) : MixRests t (if heldDue t z then claimBecomesHeld z t else t) := by
    split
    · exact claimBecomesHeld_rests z t
    · exact ⟨rfl, rfl, rfl⟩
  exact ((hnone 0 s).trans (hnone 1 _)).trans ((hheld 0 _).trans (hheld 1 _))

end Sys2Proof.Machine


namespace Sys2Proof.Machine

/-! ## What the end of a frame keeps (R11, R34, R188) -/

theorem takePath_uplink (s : State) : (takePath s).uplink =
    if s.uplink.pathRaised then { s.uplink.disturbed with pathRaised := false } else s.uplink := by
  cases h : s.uplink.pathRaised with
  | false => rw [takePath_idle h, if_neg (by decide)]
  | true =>
    rw [takePath_of_raised h, pathEffect_uplink, if_pos rfl]
    rfl

theorem takePath_notices (s : State) : NoticesOnly s (takePath s) := takePath_msg s

/-- The frame's events take effect, as `pathSettled` says. -/
theorem settlePath_uplink (early : Bool) (s : State) :
    (pathSettled early s.uplink).Crossfaded (settlePath false early s).uplink := by
  cases early with
  | true =>
    show (pathSettled true s.uplink).Crossfaded (takePath (clearPath s)).uplink
    rw [takePath_uplink]
    rfl
  | false =>
    show (pathSettled false s.uplink).Crossfaded (takePath s).uplink
    rw [takePath_uplink]
    cases h : s.uplink.pathRaised with
    | false =>
      rw [if_neg (by decide), pathSettled, if_neg (by simp [h])]
      rfl
    | true =>
      rw [if_pos rfl, pathSettled, if_pos ⟨rfl, h⟩]
      rfl

theorem settlePath_evented (early : Bool) (s : State) : s.uplink.Evented (settlePath false early s).uplink := by
  have htake (t : State) (ht : s.uplink.Evented t.uplink) : s.uplink.Evented (takePath t).uplink := by
    rw [takePath_uplink]
    split
    · exact (congrArg (fun u : UplinkUnit => { u with
        echo := t.uplink.disturbed.echo, converge := t.uplink.disturbed.converge, pathRaised := false }) ht :)
    · exact ht
  cases early with
  | true => exact htake (clearPath s) rfl
  | false => exact htake s rfl

theorem settlePath_msg (early : Bool) (s : State) : NoticesOnly s (settlePath false early s) := by
  have heq : (settlePath false early s).msg = (takePath (if early then clearPath s else s)).msg := rfl
  have hclear : NoticesOnly s (if early then clearPath s else s) := by
    split <;> rfl
  exact hclear.trans ((takePath_notices _).trans (.of_msg heq))

theorem rebuild_crossfaded (u : UplinkUnit) (p : Fin 4) : u.Crossfaded (u.rebuild p) := by
  rw [rebuild_eq]
  split <;> rfl

theorem Channel.swapNow_heard (c : Channel) : c.swapNow.heard = c.heard := by
  refine (Channel.exchange_heard _).trans ?_
  unfold Channel.setSpare
  split <;> rfl

theorem completeActivations_heard (s : State) (c : Fin 28) :
    (completeActivations postNotice s).chan.channels[c].heard = s.chan.channels[c].heard := by
  have hfold (l : List (Fin 28)) (t : State) :
      (l.foldl (fun t c => postNotice (.bank c .immediate 0) (swapChannel c t)) t).chan.channels[c].heard =
        t.chan.channels[c].heard := by
    induction l generalizing t with
    | nil => rfl
    | cons d l ih =>
      refine (ih _).trans ?_
      show (t.chan.channels.set d t.chan.channels[d].swapNow)[c].heard = _
      rw [vector_set_fin]
      split
      · next h =>
        subst h
        exact Channel.swapNow_heard _
      · rfl
  exact hfold (underWay s.chan) s

/-- What CONFIG leaves of the state before: what a frame has put into it, but for the points and the operating state. -/
theorem reachConfig_keeps (s : State) : (reachConfig s).msg.resetPhase = s.msg.resetPhase ∧
    (reachConfig s).msg.op = .config ∧ (reachConfig s).mix.routes = s.mix.routes ∧
    (reachConfig s).mix.zones = s.mix.zones ∧ s.uplink.Crossfaded (reachConfig s).uplink ∧
    (reachConfig s).gain = s.gain.mapPoints GainPoint.silenced ∧
    ((reachConfig s).ant.powers = s.ant.powers ∧ (reachConfig s).ant.corrSum = s.ant.corrSum) ∧
    ∀ c : Fin 28, (reachConfig s).chan.channels[c].heard = s.chan.channels[c].heard := by
  obtain ⟨b, hb⟩ : ∃ b, b = completeActivations postNotice (postNotice (.state .config) (setOp .config s)) := ⟨_, rfl⟩
  have hbanks : MixRests (setOp .config s) b ∧ b.uplink = s.uplink ∧ b.call = s.call ∧ b.ant = s.ant := by
    rw [hb, completeActivations_posted]
    exact ⟨⟨rfl, rfl, rfl⟩, rfl, rfl, rfl⟩
  have hheard (c : Fin 28) : b.chan.channels[c].heard = s.chan.channels[c].heard := by
    rw [hb]
    exact completeActivations_heard (postNotice (.state .config) (setOp .config s)) c
  obtain ⟨hrests, huplink, hcall, hbant⟩ := hbanks
  have hdrop : MixRests b (dropReleasing b) := (claimReachesNone_rests 0 b).trans (claimReachesNone_rests 1 _)
  obtain ⟨hroutes, hzones, hnotices⟩ := hrests.trans hdrop
  have hmsg : NoticesOnly (setOp .config s) (reachConfig s) := by
    rw [reachConfig_eq, enterConfig, ← hb]
    exact (hnotices.trans (endSwitchFade_msg _)).trans (.of_msg (by simp))
  refine ⟨hmsg.phase, hmsg.op, ?_, ?_, ?_, ?_, ?_, fun c => ?_⟩
  · rw [reachConfig_eq, enterConfig, ← hb]
    simp only [silenceAll_frame, resolveBeams_frame, endSwitchFade_frame]
    exact hroutes
  · rw [reachConfig_eq, enterConfig, ← hb]
    simp only [silenceAll_frame, resolveBeams_frame, endSwitchFade_frame]
    exact hzones
  · have h : (reachConfig s).uplink = s.uplink.rebuild s.call.placement := by
      rw [reachConfig_eq, enterConfig, ← hb]
      show (endSwitchFade postNotice (dropReleasing b)).uplink.rebuild
        (endSwitchFade postNotice (dropReleasing b)).call.placement = _
      simp [huplink, hcall]
    rw [h]
    exact rebuild_crossfaded _ _
  · rw [reachConfig_eq]
    exact congrArg (fun g : GainUnit => g.mapPoints GainPoint.silenced) (enterConfig_gain s)
  · have h : (reachConfig s).ant = (endSwitchFade postNotice (dropReleasing b)).ant := by
      rw [reachConfig_eq, enterConfig, ← hb]
      simp
    have hdropped : (dropReleasing b).ant = s.ant := by simp [hbant]
    rw [h, endSwitchFade_ant_eq, hdropped]
    exact fadeEndedAnt_block s.ant
  · have h : (reachConfig s).chan = b.chan := by
      rw [reachConfig_eq, enterConfig, ← hb]
      simp
    rw [h, hheard]

theorem endOfFrame_ended {f : Frame} (hi : f.index ≠ 63) (early : Bool) (s : State) :
    FrameEnded early (endCrossfades s) (endOfFrame f early s) ∧
      (endOfFrame f early s).msg.resetPhase = (endCrossfades s).msg.resetPhase := by
  obtain ⟨w, hw⟩ : ∃ w, w = endCrossfades s := ⟨_, rfl⟩
  obtain ⟨u, hu⟩ : ∃ u, u = settleClaims w := ⟨_, rfl⟩
  obtain ⟨v, hv⟩ : ∃ v, v = if closingDue u then closeCall u else u := ⟨_, rfl⟩
  obtain ⟨p, hp⟩ : ∃ p, p = settlePath false early v := ⟨_, rfl⟩
  have hblock : (f.index == 63) = false := beq_eq_false_iff_ne.mpr hi
  have heq : endOfFrame f early s = if configDue p then reachConfig p else p := by
    rw [hp, hv, hu, hw]
    simp only [endOfFrame, hblock, Bool.false_eq_true, if_false]
  rw [← hw, heq]
  obtain ⟨hroutes, hzones, hclaims⟩ := hu ▸ settleClaims_rests w
  have hclose : NoticesOnly u v ∧ v.mix = u.mix ∧ v.gain = u.gain ∧ v.chan = u.chan ∧ v.prot = u.prot ∧ v.ant = u.ant ∧
      v.radio = u.radio ∧ v.uplink = u.uplink := by
    rw [hv]
    split
    · exact ⟨rfl, by simp⟩
    · exact ⟨rfl, rfl, rfl, rfl, rfl, rfl, rfl, rfl⟩
  obtain ⟨hvmsg, hvmix, hvgain, hvchan, hvprot, hvant, hvradio, hvuplink⟩ := hclose
  obtain ⟨-, ugain, uchan, uprot, uant, uradio, -, uuplink, -⟩ := hu ▸ settleClaims_frame w
  obtain ⟨-, pmix, pgain, pchan, pprot, pant, pradio, -⟩ := hp ▸ settlePath_frame false early v
  have hmsg : NoticesOnly w p := (hclaims.trans hvmsg).trans (hp ▸ settlePath_msg early v)
  have hgain : p.gain = w.gain := pgain.trans (hvgain.trans ugain)
  have hant : p.ant = w.ant := pant.trans (hvant.trans uant)
  have hchan : p.chan = w.chan := pchan.trans (hvchan.trans uchan)
  have hmix : p.mix = u.mix := pmix.trans hvmix
  have huplink : (pathSettled early w.uplink).Crossfaded p.uplink := by
    have h := settlePath_uplink early v
    rw [← hp, hvuplink, uuplink] at h
    exact h
  have hevented : w.uplink.Evented p.uplink := by
    have h := settlePath_evented early v
    rw [← hp, hvuplink, uuplink] at h
    exact h
  have hdue : configDue p = configDue w := by
    unfold configDue
    rw [hmsg.op, hgain]
  rw [hdue]
  cases hc : configDue w with
  | false =>
    rw [if_neg (by decide)]
    exact ⟨⟨pprot.trans (hvprot.trans uprot), pradio.trans (hvradio.trans uradio), by rw [hmix, hroutes],
      by rw [hmix, hzones], fun c => by rw [hchan], huplink, by rw [hant]; exact ⟨rfl, rfl⟩,
      fun _ => ⟨hgain, hmsg.op, hant, hchan, hevented⟩, fun h => absurd (hc.symm.trans h) (by decide)⟩, hmsg.phase⟩
  | true =>
    rw [if_pos rfl]
    obtain ⟨cphase, cop, croutes, czones, cuplink, cgain, cblock, cheard⟩ := reachConfig_keeps p
    obtain ⟨-, cprot, cradio, -⟩ := reachConfig_frame p
    exact ⟨⟨cprot.trans (pprot.trans (hvprot.trans uprot)),
      cradio.trans (pradio.trans (hvradio.trans uradio)), by rw [croutes, hmix, hroutes], by rw [czones, hmix, hzones],
      fun c => by rw [cheard, hchan], huplink.trans cuplink, by rw [← hant]; exact cblock,
      fun h => absurd (hc.symm.trans h) (by decide), fun _ => ⟨by rw [cgain, hgain], cop⟩⟩, cphase.trans hmsg.phase⟩

/-- A notice that enters the queue changes none of it. -/
theorem FrameEnded.noticed {early : Bool} {w t : State} (h : FrameEnded early w t) (b : Bool) :
    FrameEnded early w (enterNotice b t) := by
  obtain ⟨hprot, hradio, hroutes, hzones, hheard, huplink, hblock, hrunning, hsilent⟩ := h
  obtain ⟨-, emix, egain, echan, eprot, eant, eradio, -, euplink, -⟩ := enterNotice_frame b t
  obtain ⟨eop, -⟩ := enterNotice_op b t
  refine ⟨eprot.trans hprot, eradio.trans hradio, by rw [emix, hroutes], by rw [emix, hzones],
    fun c => by rw [echan, hheard], by rw [euplink]; exact huplink, by rw [eant]; exact hblock, fun hc => ?_, fun hc => ?_⟩
  · obtain ⟨hgain, hop, hant, hchan, hevented⟩ := hrunning hc
    exact ⟨egain.trans hgain, eop.trans hop, eant.trans hant, echan.trans hchan, by rw [euplink]; exact hevented⟩
  · obtain ⟨hgain, hop⟩ := hsilent hc
    exact ⟨egain.trans hgain, eop.trans hop⟩

/-- A whole frame without a command word that ends no block, while the units run. -/
theorem goodFrame_ended {f : Frame} {s : State} (hl : s.ring.link = .linked) (hrun : s.running = true)
    (ht : f.ctype = .idle) (hi : f.index ≠ 63) (hphase : s.msg.resetPhase = .none)
    (hresets : ∀ m ∈ s.msg.queue, m.resets = false) :
    FrameEnded (gainEvent s) (worked f s) (goodFrame f s) := by
  have hrunning : (adopted f s).running = true := hrun
  obtain ⟨hended, hend⟩ := endOfFrame_ended hi (gainEvent s) (sounded f s)
  rw [← show worked f s = endCrossfades (sounded f s) from rfl] at hended hend
  have hsettled : frameSettled f (adopted f s) = endOfFrame f (gainEvent s) (sounded f s) := by
    rw [frameSettled, hrunning, if_pos rfl, takeCommand_idle ht, gainEvent_arrived]
    refine settleReset_idle ?_
    have hnone := hend.trans ((worked_spec (f := f) hresets).phase.trans hphase)
    intro h
    exact absurd (hnone.symm.trans h) (by decide)
  have hframe : goodFrame f s = enterNotice (frameSent f (adopted f s)).msg.queue.isEmpty
      (endOfFrame f (gainEvent s) (sounded f s)) := by
    rw [goodFrame_linked hl, processFrame_eq, hsettled]
  exact hframe ▸ hended.noticed _

end Sys2Proof.Machine


namespace Sys2Proof.Machine

/-! ## What the units make of a frame, in full (R14, R150, R183) -/

section
variable (f : Frame) (s : State)

/-- The bound and the pilot's share that R150 writes out. -/
theorem radioPair_mixed : radioPair (mixed f s) =
    (saturate (applyGain (saturate (Config.highCutOut s.radio.highCut
        (Config.highCutNext s.radio.highCut s.radio.cutLeft (separatedPair s.radio).1))) (gainStep s).radio.current),
     saturate (applyGain (saturate (Config.highCutOut s.radio.highCut
        (Config.highCutNext s.radio.highCut s.radio.cutRight (separatedPair s.radio).2)))
        (gainStep s).radio.current)) := by
  unfold radioPair mixed
  generalize gainStep s = g
  rfl

theorem frameBuses_bus (z : Fin 5) : (frameBuses f s)[z] =
    zoneBus (s.setGain (gainStep s)) (sourcePair s.ring.slotMap f (radioPair (mixed f s))) z := by
  have hmap : (mixed f s).ring.slotMap = s.ring.slotMap := by simp [mixed]
  refine (Vector.getElem_ofFn _).trans ?_
  rw [hmap]
  exact zoneBus_congr (by simp [mixed]) (by simp [mixed]) _ z

theorem combinedSamples_last (d : Complex24) : (combinedSamples s f).getLastD d =
    combinedSample s.ant fun a => antennaSample s.ring.slotMap f a 3 := by
  unfold combinedSamples
  rfl

theorem antennaFrame_powers (a : Fin 4) : (antennaFrame f s).ant.powers[a] =
    ([3, 2, 1, 0].map fun n => power (antennaSample s.ring.slotMap f a n)) ++ s.ant.powers[a] :=
  Vector.getElem_ofFn _

theorem antennaFrame_corrSum (p : Fin 6) : (antennaFrame f s).ant.corrSum[p] =
    addCorrelation s.ant.corrSum[p] (antennaSample s.ring.slotMap f corrPairs[p].1)
      (antennaSample s.ring.slotMap f corrPairs[p].2) :=
  Vector.getElem_ofFn _

theorem addCorrelation_sum (c : Complex24) (z1 z2 : Fin 4 → Complex24) : addCorrelation c z1 z2 =
    (c.1 + ∑ n : Fin 4, ((z1 n).1 * (z2 n).1 + (z1 n).2 * (z2 n).2),
     c.2 + ∑ n : Fin 4, ((z1 n).2 * (z2 n).1 - (z1 n).1 * (z2 n).2)) := by
  have hfold : addCorrelation c z1 z2 = [0, 1, 2, 3].foldl
      (fun a n => (a.1 + (timesConj (z1 n) (z2 n)).1, a.2 + (timesConj (z1 n) (z2 n)).2)) c := rfl
  rw [hfold]
  simp only [List.foldl_cons, List.foldl_nil, timesConj, Fin.sum_univ_four, add_assoc]

theorem finRange_map_sum {n : Nat} (g : Fin n → Int) : ((List.finRange n).map g).sum = ∑ k : Fin n, g k := by
  rw [← List.ofFn_eq_map, List.sum_ofFn]

theorem echoOutput_zero {filter : List Int} (h : ∀ v ∈ filter, v = 0) (reference : List Int) :
    echoOutput filter reference = 0 := by
  refine if_pos (List.all_eq_true.mpr fun v hv => ?_)
  rw [h v hv]
  rfl

theorem echoOutput_nonzero {filter : List Int} (h : ∃ v ∈ filter, v ≠ 0) (reference : List Int) :
    echoOutput filter reference = Config.echoOutput (spanned filter) (spanned reference) := by
  obtain ⟨v, hv, hne⟩ := h
  refine if_neg fun hall => hne ?_
  exact beq_iff_eq.mp (List.all_eq_true.mp hall v hv)

theorem referenceSum_eq (buses : Vector (Int × Int) 5) :
    referenceSum buses = saturate (∑ z : Fin 5, (buses[z].1 + buses[z].2) / 2) := by
  have hlist : buses.toList = List.ofFn fun z : Fin 5 => buses[z] := by
    refine List.ext_getElem (by simp) fun i h1 h2 => ?_
    rw [List.getElem_ofFn, Vector.getElem_toList]
    rfl
  rw [referenceSum, hlist, List.map_ofFn, List.sum_ofFn]
  rfl

theorem busSides_left (buses : Vector (Int × Int) 5) (z : Fin 5) :
    (busSides buses).getD (2 * z.val) 0 = buses[z].1 ∧ (busSides buses).getD (2 * z.val + 1) 0 = buses[z].2 := by
  have hlist : buses.toList = [buses[0], buses[1], buses[2], buses[3], buses[4]] := by
    apply List.ext_getElem
    · simp
    · intro i h1 h2
      have hi : i < 5 := by simpa using h1
      interval_cases i <;> simp
  unfold busSides
  rw [hlist]
  fin_cases z <;> exact ⟨rfl, rfl⟩

end

/-! ## The uplink chain (R178, R181, R183, R185) -/

section
variable (f : Frame) (buses : Vector (Int × Int) 5) (s : State)

theorem uplinkFrame_mic (m : Fin 6) : (uplinkFrame f buses s).uplink.mics[m] =
    roleSample s.ring.slotMap f (.mic m) :: s.uplink.mics[m].take 31 := Vector.getElem_ofFn _

theorem uplinkFrame_reference (k : Fin 10) : (uplinkFrame f buses s).uplink.references[k] =
    (busSides buses).getD k.val 0 :: s.uplink.references[k].take 6143 := Vector.getElem_ofFn _

/-- The uplink beam sum of the frame. -/
def frameBeams : Int := saturate (∑ b : Fin 2, applyGain (selectionSum (uplinkFrame f buses s).uplink.mics
  s.uplink.selections[b]) s.gain.beam[b].current)

/-- The residual of the frame. -/
def frameResidual : Int :=
  saturate (frameBeams f buses s -
    ∑ k : Fin 10, echoOutput s.uplink.filters[k] (uplinkFrame f buses s).uplink.references[k])

/-- The uplink unit after its part of a frame, by its beam sum and its residual. -/
theorem uplinkFrame_chain : (uplinkFrame f buses s).uplink = { s.uplink with
    mics := (uplinkFrame f buses s).uplink.mics
    references := (uplinkFrame f buses s).uplink.references
    residuals := frameResidual f buses s :: s.uplink.residuals
    peakF := max s.uplink.peakF (magnitude (referenceSum buses))
    peakN := max s.uplink.peakN (magnitude (frameBeams f buses s))
    peakR := max s.uplink.peakR (magnitude (frameResidual f buses s))
    out := saturate (applyGain (frameResidual f buses s) s.gain.uplink.current) } := by
  unfold frameResidual frameBeams
  simp only [← finRange_map_sum]
  rfl

end

/-- A uplink unit with the beam crossfade, the events and what they do taken from another. -/
def UplinkUnit.marked (u v : UplinkUnit) : UplinkUnit :=
  { u with
    selections := v.selections, live := v.live, fading := v.fading, changePending := v.changePending
    pathRaised := v.pathRaised, echo := v.echo, converge := v.converge }

theorem UplinkUnit.Crossfaded.marked {u v : UplinkUnit} (h : u.Crossfaded v) : v = u.marked v :=
  (congrArg (UplinkUnit.marked · v) h :)

/-- At the end of a frame that ends no block the uplink unit is as its own part of the frame left it, but for these. -/
theorem uplink_ended {f : Frame} {s : State} {early : Bool} {w v : UplinkUnit} (hw : (uplinkMoved f s).Crossfaded w)
    (hv : (pathSettled early w).Crossfaded v) : v = (uplinkHeard f s).marked v := by
  have hmoved : (uplinkMoved f s).marked v = (uplinkHeard f s).marked v := by
    unfold uplinkMoved
    split <;> rfl
  have hsettled : (pathSettled early w).marked v = w.marked v := by
    unfold pathSettled
    split <;> rfl
  have hcrossed : w.marked v = (uplinkMoved f s).marked v := (congrArg (UplinkUnit.marked · v) hw.marked :)
  exact hv.marked.trans (hsettled.trans (hcrossed.trans hmoved))

theorem disturbed_congr {u v : UplinkUnit} (he : u.echo = v.echo) (hc : u.converge = v.converge) :
    u.disturbed.echo = v.disturbed.echo ∧ u.disturbed.converge = v.disturbed.converge := by
  unfold UplinkUnit.disturbed
  rw [he, hc]
  exact ⟨rfl, rfl⟩

theorem UplinkUnit.Crossfaded.echo {u v : UplinkUnit} (h : u.Crossfaded v) : v.echo = u.echo ∧ v.converge = u.converge :=
  ⟨(congrArg UplinkUnit.echo h :), (congrArg UplinkUnit.converge h :)⟩

theorem uplinkHeard_echo (f : Frame) (s : State) :
    (uplinkHeard f s).echo = s.uplink.echo ∧ (uplinkHeard f s).converge = s.uplink.converge := by
  unfold uplinkHeard
  generalize gainStep s = g
  generalize frameBuses f s = b
  exact ⟨rfl, rfl⟩

section
variable {f : Frame} {s w : State} {v : UplinkUnit}

/-- Of the frame's path-change events one takes effect, in its order with no evaluation. -/
theorem echo_disturbed (hw : FrameWorked f s w) (hv : (pathSettled (gainEvent s) w.uplink).Crossfaded v)
    (h : gainEvent s = true ∨ s.uplink.pathRaised = true ∨ FadeEnds s) :
    v.echo = (pathEffect s).uplink.echo ∧ v.converge = (pathEffect s).uplink.converge := by
  obtain ⟨he, hc⟩ := hv.echo
  obtain ⟨we, wc⟩ := hw.uplink.echo
  obtain ⟨ue, uc⟩ := uplinkHeard_echo f s
  obtain ⟨de, dc⟩ := disturbed_congr ue uc
  rw [pathEffect_uplink, ← de, ← dc, he, hc]
  cases hevent : gainEvent s with
  | true =>
    rw [uplinkMoved, hevent, if_pos rfl] at we wc
    rw [pathSettled, if_neg (by simp)]
    exact ⟨we, wc⟩
  | false =>
    rw [uplinkMoved, hevent, if_neg (by decide)] at we wc
    have hraised := hw.raised hevent (h.resolve_left (by rw [hevent]; decide))
    rw [pathSettled, if_pos ⟨rfl, hraised⟩]
    exact disturbed_congr we wc

/-- Without one nothing does. -/
theorem echo_calm (hw : FrameWorked f s w) (hv : (pathSettled (gainEvent s) w.uplink).Crossfaded v)
    (he : gainEvent s = false) (hp : s.uplink.pathRaised = false) (hf : ¬FadeEnds s)
    (hpending : s.uplink.fading = false ∨ s.uplink.changePending = false) :
    v.echo = s.uplink.echo ∧ v.converge = s.uplink.converge := by
  have hcalm := hw.calm he hp hf hpending
  obtain ⟨te, tc⟩ := hv.echo
  obtain ⟨we, wc⟩ := hw.uplink.echo
  obtain ⟨ue, uc⟩ := uplinkHeard_echo f s
  rw [uplinkMoved, he, if_neg (by decide)] at we wc
  rw [pathSettled, if_neg (by rw [hcalm]; simp)] at te tc
  exact ⟨te.trans (we.trans ue), tc.trans (wc.trans uc)⟩

end

end Sys2Proof.Machine


namespace Sys2Proof.Machine

theorem running_of_units {s : State}
    (h : s.msg.op = .run ∨ s.msg.op = .stopping ∨ (s.msg.op = .pattern ∧ s.msg.patternFrom = .run)) :
    s.running = true := by
  unfold State.running
  rcases h with h | h | ⟨h, hp⟩
  · rw [h]
  · rw [h]
  · rw [h, hp]
    rfl

/-- A move of a step target that raises a path-change event (R76). -/
theorem pathJump_iff (n : Nat) (a b : Step) : pathJump n a b = true ↔
    match a, b with
    | .mute, .mute => False
    | .steps a, .steps b => n < (a - b).natAbs
    | _, _ => True := by
  cases a <;> cases b <;> simp [pathJump]

theorem gainEvent_iff (s : State) : gainEvent s = true ↔
    ∃ c : Fin 28, pathJump s.uplink.record.pathStep s.gain.out[c].step (gainStep s).out[c].step = true := by
  simp only [gainEvent, outputsJump, List.any_eq_true, List.mem_finRange, true_and]

theorem channelStep_out (x : Channel) (fade : Option BankFade) (buses : Vector (Int × Int) 5) :
    (channelStep x fade 0 buses).out = 0 := by
  show saturate (applyGain (filterChannel x fade _).2 0) = 0
  rw [applyGain, Nat.cast_zero, mul_zero]
  rfl

/-- Of a frame's uplink unit: everything R178, R181, R183 and R185 say, whatever the crossfade and the events do. -/
theorem uplinkFrame_said (f : Frame) (b : Vector (Int × Int) 5) (s : State) {v : UplinkUnit}
    (hv : v = (uplinkFrame f b s).uplink.marked v) : ∃ y : Fin 10 → Int,
      (∀ k : Fin 10, (∀ x ∈ s.uplink.filters[k], x = 0) → y k = 0) ∧
      (∀ k : Fin 10, (∃ x ∈ s.uplink.filters[k], x ≠ 0) →
        y k = Config.echoOutput (spanned s.uplink.filters[k]) (spanned v.references[k])) ∧
      frameBeams f b s = saturate (∑ i : Fin 2, applyGain (selectionSum v.mics s.uplink.selections[i])
        s.gain.beam[i].current) ∧
      frameResidual f b s = saturate (frameBeams f b s - ∑ k : Fin 10, y k) ∧
      (∀ m : Fin 6, v.mics[m] = roleSample s.ring.slotMap f (.mic m) :: s.uplink.mics[m].take 31) ∧
      (∀ (z : Fin 5) (k : Fin 10),
        (k.val = 2 * z.val → v.references[k] = b[z].1 :: s.uplink.references[k].take 6143) ∧
        (k.val = 2 * z.val + 1 → v.references[k] = b[z].2 :: s.uplink.references[k].take 6143)) ∧
      v.residuals = frameResidual f b s :: s.uplink.residuals ∧
      v.out = saturate (applyGain (frameResidual f b s) s.gain.uplink.current) ∧
      v.peakF = max s.uplink.peakF (magnitude (saturate (∑ z : Fin 5, (b[z].1 + b[z].2) / 2))) ∧
      v.peakN = max s.uplink.peakN (magnitude (frameBeams f b s)) ∧
      v.peakR = max s.uplink.peakR (magnitude (frameResidual f b s)) := by
  have hmics : v.mics = (uplinkFrame f b s).uplink.mics := (congrArg UplinkUnit.mics hv :)
  have hreferences : v.references = (uplinkFrame f b s).uplink.references := (congrArg UplinkUnit.references hv :)
  have hchain := uplinkFrame_chain f b s
  rw [hmics, hreferences, ← referenceSum_eq]
  refine ⟨fun k => echoOutput s.uplink.filters[k] (uplinkFrame f b s).uplink.references[k],
    fun k h => echoOutput_zero h _, fun k h => echoOutput_nonzero h _, rfl, rfl, uplinkFrame_mic f b s,
    fun z k => ⟨fun hk => ?_, fun hk => ?_⟩, ?_, ?_, ?_, ?_, ?_⟩
  · rw [uplinkFrame_reference]
    exact congrArg (· :: s.uplink.references[k].take 6143)
      ((congrArg (fun n => (busSides b).getD n 0) hk).trans (busSides_left b z).1)
  · rw [uplinkFrame_reference]
    exact congrArg (· :: s.uplink.references[k].take 6143)
      ((congrArg (fun n => (busSides b).getD n 0) hk).trans (busSides_left b z).2)
  · exact (congrArg UplinkUnit.residuals hv).trans (congrArg UplinkUnit.residuals hchain)
  · exact (congrArg UplinkUnit.out hv).trans (congrArg UplinkUnit.out hchain)
  · exact (congrArg UplinkUnit.peakF hv).trans (congrArg UplinkUnit.peakF hchain)
  · exact (congrArg UplinkUnit.peakN hv).trans (congrArg UplinkUnit.peakN hchain)
  · exact (congrArg UplinkUnit.peakR hv).trans (congrArg UplinkUnit.peakR hchain)

theorem uplinkHeard_rest (f : Frame) (s : State) :
    (uplinkHeard f s).diverge = s.uplink.diverge ∧ (uplinkHeard f s).filters = s.uplink.filters := by
  unfold uplinkHeard
  generalize gainStep s = g
  generalize frameBuses f s = b
  exact ⟨rfl, rfl⟩

theorem switchFadeOver_antennaFrame (f : Frame) (s : State) :
    switchFadeOver (antennaFrame f s) = true ↔ ∃ x, s.ant.fade = some x ∧ 63 ≤ x.count := by
  have hfade : (antennaFrame f s).ant.fade = s.ant.fade.map fun x => { x with count := x.count + 1 } := rfl
  unfold switchFadeOver
  rw [hfade]
  cases s.ant.fade with
  | none => simp
  | some x => simp

theorem exec_switchCrossfadeEnd_ant {s : State} (ha : s.active = true) (hd : switchFadeDue s.ant = true) :
    ∃ v, exec .switchCrossfadeEnd s = .next v ∧ v.ant = fadeEndedAnt s.ant := by
  refine ⟨_, congrArg Host.Outcome.next (eventStep_due ha hd), ?_⟩
  obtain ⟨-, -, -, -, -, hant, -⟩ := takePath_frame (endSwitchFade postNotice s)
  exact hant.trans (endSwitchFade_ant_eq s)

/-- Settles O8: the work of the units on the frame, unit by unit, and what the end of the frame keeps of it. -/
theorem goodFrameInRun : Obligations.GoodFrameInRun := by
  intro f s hl hop ht hi hphase hresets sat through size g silent pair diff left right radio buses jump fadeEnds z
  have hworked : FrameWorked f s (worked f s) := worked_spec hresets
  have hended := goodFrame_ended hl (running_of_units hop) ht hi hphase hresets
  obtain ⟨wop, -, wgain, wmix, -, -, -, wprot, wradio, want, wheard, wuplink, -, -⟩ := id hworked
  obtain ⟨tprot, tradio, troutes, tzones, theard, tuplink, tblock, trunning, tsilent⟩ := hended
  have hmarked := uplink_ended wuplink tuplink
  have hjump : jump ↔ gainEvent s = true := by
    refine Iff.trans ?_ (gainEvent_iff s).symm
    exact exists_congr fun c => (pathJump_iff _ _ _).symm
  have hsilent : configDue (worked f s) = true ↔ silent := by
    rw [configDue_iff, wop, wgain]
  have hbus (k : Fin 5) : buses[k] = (frameBuses f s)[k] := by
    rw [frameBuses_bus, radioPair_mixed]
    exact Vector.getElem_ofFn _
  have hbuses : buses = frameBuses f s := Vector.ext fun i hi => hbus ⟨i, hi⟩
  have hblock : (worked f s).ant.powers = (antennaFrame f s).ant.powers ∧
      (worked f s).ant.corrSum = (antennaFrame f s).ant.corrSum := by
    rw [want]
    split
    · exact fadeEndedAnt_block _
    · exact ⟨rfl, rfl⟩
  have hout (c : Fin 28) : (goodFrame f s).chan.channels[c].out = (channelMoved f s c).out :=
    congrArg (fun h : ChannelRecord × Int × Nat => h.2.1) ((theard c).trans (wheard c))
  obtain ⟨hdiverge, hfilters⟩ := uplinkHeard_rest f s
  refine ⟨goodFrame f s, rfl, fun h => ?_, fun hno hp hf hpending => ?_, ?_, ?_, fun a => ?_, fun p a b hp => ?_,
    ⟨fun hrun hbelow => ?_, fun x hrun hx hcount => ?_⟩, fun hrun => ?_, fun h => ?_, fun c => ⟨?_, fun hc => ?_⟩,
    ⟨decodedPair (Config.decoderNext s.radio.decoder (multiplexOf s.radio.lastSample (combinedSamples s f))), ?_⟩,
    ?_, ?_, ?_, ?_, fun a => ?_, ?_, ?_, by rw [troutes, wmix], by rw [tzones, wmix]⟩
  · exact echo_disturbed hworked tuplink (h.imp hjump.mp id)
  · exact echo_calm hworked tuplink (Bool.eq_false_iff.mpr fun he => hno (hjump.mpr he)) hp hf hpending
  · exact (congrArg UplinkUnit.diverge hmarked).trans hdiverge
  · exact (congrArg UplinkUnit.filters hmarked).trans hfilters
  · rw [tblock.1, hblock.1]
    exact antennaFrame_powers f s a
  · rw [tblock.2, hblock.2, antennaFrame_corrSum, hp]
    exact addCorrelation_sum _ _ _
  · obtain ⟨-, -, hant, -⟩ := trunning (Bool.eq_false_iff.mpr fun h => hrun (hsilent.mp h))
    have hover : switchFadeOver (antennaFrame f s) = false := by
      refine Bool.eq_false_iff.mpr fun h => ?_
      obtain ⟨x, hx, hcount⟩ := (switchFadeOver_antennaFrame f s).mp h
      exact absurd (hbelow x hx) (not_lt.mpr hcount)
    rw [hant, want, hover, if_neg (by decide)]
    rfl
  · obtain ⟨-, -, hant, -⟩ := trunning (Bool.eq_false_iff.mpr fun h => hrun (hsilent.mp h))
    have hactive : s.active = true := by
      unfold State.active State.linked
      rw [hl, running_of_units hop]
      rfl
    obtain ⟨v, hexec, hv⟩ := exec_switchCrossfadeEnd_ant hactive ((switchFadeDue_iff s.ant).mpr ⟨x, hx, hcount⟩)
    refine ⟨v, hexec, ?_⟩
    rw [hant, want, (switchFadeOver_antennaFrame f s).mpr ⟨x, hx, hcount⟩, if_pos rfl, hv]
    exact fadeEndedAnt_antennaFrame f s
  · obtain ⟨hgain, hop, -, -⟩ := trunning (Bool.eq_false_iff.mpr fun h => hrun (hsilent.mp h))
    exact ⟨hgain.trans wgain, hop.trans wop⟩
  · obtain ⟨hgain, hop⟩ := tsilent (hsilent.mpr h)
    exact ⟨hgain.trans (congrArg (fun u : GainUnit => u.mapPoints GainPoint.silenced) wgain), hop⟩
  · rw [hout, hbuses]
    rfl
  · rw [hout, channelMoved, hc]
    exact channelStep_out _ _ _
  · rw [tradio, wradio]
    rfl
  · rw [tradio, wradio]
    rfl
  · rw [tradio, wradio]
    rfl
  · rw [tradio, wradio]
    exact combinedSamples_last f s s.radio.lastSample
  · obtain ⟨y, hzero, hnonzero, hbeams, he, hmics, hreferences, hresiduals, hout, hpeakF, hpeakN, hpeakR⟩ :=
      uplinkFrame_said f (frameBuses f s) (s.setGain (gainStep s)) hmarked
    rw [hbuses]
    have hw : sat (∑ b : Fin 2, through (selectionSum (goodFrame f s).uplink.mics s.uplink.selections[b])
        g.beam[b].current) = frameBeams f (frameBuses f s) (s.setGain g) := hbeams.symm
    dsimp only
    rw [hw]
    refine ⟨y, hzero, hnonzero, ?_⟩
    rw [show sat (frameBeams f (frameBuses f s) (s.setGain g) - ∑ k : Fin 10, y k) =
      frameResidual f (frameBuses f s) (s.setGain g) from he.symm]
    exact ⟨hmics, hreferences, hresiduals, hout, hpeakF, hpeakN, hpeakR⟩
  · rw [tprot, wprot]
    exact Vector.getElem_ofFn _
  · rw [tprot, wprot]
    rfl
  · rw [tprot, wprot]
    rfl

end Sys2Proof.Machine


namespace Sys2Proof.Machine

/-! ## The superframe evaluation, channel by channel (R115 to R123) -/

/-- The record an evaluation leaves of an enabled channel. -/
def channelEvaluated (s : State) (c : Fin 28) : ProtectRecord :=
  { afterMoves (classOf s c) s.prot.count s.prot.records[c] (evaluatedTier s c .one) (evaluatedTier s c .two)
      (evaluatedFast s c) with restart1 := false, restart2 := false }

/-- The record an evaluation leaves; a disabled channel keeps its own. -/
def recordEvaluated (s : State) (c : Fin 28) : ProtectRecord :=
  if enabled s c then channelEvaluated s c else s.prot.records[c]

/-- An evaluation changes the channel's reduction. -/
def reductionMoves (s : State) (c : Fin 28) : Bool :=
  decide ((recordEvaluated s c).reduction ≠ s.prot.records[c].reduction)

/-- What the evaluation of some channels leaves: their records, an event raised by a changed reduction. -/
structure ChannelsEvaluated (l : List (Fin 28)) (s t : State) : Prop where
  msg : NoticesOnly s t
  chan : t.chan = s.chan
  rest : { t.prot with records := s.prot.records } = s.prot
  records : ∀ c : Fin 28, t.prot.records[c] = if c ∈ l then recordEvaluated s c else s.prot.records[c]
  uplink : t.uplink = { s.uplink with pathRaised := s.uplink.pathRaised || l.any (reductionMoves s) }

theorem postNotices_msg (ds : List NoticeDetail) (s : State) : NoticesOnly s (postNotices ds s) := by
  induction ds generalizing s with
  | nil => rfl
  | cons d ds ih => exact NoticesOnly.trans (t := postNotice d s) rfl (ih _)

theorem setProtection_spec (c : Fin 28) (r : ProtectRecord) (s : State) :
    (setProtection c r s).msg = s.msg ∧ (setProtection c r s).prot = { s.prot with records := s.prot.records.set c r } ∧
      (setProtection c r s).uplink = { s.uplink with
        pathRaised := s.uplink.pathRaised || decide (r.reduction ≠ s.prot.records[c].reduction) } := by
  unfold setProtection
  dsimp only
  by_cases h : s.prot.records[c].reduction = r.reduction
  · rw [if_pos h, h]
    simp
  · rw [if_neg h, decide_eq_true (Ne.symm h), Bool.or_true]
    exact ⟨rfl, rfl, rfl⟩

theorem evaluateChannel_spec (s : State) (c : Fin 28) : ChannelsEvaluated [c] s (evaluateChannel s c) := by
  obtain ⟨-, -, -, hchan, -⟩ := evaluateChannel_frame s c
  have hmoves : [c].any (reductionMoves s) = reductionMoves s c := by simp
  unfold evaluateChannel at hchan ⊢
  cases he : enabled s c with
  | false =>
    have hrecord : recordEvaluated s c = s.prot.records[c] := by rw [recordEvaluated, he]; rfl
    have hcalm : reductionMoves s c = false := by rw [reductionMoves, hrecord]; simp
    rw [if_neg (by decide)]
    refine ⟨.refl s, rfl, rfl, fun d => ?_, by rw [hmoves, hcalm, Bool.or_false]⟩
    split
    · next h => rw [List.mem_singleton.mp h, hrecord]
    · rfl
  | true =>
    rw [he, if_pos rfl] at hchan
    rw [if_pos rfl]
    obtain ⟨r, hr⟩ : ∃ r, r = afterMoves (classOf s c) s.prot.count s.prot.records[c] (evaluatedTier s c .one)
      (evaluatedTier s c .two) (evaluatedFast s c) := ⟨_, rfl⟩
    obtain ⟨t, ht⟩ : ∃ t, t = moveProtection c (evaluatedTier s c .one) (evaluatedTier s c .two) (evaluatedFast s c) s :=
      ⟨_, rfl⟩
    have hrecord : recordEvaluated s c = { r with restart1 := false, restart2 := false } := by
      rw [recordEvaluated, he, if_pos rfl, channelEvaluated, ← hr]
    have hmove : t = postNotices (protectNotices c s.prot.records[c] r) (setProtection c r s) := by rw [ht, hr]; rfl
    obtain ⟨pmsg, pprot, puplink⟩ := setProtection_spec c r s
    obtain ⟨-, -, -, -, nprot, -, -, -, nuplink, -⟩ :=
      postNotices_frame (protectNotices c s.prot.records[c] r) (setProtection c r s)
    rw [← hmove] at nprot nuplink
    have hprot := nprot.trans pprot
    rw [← ht] at hchan ⊢
    refine ⟨?_, hchan, ?_, fun d => ?_, ?_⟩
    · have hposted := postNotices_msg (protectNotices c s.prot.records[c] r) (setProtection c r s)
      rw [← hmove] at hposted
      exact (NoticesOnly.of_msg pmsg).trans hposted
    · show { t.prot with records := s.prot.records } = s.prot
      rw [hprot]
    · show (t.prot.records.set c { t.prot.records[c] with restart1 := false, restart2 := false })[d] = _
      rw [hprot]
      dsimp only
      rw [vector_set_fin]
      by_cases h : d = c
      · subst h
        rw [if_pos rfl, if_pos (List.mem_singleton.mpr rfl), hrecord, vector_set_fin, if_pos rfl]
      · rw [if_neg h, if_neg (by simpa using h), vector_set_fin, if_neg h]
    · show t.uplink = _
      rw [hmoves, reductionMoves, hrecord]
      exact nuplink.trans puplink

/-- An evaluation of a channel goes by its record, the channel unit, the classes, the amplifiers and the count. -/
theorem recordEvaluated_congr {s t : State} {c : Fin 28} (hchan : t.chan = s.chan)
    (hrest : { t.prot with records := s.prot.records } = s.prot) (hrecord : t.prot.records[c] = s.prot.records[c]) :
    recordEvaluated t c = recordEvaluated s c := by
  have hclasses : t.prot.classes = s.prot.classes := (congrArg ProtectUnit.classes hrest :)
  have hamps : t.prot.amps = s.prot.amps := (congrArg ProtectUnit.amps hrest :)
  have hcount : t.prot.count = s.prot.count := (congrArg ProtectUnit.count hrest :)
  unfold recordEvaluated enabled channelEvaluated evaluatedTier evaluatedFast tierSetting derated
    flagged statusAmp classOf
  simp only [hchan, hclasses, hamps, hcount, hrecord]

theorem evaluateChannels_spec {l : List (Fin 28)} (hl : l.Nodup) (s : State) :
    ChannelsEvaluated l s (l.foldl evaluateChannel s) := by
  induction l generalizing s with
  | nil => exact ⟨.refl s, rfl, rfl, fun _ => rfl, by simp⟩
  | cons c l ih =>
    obtain ⟨hc, hl⟩ := List.nodup_cons.mp hl
    obtain ⟨hmsg, hchan, hrest, hrecords, huplink⟩ := evaluateChannel_spec s c
    obtain ⟨hmsg', hchan', hrest', hrecords', huplink'⟩ := ih hl (evaluateChannel s c)
    have hother {d : Fin 28} (hd : d ∈ l) : (evaluateChannel s c).prot.records[d] = s.prot.records[d] := by
      rw [hrecords, if_neg]
      intro h
      exact hc (List.mem_singleton.mp h ▸ hd)
    have hsame {d : Fin 28} (hd : d ∈ l) : recordEvaluated (evaluateChannel s c) d = recordEvaluated s d :=
      recordEvaluated_congr hchan hrest (hother hd)
    have hmoves {d : Fin 28} (hd : d ∈ l) : reductionMoves (evaluateChannel s c) d = reductionMoves s d := by
      rw [reductionMoves, reductionMoves, hsame hd, hother hd]
    rw [List.foldl_cons]
    refine ⟨hmsg.trans hmsg', hchan'.trans hchan, ?_, fun d => ?_, ?_⟩
    · rw [← hrest, ← hrest']
    · rw [hrecords']
      by_cases hd : d ∈ l
      · rw [if_pos hd, if_pos (List.mem_cons_of_mem _ hd), hsame hd]
      · rw [if_neg hd, hrecords]
        simp [hd]
    · rw [huplink', huplink]
      have hany : l.any (reductionMoves (evaluateChannel s c)) = l.any (reductionMoves s) := by
        rw [Bool.eq_iff_iff, List.any_eq_true, List.any_eq_true]
        exact exists_congr fun d => and_congr_right fun hd => by rw [hmoves hd]
      rw [hany]
      simp [List.any_cons, Bool.or_assoc]

/-- The part with the superframe count raised. -/
def counted (s : State) : State := s.setProt { s.prot with count := s.prot.count + 1 }

/-- Some reduction changes at the superframe evaluation. -/
def reductionsMove (s : State) : Bool := (List.finRange 28).any (reductionMoves (counted s))

/-- The superframe evaluation: the records, the marks, the peaks, and the event of a changed reduction. -/
structure SuperframeEvaluated (s t : State) : Prop where
  msg : NoticesOnly s t
  count : t.prot.count = s.prot.count + 1
  amps : ∀ a : Fin 4, t.prot.amps[a] = s.prot.amps[a].clearMarks
  records : ∀ c : Fin 28, t.prot.records[c] = recordEvaluated (counted s) c
  channels : ∀ c : Fin 28, t.chan.channels[c] = { s.chan.channels[c] with peak := 0 }
  uplink : t.uplink = { s.uplink with pathRaised := s.uplink.pathRaised || reductionsMove s }

theorem protectEvaluate_spec (s : State) : SuperframeEvaluated s (protectEvaluate s) := by
  obtain ⟨hmsg, hchan, hrest, hrecords, huplink⟩ := evaluateChannels_spec (List.nodup_finRange 28) (counted s)
  obtain ⟨u, hu⟩ : ∃ u, u = (List.finRange 28).foldl evaluateChannel (counted s) := ⟨_, rfl⟩
  have heq : protectEvaluate s = clearPeaks (u.setProt { u.prot with amps := u.prot.amps.map Amplifier.clearMarks }) := by
    unfold protectEvaluate
    dsimp only
    rw [← counted, ← hu]
  rw [← hu] at hmsg hchan hrest hrecords huplink
  rw [heq]
  refine ⟨NoticesOnly.trans (t := counted s) rfl hmsg, (congrArg ProtectUnit.count hrest :), fun a => ?_,
    fun c => (hrecords c).trans (if_pos (List.mem_finRange c)), fun c => ?_, huplink⟩
  · have hamps : u.prot.amps = s.prot.amps := (congrArg ProtectUnit.amps hrest :)
    show (u.prot.amps.map Amplifier.clearMarks)[a] = _
    rw [hamps]
    exact Vector.getElem_map _ _
  · show (u.chan.channels.map fun c => { c with peak := 0 })[c] = _
    rw [hchan]
    exact Vector.getElem_map _ _

/-! ## The evaluation in the words of R113 and R115 to R121 -/

/-- The marks of a channel's block (R119). -/
theorem flagged_iff (s : State) (c : Fin 28) : flagged s c = true ↔ ∃ a, s.chan.channels[c].record.amp = some a ∧
    s.prot.amps[a].status = true ∧ (s.prot.amps[a].overTempMark = true ∨
      s.prot.amps[a].clipMarks.getLsbD s.chan.channels[c].record.ampChannel.val = true) := by
  unfold flagged statusAmp
  cases hamp : s.chan.channels[c].record.amp with
  | none => exact ⟨nofun, fun ⟨a, h, _⟩ => nomatch h⟩
  | some a =>
    dsimp only
    cases hst : s.prot.amps[a].status with
    | false =>
      refine ⟨nofun, ?_⟩
      rintro ⟨b, ⟨⟩, h, -⟩
      rw [hst] at h
      cases h
    | true =>
      refine ⟨fun h => ⟨a, rfl, hst, Bool.or_eq_true_iff.mp h⟩, ?_⟩
      rintro ⟨b, ⟨⟩, -, h⟩
      exact Bool.or_eq_true_iff.mpr h

/-- Derating, as a value (R113). -/
def hotOf (s : State) (c : Fin 28) : Bool :=
  match s.chan.channels[c].record.amp with
  | some a => s.prot.amps[a].status &&
      decide ((s.prot.amps[a].limit : Int) - (classOf s c).derateBand ≤ s.prot.amps[a].temperature)
  | none => false

theorem derated_eq (s : State) (c : Fin 28) : derated s c = hotOf s c := by
  unfold derated hotOf statusAmp
  cases s.chan.channels[c].record.amp with
  | none => rfl
  | some a =>
    dsimp only
    cases s.prot.amps[a].status <;> rfl

/-- The trip that enters the history (R120). -/
theorem afterMoves_of_tripped {r : ProtectRecord} {t2 : Tier} (h : tripped r.tier2 t2 = true) (k : ProtectClass)
    (n : BitVec 32) (t1 : Tier) (fast : Bool × Nat) :
    (afterMoves k n r t1 t2 fast).trips = recordTrip r.trips n k.latchWindow ∧
      (afterMoves k n r t1 t2 fast).latched =
        (r.latched || (k.latchCount != 0 && decide (k.latchCount ≤ (recordTrip r.trips n k.latchWindow).length))) := by
  unfold afterMoves
  rw [h]
  exact ⟨rfl, rfl⟩

theorem reductionOf_eq (k : ProtectClass) (r : ProtectRecord) : reductionOf k r =
    if (r.tier2.state == .active || r.tier2.state == .recovery) || r.latched then .mute
    else .steps ((if r.tier1.state == .active || r.tier1.state == .recovery then k.t1Reduce else 0) +
      if r.fastHold then k.fastReduce else 0) := by
  rw [reductionOf, Tier.reduces_eq, Tier.reduces_eq]

theorem protectEvaluate_evaluated (w : State) : ProtectEvaluated w (protectEvaluate w) := by
  obtain ⟨-, hcount, hamps, hrecords, -, -⟩ := protectEvaluate_spec w
  refine ⟨hcount, hamps, fun c hc => ?_, fun c hc => ?_⟩
  · rw [hrecords, recordEvaluated, enabled]
    show (if w.chan.channels[c].record.zone.isSome then _ else w.prot.records[c]) = _
    rw [hc]
    rfl
  · have henabled : enabled (counted w) c = true := Option.isSome_iff_ne_none.mpr hc
    intro ch k r x hot eff marked trip holds begins
    have hrecord : recordEvaluated (counted w) c = channelEvaluated (counted w) c := if_pos henabled
    have hx : x = channelEvaluated (counted w) c := (hrecords c).trans hrecord
    have hhot : derated (counted w) c = hot := derated_eq _ c
    have heff (l : Nat) : eff l = effective l k.derateFactor (derated (counted w) c) := by
      rw [hhot]
      rfl
    have hmarked : flagged (counted w) c = true ↔ marked := flagged_iff _ c
    obtain ⟨tmarked, tunmarked⟩ : (marked → evaluatedFast (counted w) c = (true, k.fastHold)) ∧
        (¬marked → evaluatedFast (counted w) c = fastEvaluate false r.fastHold r.fastTimer k.fastHold) := by
      refine ⟨fun h => ?_, fun h => ?_⟩
      · rw [evaluatedFast, hmarked.mpr h]
        rfl
      · rw [evaluatedFast, Bool.eq_false_iff.mpr fun hf => h (hmarked.mp hf)]
        rfl
    have hfast : x.fastHold = (evaluatedFast (counted w) c).1 ∧ x.fastTimer = (evaluatedFast (counted w) c).2 := by
      rw [hx]
      exact ⟨rfl, rfl⟩
    obtain ⟨hhold, htimer⟩ := hfast
    have htwo : x.tier2 = evaluatedTier (counted w) c .two := congrArg ProtectRecord.tier2 hx
    have htrip : tripped r.tier2 (evaluatedTier (counted w) c .two) = true ↔ trip := by
      rw [tripped_iff, ← htwo]
    refine ⟨by rw [hx]; rfl, by rw [hx]; rfl, ?_, ?_, fun h => ?_, fun h h1 h2 => ?_, fun h h1 h2 => ?_, fun h h1 => ?_,
      fun h => ?_, fun h => ?_, ?_⟩
    · rw [heff, heff, hx]
      rfl
    · rw [heff, heff, hx]
      rfl
    · rw [hhold, htimer, tmarked h]
      exact ⟨rfl, rfl⟩
    · rw [hhold, htimer, tunmarked h, h1, fastEvaluate, if_neg (by decide), if_pos rfl, if_pos h2]
      exact ⟨rfl, rfl⟩
    · rw [hhold, htimer, tunmarked h, h1, fastEvaluate, if_neg (by decide), if_pos rfl, if_neg (not_le.mpr h2)]
      exact ⟨rfl, rfl⟩
    · rw [hhold, tunmarked h, h1]
      rfl
    · have hmoves := afterMoves_of_not_tripped (Bool.eq_false_iff.mpr fun ht => h (htrip.mp ht)) (classOf (counted w) c)
        (counted w).prot.count (evaluatedTier (counted w) c .one) (evaluatedFast (counted w) c)
      rw [hx]
      exact ⟨(congrArg ProtectRecord.trips hmoves :), (congrArg ProtectRecord.latched hmoves :)⟩
    · obtain ⟨htrips, hlatched⟩ := afterMoves_of_tripped (htrip.mpr h) (classOf (counted w) c)
        (counted w).prot.count (evaluatedTier (counted w) c .one) (evaluatedFast (counted w) c)
      have hxtrips : x.trips = recordTrip r.trips (w.prot.count + 1) k.latchWindow :=
        (congrArg ProtectRecord.trips hx).trans htrips
      have hxlatched : x.latched = (r.latched || (k.latchCount != 0 &&
          decide (k.latchCount ≤ (recordTrip r.trips (w.prot.count + 1) k.latchWindow).length))) :=
        (congrArg ProtectRecord.latched hx).trans hlatched
      refine ⟨hxtrips.trans (recordTrip_eq _ _ _), ?_⟩
      rw [hxtrips]
      exact hxlatched
    · rw [hx]
      exact reductionOf_eq _ _

end Sys2Proof.Machine


namespace Sys2Proof.Machine

/-! ## Presence, measurement and score at a block's end (R131, R133, R134) -/

/-- The record an evaluation leaves of an antenna; an unmapped one keeps its own. -/
def antennaEvaluated (s : State) (a : Fin 4) : Antenna :=
  if antennaMapped s.ring.slotMap a then s.ant.antennas[a].evaluate s.ant.penalty s.ant.powers[a] else s.ant.antennas[a]

/-- What the evaluation of some antennas leaves. -/
structure AntennasMeasured (l : List (Fin 4)) (s t : State) : Prop where
  msg : NoticesOnly s t
  ring : t.ring = s.ring
  rest : { t.ant with antennas := s.ant.antennas } = s.ant
  antennas : ∀ a : Fin 4, t.ant.antennas[a] = if a ∈ l then antennaEvaluated s a else s.ant.antennas[a]

theorem evaluateAntenna_spec (s : State) (a : Fin 4) : AntennasMeasured [a] s (evaluateAntenna s a) := by
  unfold evaluateAntenna
  cases hm : antennaMapped s.ring.slotMap a with
  | false =>
    rw [if_neg (by decide)]
    refine ⟨.refl s, rfl, rfl, fun b => ?_⟩
    split
    · next h => rw [List.mem_singleton.mp h, antennaEvaluated, hm]; rfl
    · rfl
  | true =>
    rw [if_pos rfl]
    dsimp only
    have hset (b : Fin 4) : (s.ant.antennas.set a (s.ant.antennas[a].evaluate s.ant.penalty s.ant.powers[a]))[b] =
        if b ∈ [a] then antennaEvaluated s b else s.ant.antennas[b] := by
      rw [vector_set_fin]
      by_cases h : b = a
      · subst h
        rw [if_pos rfl, if_pos (List.mem_singleton.mpr rfl), antennaEvaluated, hm, if_pos rfl]
      · rw [if_neg h, if_neg (by simpa using h)]
    split
    · exact ⟨rfl, rfl, rfl, hset⟩
    · exact ⟨rfl, rfl, rfl, hset⟩

theorem antennaEvaluated_congr {s t : State} {a : Fin 4} (hring : t.ring = s.ring)
    (hrest : { t.ant with antennas := s.ant.antennas } = s.ant) (h : t.ant.antennas[a] = s.ant.antennas[a]) :
    antennaEvaluated t a = antennaEvaluated s a := by
  have hpenalty : t.ant.penalty = s.ant.penalty := (congrArg AntennaUnit.penalty hrest :)
  have hpowers : t.ant.powers = s.ant.powers := (congrArg AntennaUnit.powers hrest :)
  unfold antennaEvaluated
  rw [hring, hpenalty, hpowers, h]

theorem evaluateAntennas_spec {l : List (Fin 4)} (hl : l.Nodup) (s : State) :
    AntennasMeasured l s (l.foldl evaluateAntenna s) := by
  induction l generalizing s with
  | nil => exact ⟨.refl s, rfl, rfl, fun _ => rfl⟩
  | cons a l ih =>
    obtain ⟨ha, hl⟩ := List.nodup_cons.mp hl
    obtain ⟨hmsg, hring, hrest, hantennas⟩ := evaluateAntenna_spec s a
    obtain ⟨hmsg', hring', hrest', hantennas'⟩ := ih hl (evaluateAntenna s a)
    have hother {b : Fin 4} (hb : b ∈ l) : (evaluateAntenna s a).ant.antennas[b] = s.ant.antennas[b] := by
      rw [hantennas, if_neg]
      intro h
      exact ha (List.mem_singleton.mp h ▸ hb)
    rw [List.foldl_cons]
    refine ⟨hmsg.trans hmsg', hring'.trans hring, by rw [← hrest, ← hrest'], fun b => ?_⟩
    rw [hantennas']
    by_cases hb : b ∈ l
    · rw [if_pos hb, if_pos (List.mem_cons_of_mem _ hb), antennaEvaluated_congr hring hrest (hother hb)]
    · rw [if_neg hb, hantennas]
      simp [hb]

/-- The antenna unit with every antenna measured. -/
def measured (s : State) : AntennaUnit := { s.ant with antennas := Vector.ofFn fun a => antennaEvaluated s a }

theorem antennaEvaluate_ant (s : State) : (antennaEvaluate s).ant = (measured s).holdCorrelations.select ∧
    NoticesOnly s (antennaEvaluate s) := by
  obtain ⟨hmsg, -, hrest, hantennas⟩ := evaluateAntennas_spec (List.nodup_finRange 4) s
  obtain ⟨t, ht⟩ : ∃ t, t = (List.finRange 4).foldl evaluateAntenna s := ⟨_, rfl⟩
  rw [← ht] at hmsg hrest hantennas
  have heq : antennaEvaluate s = t.setAnt t.ant.holdCorrelations.select := by
    unfold antennaEvaluate
    rw [← ht]
  have hant : t.ant = measured s := by
    have hall : t.ant.antennas = Vector.ofFn fun a => antennaEvaluated s a := by
      refine Vector.ext fun i hi => ?_
      refine (hantennas ⟨i, hi⟩).trans ?_
      rw [if_pos (List.mem_finRange _)]
      exact (Vector.getElem_ofFn hi).symm
    rw [measured, ← hall]
    exact (congrArg (fun u : AntennaUnit => { u with antennas := t.ant.antennas }) hrest :)
  rw [heq, hant]
  exact ⟨rfl, hmsg⟩

/-- The antenna unit is the same but for the choice among the antennas. -/
def AntennaUnit.Chosen (u v : AntennaUnit) : Prop :=
  { v with
    current := u.current, alert := u.alert, pair := u.pair, challenge := u.challenge, w1 := u.w1, w2 := u.w2
    phase := u.phase, fade := u.fade } = u

theorem AntennaUnit.Chosen.trans {u v w : AntennaUnit} (h : u.Chosen v) (h' : v.Chosen w) : u.Chosen w := by
  unfold AntennaUnit.Chosen at *
  rw [← h, ← h']

/-- The antenna unit is the same but for the antenna in use, its crossfade and the alert. -/
def AntennaUnit.Switched (u v : AntennaUnit) : Prop :=
  { v with current := u.current, alert := u.alert, fade := u.fade } = u

theorem AntennaUnit.Switched.chosen {u v : AntennaUnit} (h : u.Switched v) : u.Chosen v :=
  (congrArg (fun x : AntennaUnit => { x with
    pair := u.pair, challenge := u.challenge, w1 := u.w1, w2 := u.w2, phase := u.phase }) h :)

theorem switchTo_switched (u : AntennaUnit) (b : Fin 4) : u.Switched (u.switchTo b) := by
  unfold AntennaUnit.switchTo
  split <;> rfl

theorem AntennaUnit.Switched.trans {u v w : AntennaUnit} (h : u.Switched v) (h' : v.Switched w) : u.Switched w := by
  unfold AntennaUnit.Switched at *
  rw [← h, ← h']

theorem testSwitch_switched (u : AntennaUnit) : u.Switched u.testSwitch := by
  unfold AntennaUnit.testSwitch
  split
  · exact AntennaUnit.Switched.trans (v := { u with alert := none }) rfl (switchTo_switched _ _)
  · rfl

theorem switchedMove_switched (u : AntennaUnit) : u.Switched u.switchedMove := by
  have hleaves (b : Fin 4) : u.Switched (({ u with alert := none } : AntennaUnit).switchTo b) :=
    AntennaUnit.Switched.trans (v := { u with alert := none }) rfl (switchTo_switched _ b)
  unfold AntennaUnit.switchedMove
  dsimp only
  split
  · split
    · split <;> rfl
    · split
      · rfl
      · split
        · exact testSwitch_switched u
        · rfl
  · split
    · exact hleaves _
    · rfl

theorem pairedMove_chosen (u : AntennaUnit) : u.Chosen u.pairedMove := by
  unfold AntennaUnit.pairedMove
  dsimp only
  split <;> rfl

/-- The choice of antennas changes neither the measurements nor the mode. -/
theorem select_chosen (u : AntennaUnit) : u.Chosen u.select := by
  have halign (v : AntennaUnit) : v.Chosen v.align := by
    unfold AntennaUnit.align
    split <;> rfl
  unfold AntennaUnit.select
  split
  · exact (switchTo_switched u _).chosen
  · exact (switchedMove_switched u).chosen
  · exact (pairedMove_chosen u).trans (halign _)

/-- The code of R133, with its second digit as a bit. -/
theorem levelCode_nat (v : Nat) : levelCode v = if v = 0 then 0 else if v = 1 then 0
    else 2 * v.log2 + (if v.testBit (v.log2 - 1) then 1 else 0) := by
  have h := levelCode_eq v
  split_ifs at h ⊢ <;> exact_mod_cast h

theorem antennaEvaluate_evaluated (s : State) : AntennasEvaluated s (antennaEvaluate s) := by
  obtain ⟨hant, -⟩ := antennaEvaluate_ant s
  have hchosen := select_chosen (measured s).holdCorrelations
  rw [← hant] at hchosen
  have hantennas : (antennaEvaluate s).ant.antennas = Vector.ofFn fun a => antennaEvaluated s a :=
    (congrArg AntennaUnit.antennas hchosen :)
  refine ⟨(congrArg AntennaUnit.powers hchosen :), (congrArg AntennaUnit.corrSum hchosen :), fun a => ?_⟩
  intro old ps mapped quiet m d paths score
  have hnew : (antennaEvaluate s).ant.antennas[a] = antennaEvaluated s a := by
    rw [hantennas]
    exact Vector.getElem_ofFn _
  have hscore : scoreOf s.ant.penalty ps = score := by
    rw [scoreOf, levelOf, levelCode_nat]
    rfl
  have hquiet : ps.all (· == 0) = true ↔ quiet := by simp [quiet]
  have hmapped (h : mapped) : antennaEvaluated s a = old.evaluate s.ant.penalty ps := if_pos h
  rw [hnew]
  refine ⟨fun h => if_neg h, fun h hq hp => ?_, fun h hq hp => ?_, fun h hq hp => ?_, fun h hq hp => ?_⟩
  · rw [hmapped h, Antenna.evaluate, hquiet.mpr hq, hp]
  · rw [hmapped h, Antenna.evaluate, hquiet.mpr hq, hp]
    rfl
  · rw [hmapped h, Antenna.evaluate, Bool.eq_false_iff.mpr fun hall => hq (hquiet.mp hall), hp, ← hscore]
  · rw [hmapped h, Antenna.evaluate, Bool.eq_false_iff.mpr fun hall => hq (hquiet.mp hall), hp, ← hscore]

end Sys2Proof.Machine


namespace Sys2Proof.Machine

/-! ## The pair that PAIRED settles on (R143, R144) -/

/-- A pair formed out of some members: those that stay, and the best of the others. -/
structure PairFrom (u : AntennaUnit) (old l : List (Fin 4)) : Prop where
  nodup : l.Nodup
  present : ∀ a ∈ l, u.antennas[a].present = true
  kept : ∀ a ∈ old, a ∈ l
  joined : ∀ a ∈ l, a ∉ old → ∀ b, u.antennas[b].present = true → b ∉ l → Better u a b

/-- The PRESENT antennas. -/
def presentOf (u : AntennaUnit) : List (Fin 4) := (List.finRange 4).filter fun a => u.antennas[a].present

section
variable {u : AntennaUnit} {old l : List (Fin 4)}

theorem PairFrom.length_le (h : PairFrom u old l) : l.length ≤ (presentOf u).length :=
  (List.subperm_of_subset h.nodup fun a ha => mem_present.mpr (h.present a ha)).length_le

/-- The joining of one antenna: a pair with room takes the best PRESENT antenna it lacks. -/
theorem joinBest_spec (h : PairFrom u old l) : PairFrom u old (joinBest u l) ∧
    (joinBest u l).length = if l.length < 2 then min (l.length + 1) (presentOf u).length else l.length := by
  unfold joinBest
  by_cases hl : l.length < 2
  · rw [if_pos hl, if_pos hl]
    cases hb : bestOf u fun a => u.antennas[a].present && !l.contains a with
    | none =>
      have hall (a : Fin 4) (ha : u.antennas[a].present = true) : a ∈ l := by
        have hno := (bestOf_eq_none_iff u _).mp hb a
        rw [ha] at hno
        simpa using hno
      have hge : (presentOf u).length ≤ l.length :=
        (List.subperm_of_subset (present_nodup u) fun a ha => hall a (mem_present.mp ha)).length_le
      have hle := h.length_le
      exact ⟨h, by show l.length = _; omega⟩
    | some a =>
      obtain ⟨hp, hbest⟩ := (bestOf_eq_some_iff u _ a).mp hb
      obtain ⟨hpresent, hout⟩ : u.antennas[a].present = true ∧ a ∉ l := by simpa [-Fin.getElem_fin] using hp
      have hjoined : PairFrom u old (l ++ [a]) := by
        refine ⟨?_, fun b hb => ?_, fun b hb => List.mem_append_left _ (h.kept b hb), fun b hb hnew c hc hcout => ?_⟩
        · exact List.nodup_append.mpr ⟨h.nodup, List.nodup_singleton a, fun b hb c hc heq =>
            hout (List.mem_singleton.mp hc ▸ heq ▸ hb)⟩
        · rcases List.mem_append.mp hb with hb | hb
          · exact h.present b hb
          · rw [List.mem_singleton.mp hb]
            exact hpresent
        · obtain ⟨hcl, hca⟩ : c ∉ l ∧ c ≠ a := by simpa using hcout
          rcases List.mem_append.mp hb with hb | hb
          · exact h.joined b hb hnew c hc hcl
          · rw [List.mem_singleton.mp hb]
            exact (hbest c (by simpa [-Fin.getElem_fin, hc] using hcl)).resolve_left hca
      have hle := hjoined.length_le
      rw [List.length_append, List.length_singleton] at hle
      exact ⟨hjoined, by show (l ++ [a]).length = _; rw [List.length_append, List.length_singleton]; omega⟩
  · rw [if_neg hl, if_neg hl]
    exact ⟨h, rfl⟩

/-- A list of two at most, put in order. -/
theorem ordered_spec (hn : l.Nodup) (hl : l.length ≤ 2) : (ordered u l).Nodup ∧ (ordered u l).length = l.length ∧
    (∀ a, a ∈ ordered u l ↔ a ∈ l) ∧ ∀ a b, ordered u l = [a, b] → Better u a b := by
  match l with
  | [] => exact ⟨hn, rfl, fun _ => Iff.rfl, nofun⟩
  | [a] => exact ⟨hn, rfl, fun _ => Iff.rfl, nofun⟩
  | [a, x] =>
    have hne : x ≠ a := by
      rintro rfl
      simp at hn
    obtain ⟨m, n, ho, hmem, hbetter⟩ := ordered_pair u hne
    rw [ho]
    refine ⟨?_, rfl, fun c => ?_, fun b c hbc => ?_⟩
    · rcases hmem with ⟨rfl, rfl⟩ | ⟨rfl, rfl⟩
      · exact hn
      · simpa using hne
    · rcases hmem with ⟨rfl, rfl⟩ | ⟨rfl, rfl⟩
      · exact Iff.rfl
      · simp [or_comm]
    · cases hbc
      exact hbetter
  | a :: b :: c :: l => simp at hl

end

/-- The pair an evaluation settles on: the members still PRESENT, the best of the others, the first member first. -/
theorem settledPair_spec {u : AntennaUnit} (hn : u.pair.Nodup) (hl : u.pair.length ≤ 2) :
    PairFrom u (u.pair.filter fun a => u.antennas[a].present) (settledPair u) ∧
      (settledPair u).length = min 2 (presentOf u).length ∧ ∀ a b, settledPair u = [a, b] → Better u a b := by
  have hstart : PairFrom u (u.pair.filter fun a => u.antennas[a].present) (u.pair.filter fun a => u.antennas[a].present) :=
    ⟨hn.filter _, fun a ha => (List.mem_filter.mp ha).2, fun _ h => h, fun a ha hno => absurd ha hno⟩
  have hshort : (u.pair.filter fun a => u.antennas[a].present).length ≤ 2 := (List.length_filter_le _ _).trans hl
  have hle := hstart.length_le
  obtain ⟨hfirst, hlen1⟩ := joinBest_spec hstart
  obtain ⟨hsecond, hlen2⟩ := joinBest_spec hfirst
  have hlength : (joinBest u (joinBest u (u.pair.filter fun a => u.antennas[a].present))).length =
      min 2 (presentOf u).length := by
    rw [hlen2, hlen1]
    split_ifs <;> omega
  obtain ⟨hnodup, hsame, hmem, hbetter⟩ := ordered_spec (u := u) hsecond.nodup (by omega)
  refine ⟨⟨hnodup, fun a ha => hsecond.present a ((hmem a).mp ha), fun a ha => (hmem a).mpr (hsecond.kept a ha),
    fun a ha hno b hb hbout => hsecond.joined a ((hmem a).mp ha) hno b hb fun h => hbout ((hmem b).mpr h)⟩,
    hsame.trans hlength, hbetter⟩

/-- The counts of an evaluation against the pair it settles on. -/
def settledCounts (u : AntennaUnit) : Vector Nat 4 := Vector.ofFn fun x => challengeCount u (settledPair u) x

theorem settledCounts_get (u : AntennaUnit) (y : Fin 4) : (settledCounts u)[y] = challengeCount u (settledPair u) y :=
  Vector.getElem_ofFn _

/-- A challenger that is to take the weaker member's place. -/
def RipeFor (u : AntennaUnit) (y : Fin 4) : Prop :=
  (settledPair u).length = 2 ∧ u.antennas[y].present = true ∧ y ∉ settledPair u ∧
    u.record.pairDwell ≤ challengeCount u (settledPair u) y

theorem ripe_iff {u : AntennaUnit} (h : (settledPair u).length = 2) (y : Fin 4) :
    (u.antennas[y].present && !(settledPair u).contains y && decide (u.record.pairDwell ≤ (settledCounts u)[y])) = true ↔
      RipeFor u y := by
  rw [Bool.and_eq_true, Bool.and_eq_true, decide_eq_true_eq, settledCounts_get, and_assoc, RipeFor]
  simp [-Fin.getElem_fin, h]

theorem pairedMove_stays {u : AntennaUnit} (h : ∀ y, ¬RipeFor u y) :
    u.pairedMove = { u with pair := settledPair u, challenge := settledCounts u } := by
  have hnone (hl : (settledPair u).length = 2) : replacement u (settledPair u) (settledCounts u) = none :=
    (bestOf_eq_none_iff u _).mpr fun y => Bool.eq_false_iff.mpr fun hy => h y ((ripe_iff hl y).mp hy)
  unfold AntennaUnit.pairedMove
  dsimp only
  rw [← settledCounts]
  split
  · next hp hx =>
    rw [hnone (by rw [hp]; rfl)] at hx
    cases hx
  · rfl

theorem pairedMove_changes {u : AntennaUnit} {a z y : Fin 4} (hp : settledPair u = [a, z]) (hy : RipeFor u y)
    (hbest : ∀ d, RipeFor u d → d = y ∨ Better u y d) :
    u.pairedMove = { u with pair := ordered u [a, y], challenge := ((settledCounts u).set y 0).set z 0 } := by
  have hl : (settledPair u).length = 2 := by rw [hp]; rfl
  have hsome : replacement u (settledPair u) (settledCounts u) = some y :=
    (bestOf_eq_some_iff u _ y).mpr ⟨(ripe_iff hl y).mpr hy, fun d hd => hbest d ((ripe_iff hl d).mp hd)⟩
  unfold AntennaUnit.pairedMove
  dsimp only
  rw [← settledCounts, hsome]
  split
  · next a' z' y' hp' hx =>
    obtain ⟨rfl, rfl⟩ : a' = a ∧ z' = z := by simpa using hp'.symm.trans hp
    cases hx
    rfl
  · next hno => exact absurd rfl (hno a z y hp)

theorem align_one {u : AntennaUnit} {a : Fin 4} (h : u.pair = [a]) : u.align.w1 = 256 ∧ u.align.w2 = 0 := by
  unfold AntennaUnit.align
  rw [h]
  exact ⟨rfl, rfl⟩

theorem align_empty {u : AntennaUnit} (h : u.pair = []) : u.align = u := by
  unfold AntennaUnit.align
  rw [h]

/-! ## The antenna in use in FIXED and SWITCHED (R139 to R141) -/

/-- The antenna unit takes an antenna: it becomes current, under a crossfade unless it was (R139 to R141). -/
def Takes (u x : AntennaUnit) (b : Fin 4) : Prop :=
  x.current = b ∧ x.fade = if b = u.current then u.fade else some ⟨.antenna u.current, b, 0⟩

theorem takes_switchTo (u : AntennaUnit) (b : Fin 4) : Takes u (u.switchTo b) b := by
  unfold AntennaUnit.switchTo Takes
  by_cases h : b = u.current
  · rw [if_pos h, if_pos h]
    exact ⟨h.symm, rfl⟩
  · rw [if_neg h, if_neg h]
    exact ⟨rfl, rfl⟩

theorem takes_current (u x : AntennaUnit) (hc : x.current = u.current) (hf : x.fade = u.fade) : Takes u x u.current :=
  ⟨hc, hf.trans (if_pos rfl).symm⟩

/-- A switch leaves the pair, its counts and its weights. -/
theorem AntennaUnit.Switched.pair {u v : AntennaUnit} (h : u.Switched v) : v.pair = u.pair ∧ v.challenge = u.challenge ∧
    v.w1 = u.w1 ∧ v.w2 = u.w2 ∧ v.phase = u.phase :=
  ⟨(congrArg AntennaUnit.pair h :), (congrArg AntennaUnit.challenge h :), (congrArg AntennaUnit.w1 h :),
    (congrArg AntennaUnit.w2 h :), (congrArg AntennaUnit.phase h :)⟩

theorem switchTo_alert (u : AntennaUnit) (b : Fin 4) : (u.switchTo b).alert = u.alert := by
  unfold AntennaUnit.switchTo
  split <;> rfl

section
variable {u : AntennaUnit}

/-- R140 with no alert. -/
theorem switchedMove_calm (hp : u.antennas[u.current].present = true) (ha : u.alert = none) : u.switchedMove =
    { u with alert := if u.antennas[u.current].score < u.record.switchLevel then some u.record.dwell else none } := by
  unfold AntennaUnit.switchedMove
  dsimp only
  rw [if_pos hp, ha]
  dsimp only
  split
  · rfl
  · rw [← ha]

/-- R140 in an alert. -/
theorem switchedMove_alert (hp : u.antennas[u.current].present = true) {n : Nat} (ha : u.alert = some n) :
    u.switchedMove =
      if u.record.switchLevel + u.record.hysteresis ≤ u.antennas[u.current].score then { u with alert := none }
      else if n ≤ 1 then u.testSwitch else { u with alert := some (n - 1) } := by
  unfold AntennaUnit.switchedMove
  dsimp only
  rw [if_pos hp, ha]

/-- R141: the current antenna is ABSENT. -/
theorem switchedMove_absent (hp : u.antennas[u.current].present = false) : u.switchedMove =
    ({ u with alert := none } : AntennaUnit).switchTo ((bestPresent u).getD u.current) := by
  unfold AntennaUnit.switchedMove
  dsimp only
  rw [if_neg (by rw [hp]; decide)]
  cases bestPresent u with
  | none => exact (if_pos rfl).symm
  | some b => rfl

end

theorem bestPresent_some {u : AntennaUnit} {b : Fin 4} (hb : u.antennas[b].present = true)
    (hbest : ∀ d : Fin 4, u.antennas[d].present = true → d = b ∨ Better u b d) : bestPresent u = some b :=
  (bestOf_eq_some_iff u _ b).mpr ⟨hb, hbest⟩

theorem bestPresent_none {u : AntennaUnit} (h : ∀ b : Fin 4, u.antennas[b].present = false) : bestPresent u = none :=
  (bestOf_eq_none_iff u _).mpr h

/-! ## The selection at a block's end, mode by mode (R136, R139 to R141, R143, R144) -/

/-- The pair, its counts, its weights and its direction stand. -/
def PairStands (u x : AntennaUnit) : Prop :=
  x.pair = u.pair ∧ x.challenge = u.challenge ∧ x.w1 = u.w1 ∧ x.w2 = u.w2 ∧ x.phase = u.phase

section
variable {u : AntennaUnit}

theorem select_fixed {a : Fin 4} (hm : u.mode = .fixed a) : u.select = u.switchTo (fixedChoice u a) := by
  unfold AntennaUnit.select
  rw [hm]

theorem select_switched (hm : u.mode = .switched) : u.select = u.switchedMove := by
  unfold AntennaUnit.select
  rw [hm]

theorem select_paired (hm : u.mode = .paired) : u.select = u.pairedMove.align := by
  unfold AntennaUnit.select
  rw [hm]

/-- FIXED (R139). -/
theorem select_fixed_spec {a : Fin 4} (hm : u.mode = .fixed a) : u.select.alert = u.alert ∧ PairStands u u.select ∧
    (u.antennas[a].present = true → Takes u u.select a) ∧
    (u.antennas[a].present = false → u.antennas[u.current].present = true → Takes u u.select u.current) ∧
    (u.antennas[a].present = false → u.antennas[u.current].present = false → ∀ b : Fin 4,
      (u.antennas[b].present = true ∧ ∀ d : Fin 4, u.antennas[d].present = true → d = b ∨ Better u b d) →
      Takes u u.select b) ∧
    ((∀ b : Fin 4, u.antennas[b].present = false) → Takes u u.select u.current) := by
  rw [select_fixed hm]
  have htakes {b : Fin 4} (hb : fixedChoice u a = b) : Takes u (u.switchTo (fixedChoice u a)) b := by
    rw [hb]
    exact takes_switchTo u b
  refine ⟨switchTo_alert u _, (switchTo_switched u _).pair, fun ha => htakes (if_pos ha), fun ha hc => htakes ?_,
    fun ha hc b hb => htakes ?_, fun hno => htakes ?_⟩
  · rw [fixedChoice, if_neg (by rw [ha]; decide), if_pos hc]
  · rw [fixedChoice, if_neg (by rw [ha]; decide), if_neg (by rw [hc]; decide), bestPresent_some hb.1 hb.2]
    rfl
  · rw [fixedChoice, if_neg (by rw [hno a]; decide), if_neg (by rw [hno u.current]; decide), bestPresent_none hno]
    rfl

/-- SWITCHED with the current antenna PRESENT (R140). -/
theorem select_switched_present (hm : u.mode = .switched) (hp : u.antennas[u.current].present = true) :
    (u.alert = none → Takes u u.select u.current ∧ u.select.alert =
      if u.antennas[u.current].score < u.record.switchLevel then some u.record.dwell else none) ∧
    ∀ n, u.alert = some n →
      (u.record.switchLevel + u.record.hysteresis ≤ u.antennas[u.current].score →
        Takes u u.select u.current ∧ u.select.alert = none) ∧
      (u.antennas[u.current].score < u.record.switchLevel + u.record.hysteresis → 1 < n →
        Takes u u.select u.current ∧ u.select.alert = some (n - 1)) ∧
      (u.antennas[u.current].score < u.record.switchLevel + u.record.hysteresis → n ≤ 1 →
        (∀ b, (Rival u b ∧ ∀ d, Rival u d → d = b ∨ Better u b d) → Takes u u.select b ∧ u.select.alert = none) ∧
        ((∀ b, ¬Rival u b) → Takes u u.select u.current ∧ u.select.alert = some u.record.dwell)) := by
  rw [select_switched hm]
  refine ⟨fun ha => ?_, fun n ha => ⟨fun hq => ?_, fun hq hn => ?_, fun hq hn => ⟨fun b hb => ?_, fun hno => ?_⟩⟩⟩
  · rw [switchedMove_calm hp ha]
    exact ⟨takes_current _ _ rfl rfl, rfl⟩
  · rw [switchedMove_alert hp ha, if_pos hq]
    exact ⟨takes_current _ _ rfl rfl, rfl⟩
  · rw [switchedMove_alert hp ha, if_neg (not_le.mpr hq), if_neg (not_le.mpr hn)]
    exact ⟨takes_current _ _ rfl rfl, rfl⟩
  · obtain ⟨hrival, hbest⟩ := hb
    have hne : b ≠ u.current := hrival.2.1
    rw [switchedMove_alert hp ha, if_neg (not_le.mpr hq), if_pos hn,
      testSwitch_switches (switchTarget_eq_some hrival hbest) hne]
    exact ⟨⟨rfl, (if_neg hne).symm⟩, rfl⟩
  · rw [switchedMove_alert hp ha, if_neg (not_le.mpr hq), if_pos hn, testSwitch_waits (switchTarget_eq_none hno)]
    exact ⟨takes_current _ _ rfl rfl, rfl⟩

/-- SWITCHED with the current antenna ABSENT (R141). -/
theorem select_switched_absent (hm : u.mode = .switched) (hp : u.antennas[u.current].present = false) :
    u.select.alert = none ∧
    (∀ b : Fin 4, (u.antennas[b].present = true ∧ ∀ d : Fin 4, u.antennas[d].present = true → d = b ∨ Better u b d) →
      Takes u u.select b) ∧
    ((∀ b : Fin 4, u.antennas[b].present = false) → Takes u u.select u.current) := by
  rw [select_switched hm, switchedMove_absent hp]
  refine ⟨switchTo_alert _ _, fun b hb => ?_, fun hno => ?_⟩
  · rw [bestPresent_some hb.1 hb.2]
    exact takes_switchTo { u with alert := none } b
  · rw [bestPresent_none hno]
    exact takes_switchTo { u with alert := none } u.current

/-- The challenge changes the pair and its counts alone. -/
theorem pairedMove_weights (u : AntennaUnit) : { u.pairedMove with pair := u.pair, challenge := u.challenge } = u := by
  unfold AntennaUnit.pairedMove
  dsimp only
  split <;> rfl

/-- PAIRED: the pair, its counts, its weights (R143, R144). -/
theorem select_paired_spec (hm : u.mode = .paired) :
    ((∀ y, ¬RipeFor u y) → u.select.pair = settledPair u ∧
      ∀ y : Fin 4, u.select.challenge[y] = challengeCount u (settledPair u) y) ∧
    (∀ a z y, settledPair u = [a, z] → RipeFor u y → (∀ d, RipeFor u d → d = y ∨ Better u y d) →
      ((u.select.pair = [a, y] ∧ Better u a y) ∨ (u.select.pair = [y, a] ∧ Better u y a)) ∧
      ∀ d : Fin 4, u.select.challenge[d] = if d = y ∨ d = z then 0 else challengeCount u (settledPair u) d) ∧
    (∀ a b, u.select.pair = [a, b] → u.select.w1 = firstWeight u.antennas[a].score u.antennas[b].score ∧
      u.select.w2 = 256 - u.select.w1 ∧ u.select.phase = nearestDirection (correlationOf u.select a b)) ∧
    (∀ a, u.select.pair = [a] → u.select.w1 = 256 ∧ u.select.w2 = 0) ∧
    (u.select.pair = [] → u.select.w1 = u.w1 ∧ u.select.w2 = u.w2 ∧ u.select.phase = u.phase) := by
  rw [select_paired hm]
  have halign := align_rest u.pairedMove
  have hpair : u.pairedMove.align.pair = u.pairedMove.pair := (congrArg AntennaUnit.pair halign :)
  have hchallenge : u.pairedMove.align.challenge = u.pairedMove.challenge := (congrArg AntennaUnit.challenge halign :)
  have hchosen := pairedMove_chosen u
  have hscores : u.pairedMove.antennas = u.antennas := (congrArg AntennaUnit.antennas hchosen :)
  have hheld : u.pairedMove.align.corrHeld = u.pairedMove.corrHeld := (congrArg AntennaUnit.corrHeld halign :)
  refine ⟨fun hno => ?_, fun a z y hp hy hbest => ?_, fun a b hab => ?_, fun a ha => ?_, fun h => ?_⟩
  · rw [hpair, hchallenge, pairedMove_stays hno]
    exact ⟨rfl, settledCounts_get u⟩
  · rw [hpair, hchallenge, pairedMove_changes hp hy hbest]
    have hya : y ≠ a := by
      rintro rfl
      exact hy.2.2.1 (by rw [hp]; simp)
    obtain ⟨m, n, ho, hmem, hbetter⟩ := ordered_pair u hya
    refine ⟨?_, fun d => ?_⟩
    · rcases hmem with ⟨rfl, rfl⟩ | ⟨rfl, rfl⟩
      · exact .inl ⟨ho, hbetter⟩
      · exact .inr ⟨ho, hbetter⟩
    · dsimp only
      rw [vector_set_fin, vector_set_fin, settledCounts_get]
      by_cases hdz : d = z
      · rw [if_pos hdz, if_pos (.inr hdz)]
      · by_cases hdy : d = y
        · rw [if_neg hdz, if_pos hdy, if_pos (.inl hdy)]
        · rw [if_neg hdz, if_neg hdy, if_neg (by simp [hdz, hdy])]
  · obtain ⟨h1, h2, hphase⟩ := align_two (hpair.symm.trans hab)
    rw [hscores] at h1
    refine ⟨h1, h2, hphase.trans (congrArg nearestDirection ?_)⟩
    unfold correlationOf
    rw [hheld]
  · exact align_one (hpair.symm.trans ha)
  · rw [align_empty (hpair.symm.trans h)]
    have hweights := pairedMove_weights u
    exact ⟨(congrArg AntennaUnit.w1 hweights :), (congrArg AntennaUnit.w2 hweights :),
      (congrArg AntennaUnit.phase hweights :)⟩

end

theorem antennaEvaluate_selected (s : State) : SelectionEvaluated s (antennaEvaluate s) := by
  obtain ⟨hant, -⟩ := antennaEvaluate_ant s
  have hchosen := select_chosen (measured s).holdCorrelations
  rw [← hant] at hchosen
  unfold SelectionEvaluated
  intro u x k there score better best takes pairKept rival
  have hx : x = (measured s).holdCorrelations.select := hant
  have hantennas : x.antennas = (measured s).holdCorrelations.antennas := (congrArg AntennaUnit.antennas hchosen :)
  have hthere (a : Fin 4) : there a = (measured s).holdCorrelations.antennas[a].present :=
    congrArg (fun v : Vector Antenna 4 => v[a].present) hantennas
  have hscore (a : Fin 4) : score a = (measured s).holdCorrelations.antennas[a].score :=
    congrArg (fun v : Vector Antenna 4 => v[a].score) hantennas
  generalize hh : (measured s).holdCorrelations = h at *
  have hbetter (a b : Fin 4) : better a b ↔ Better h a b := by
    show (score b < score a ∨ _) ↔ _
    rw [hscore, hscore]
    rfl
  have hbase : { h with
      antennas := u.antennas, corrHeld := u.corrHeld, corrSum := u.corrSum, powers := u.powers } = u := by
    rw [← hh]
    rfl
  have hmode : h.mode = u.mode := (congrArg AntennaUnit.mode hbase :)
  have hrecord : h.record = u.record := (congrArg AntennaUnit.record hbase :)
  have hcurrent : h.current = u.current := (congrArg AntennaUnit.current hbase :)
  have hfade : h.fade = u.fade := (congrArg AntennaUnit.fade hbase :)
  have halert : h.alert = u.alert := (congrArg AntennaUnit.alert hbase :)
  have hpairs : PairStands u h := ⟨(congrArg AntennaUnit.pair hbase :), (congrArg AntennaUnit.challenge hbase :),
    (congrArg AntennaUnit.w1 hbase :), (congrArg AntennaUnit.w2 hbase :), (congrArg AntennaUnit.phase hbase :)⟩
  have htakes {b : Fin 4} (ht : Takes h h.select b) : takes b := by
    show x.current = b ∧ x.fade = if b = u.current then u.fade else some ⟨.antenna u.current, b, 0⟩
    rw [hx, ← hcurrent, ← hfade]
    exact ht
  have hkept (hp : PairStands h h.select) : pairKept := by
    obtain ⟨h1, h2, h3, h4, h5⟩ := hpairs
    obtain ⟨k1, k2, k3, k4, k5⟩ := hp
    rw [← hx] at k1 k2 k3 k4 k5
    exact ⟨k1.trans h1, k2.trans h2, k3.trans h3, k4.trans h4, k5.trans h5⟩
  have hbest {b : Fin 4} (hb : best (fun d => there d = true) b) :
      h.antennas[b].present = true ∧ ∀ d : Fin 4, h.antennas[d].present = true → d = b ∨ Better h b d := by
    obtain ⟨hp, hall⟩ := hb
    exact ⟨(hthere b).symm.trans hp, fun d hd => (hall d ((hthere d).trans hd)).imp id (hbetter b d).mp⟩
  have hno (hb : ∀ b, there b = false) (b : Fin 4) : h.antennas[b].present = false := (hthere b).symm.trans (hb b)
  refine ⟨?_, ?_, ?_, ?_, fun p => ?_, fun a hm => ?_, fun hm => ⟨?_, fun hc => ?_, fun hc => ?_⟩, fun hm hn hl => ?_⟩
  · exact (congrArg AntennaUnit.mode hchosen :).trans hmode
  · exact (congrArg AntennaUnit.pendingMode hchosen :).trans (congrArg AntennaUnit.pendingMode hbase :)
  · exact (congrArg AntennaUnit.record hchosen :).trans hrecord
  · exact (congrArg AntennaUnit.penalty hchosen :).trans (congrArg AntennaUnit.penalty hbase :)
  · have hheld : x.corrHeld = h.corrHeld := (congrArg AntennaUnit.corrHeld hchosen :)
    rw [hheld, hthere, hthere, ← hh]
    refine (Vector.getElem_ofFn _).trans ?_
    simp only [Bool.and_eq_true]
    rfl
  · obtain ⟨h1, h2, h3, h4, h5, h6⟩ := select_fixed_spec (hmode.trans hm)
    refine ⟨(hx ▸ h1).trans halert, hkept h2, fun ha => htakes (h3 ((hthere a).symm.trans ha)), fun ha hc => ?_,
      fun ha hc b hb => ?_, fun hb => ?_⟩
    · rw [← hcurrent] at hc ⊢
      exact htakes (h4 ((hthere a).symm.trans ha) ((hthere _).symm.trans hc))
    · rw [← hcurrent] at hc
      exact htakes (h5 ((hthere a).symm.trans ha) ((hthere _).symm.trans hc) b (hbest hb))
    · rw [← hcurrent]
      exact htakes (h6 (hno hb))
  · rw [select_switched (hmode.trans hm)] at *
    exact hkept (switchedMove_switched h).pair
  · rw [← hcurrent] at hc
    obtain ⟨h1, h2⟩ := select_switched_present (hmode.trans hm) ((hthere _).symm.trans hc)
    have hq : h.antennas[h.current].score = score u.current := by rw [← hcurrent, hscore]
    have hrival (b : Fin 4) : rival b ↔ Rival h b := by
      show (there b = true ∧ b ≠ u.current ∧ score u.current + u.record.margin ≤ score b) ↔ _
      rw [hthere, hscore b, ← hq, ← hcurrent, ← hrecord]
      rfl
    rw [hq, hrecord] at h1
    rw [hq, hrecord] at h2
    refine ⟨fun ha => ?_, fun n ha => ?_⟩
    · obtain ⟨ht, hnext⟩ := h1 (halert.trans ha)
      rw [hcurrent] at ht
      exact ⟨htakes ht, hx ▸ hnext⟩
    · obtain ⟨hends, hcounts, htests⟩ := h2 n (halert.trans ha)
      rw [hcurrent] at hends hcounts htests
      refine ⟨fun hl => ?_, fun hl hn => ?_, fun hl hn => ⟨fun b hb => ?_, fun hnone => ?_⟩⟩
      · obtain ⟨ht, hnext⟩ := hends hl
        exact ⟨htakes ht, hx ▸ hnext⟩
      · obtain ⟨ht, hnext⟩ := hcounts hl hn
        exact ⟨htakes ht, hx ▸ hnext⟩
      · obtain ⟨ht, hnext⟩ := (htests hl hn).1 b ⟨(hrival b).mp hb.1, fun d hd =>
          (hb.2 d ((hrival d).mpr hd)).imp id (hbetter b d).mp⟩
        exact ⟨htakes ht, hx ▸ hnext⟩
      · obtain ⟨ht, hnext⟩ := (htests hl hn).2 fun b hb => hnone b ((hrival b).mpr hb)
        exact ⟨htakes ht, hx ▸ hnext⟩
  · rw [← hcurrent] at hc
    obtain ⟨h1, h2, h3⟩ := select_switched_absent (hmode.trans hm) ((hthere _).symm.trans hc)
    rw [← hcurrent]
    exact ⟨hx ▸ h1, fun b hb => htakes (h2 b (hbest hb)), fun hb => htakes (h3 (hno hb))⟩
  · have hpaired := hmode.trans hm
    obtain ⟨hpair, hchallenge, h1, h2, hphase⟩ := hpairs
    obtain ⟨hfrom, hlength, horder⟩ := settledPair_spec (hpair ▸ hn) (hpair ▸ hl)
    obtain ⟨hstays, hchanges, htwo, hone, hempty⟩ := select_paired_spec hpaired
    have hweights := align_rest h.pairedMove
    have hmoved := pairedMove_weights h
    rw [← select_paired hpaired, ← hx] at hweights
    rw [← hx] at hstays hchanges htwo hone hempty
    have hxcurrent : x.current = h.current :=
      (congrArg AntennaUnit.current hweights :).trans (congrArg AntennaUnit.current hmoved :)
    have hxfade : x.fade = h.fade := (congrArg AntennaUnit.fade hweights :).trans (congrArg AntennaUnit.fade hmoved :)
    have hxalert : x.alert = h.alert := (congrArg AntennaUnit.alert hweights :).trans (congrArg AntennaUnit.alert hmoved :)
    refine ⟨?_, hxalert.trans halert, ⟨settledPair h, hfrom.nodup, ?_, fun a ha => ?_, fun a ha hp => ?_,
      fun a ha hnew b hb hout => ?_, fun a b hab => (hbetter a b).mpr (horder a b hab), ?_⟩, fun a b hab => ?_, hone,
      fun he => ?_⟩
    · rw [← hcurrent]
      exact htakes (takes_current _ _ (hx ▸ hxcurrent) (hx ▸ hxfade))
    · rw [hlength, presentOf, show there = fun a => h.antennas[a].present from funext hthere]
    · exact (hthere a).trans (hfrom.present a ha)
    · refine hfrom.kept a (List.mem_filter.mpr ⟨hpair ▸ ha, ?_⟩)
      exact (hthere a).symm.trans hp
    · refine (hbetter a b).mpr (hfrom.joined a ha (fun hold => hnew ?_) b ((hthere b).symm.trans hb) hout)
      exact hpair ▸ (List.mem_filter.mp hold).1
    · intro count ripe
      have hcount (y : Fin 4) : count y = challengeCount h (settledPair h) y := by
        have hy : h.challenge[y] = u.challenge[y] := congrArg (fun v : Vector Nat 4 => v[y]) hchallenge
        show (match settledPair h with
          | [_, z] => if there y = true ∧ y ∉ settledPair h ∧ score z + u.record.pairMargin ≤ score y
              then min 65535 (u.challenge[y] + 1) else 0
          | _ => 0) = _
        unfold challengeCount
        match settledPair h with
        | [a, z] =>
          dsimp only
          rw [hthere, hscore, hscore, ← hrecord, ← hy]
          rfl
        | [] | [a] | a :: b :: c :: l => rfl
      have hripe (y : Fin 4) : ripe y ↔ RipeFor h y := by
        show ((settledPair h).length = 2 ∧ there y = true ∧ y ∉ settledPair h ∧ u.record.pairDwell ≤ count y) ↔ _
        rw [hcount, hthere, ← hrecord]
        rfl
      refine ⟨fun hnone => ?_, fun a z y hp hb => ?_⟩
      · obtain ⟨k1, k2⟩ := hstays fun y hy => hnone y ((hripe y).mpr hy)
        exact ⟨k1, fun y => (k2 y).trans (hcount y).symm⟩
      · obtain ⟨k1, k2⟩ := hchanges a z y hp ((hripe y).mp hb.1) fun d hd =>
          (hb.2 d ((hripe d).mpr hd)).imp id (hbetter y d).mp
        refine ⟨k1.imp (fun hk => ⟨hk.1, (hbetter a y).mpr hk.2⟩) fun hk => ⟨hk.1, (hbetter y a).mpr hk.2⟩, fun d => ?_⟩
        rw [k2, hcount]
    · obtain ⟨k1, k2, k3⟩ := htwo a b hab
      rw [← hscore, ← hscore] at k1
      exact ⟨k1, k2, k3⟩
    · obtain ⟨k1, k2, k3⟩ := hempty he
      exact ⟨k1.trans h1, k2.trans h2, k3.trans hphase⟩

end Sys2Proof.Machine


namespace Sys2Proof.Machine

/-! ## The radio evaluation (R151 to R156) -/

/-- No antenna is handed over (R147, R155). -/
theorem handOver_absent_iff (u : AntennaUnit) :
    (handOver u == .absent) = true ↔ anyPresent u = false ∨ (u.mode = .paired ∧ u.pair = []) := by
  unfold handOver
  cases anyPresent u with
  | false => simp
  | true =>
    cases u.mode with
    | fixed a => simp
    | switched => simp
    | paired =>
      match u.pair with
      | [] => simp
      | [a] => simp
      | a :: b :: l => simp

/-- The radio unit before the settle is looked at: the tune count, the settle in force, the pilot, the hand-over. -/
def radioTaken (s : State) : RadioUnit :=
  (({ s.radio with blocksSinceTune := incSat s.radio.blocksSinceTune, settle := s.ant.record.tuneSettle, multiplex := [] } :
    RadioUnit).pilotMove (Config.pilotAtThreshold s.draws s.radio.multiplex)).takeHandOver (handOver s.ant)

theorem moveRadio_radio (u : RadioUnit) (s : State) : (moveRadio u s).radio = u := by
  unfold moveRadio
  dsimp only
  split <;> rfl

theorem moveRadio_msg (u : RadioUnit) (s : State) : NoticesOnly s (moveRadio u s) := by
  unfold moveRadio
  dsimp only
  split <;> rfl

theorem pilotMove_rest (u : RadioUnit) (above : Bool) :
    { u.pilotMove above with pilot := u.pilot, pilotRun := u.pilotRun } = u := by
  unfold RadioUnit.pilotMove
  split
  · rfl
  · split <;> rfl

theorem radioTaken_rest (s : State) : { radioTaken s with pilot := s.radio.pilot, pilotRun := s.radio.pilotRun } =
    { s.radio with
      blocksSinceTune := incSat s.radio.blocksSinceTune, settle := s.ant.record.tuneSettle, multiplex := []
      noAntenna := handOver s.ant == .absent } := by
  have h := pilotMove_rest ({ s.radio with
    blocksSinceTune := incSat s.radio.blocksSinceTune, settle := s.ant.record.tuneSettle, multiplex := [] } : RadioUnit)
    (Config.pilotAtThreshold s.draws s.radio.multiplex)
  exact (congrArg (fun u : RadioUnit => { u with noAntenna := handOver s.ant == HandOver.absent }) h :)

/-- Steps 3 to 6: nothing more during the settle, else the blend and the reception. -/
theorem radioEvaluate_radio (s : State) : (radioEvaluate s).radio =
    if incSat s.radio.blocksSinceTune < s.ant.record.tuneSettle then radioTaken s
    else ((radioTaken s).blendMove (qualityOf s.ant)).receptionMove s.ant.record (qualityOf s.ant) := by
  have heq : radioEvaluate s = evaluateReception (handOver s.ant) (s.drawn.setRadio (radioTaken s)) := rfl
  have hcount : (radioTaken s).blocksSinceTune = incSat s.radio.blocksSinceTune :=
    (congrArg RadioUnit.blocksSinceTune (radioTaken_rest s) :)
  have hsettling : settling (s.drawn.setRadio (radioTaken s)) =
      decide (incSat s.radio.blocksSinceTune < s.ant.record.tuneSettle) :=
    congrArg (fun n => decide (n < s.ant.record.tuneSettle)) hcount
  rw [heq, evaluateReception, blendQuality_handOver, hsettling]
  by_cases h : incSat s.radio.blocksSinceTune < s.ant.record.tuneSettle
  · rw [if_pos h, if_pos (decide_eq_true h)]
    rfl
  · rw [if_neg h, if_neg (by simpa using h), moveRadio_radio]
    rfl

theorem radioEvaluate_msg (s : State) : NoticesOnly s (radioEvaluate s) := by
  have heq : radioEvaluate s = evaluateReception (handOver s.ant) (s.drawn.setRadio (radioTaken s)) := rfl
  have htaken : NoticesOnly s (s.drawn.setRadio (radioTaken s)) := rfl
  rw [heq, evaluateReception]
  split
  · exact htaken
  · exact htaken.trans (moveRadio_msg _ _)

/-- The reception at an evaluation changes the reception and its counts alone. -/
theorem receptionMove_rest (u : RadioUnit) (k : RadioRecord) (q : Nat) :
    { u.receptionMove k q with
      reception := u.reception, poorCount := u.poorCount, recoverCount := u.recoverCount } = u := by
  by_cases h : u.reception = .poor
  · rw [receptionMove_of_poor h]
    split_ifs <;> rfl
  · rw [receptionMove_of_not_poor h]
    split_ifs <;> rfl

theorem pilotMove_agrees {u : RadioUnit} {above : Bool} (h : above = u.pilot) :
    (u.pilotMove above).pilot = u.pilot ∧ (u.pilotMove above).pilotRun = 0 := by
  rw [RadioUnit.pilotMove, if_pos h]
  exact ⟨rfl, rfl⟩

theorem pilotMove_counts {u : RadioUnit} {above : Bool} (h : above ≠ u.pilot) (hrun : u.pilotRun < 3) :
    (u.pilotMove above).pilot = u.pilot ∧ (u.pilotMove above).pilotRun = u.pilotRun + 1 := by
  rw [RadioUnit.pilotMove, if_neg h, if_neg (by omega)]
  exact ⟨rfl, rfl⟩

theorem pilotMove_flips {u : RadioUnit} {above : Bool} (h : above ≠ u.pilot) (hrun : 3 ≤ u.pilotRun) :
    (u.pilotMove above).pilot = above ∧ (u.pilotMove above).pilotRun = 0 := by
  rw [RadioUnit.pilotMove, if_neg h, if_pos (by omega)]
  exact ⟨rfl, rfl⟩

theorem pilotMove_congr {u v : RadioUnit} (hp : v.pilot = u.pilot) (hr : v.pilotRun = u.pilotRun) (above : Bool) :
    (v.pilotMove above).pilot = (u.pilotMove above).pilot ∧
      (v.pilotMove above).pilotRun = (u.pilotMove above).pilotRun := by
  unfold RadioUnit.pilotMove
  rw [hp, hr]
  split_ifs <;> exact ⟨rfl, rfl⟩

/-- The evaluation of the radio, on what the antennas' evaluation has left. -/
theorem radioEvaluate_evaluated {s v : State} (hradio : v.radio = (radioEvaluate s).radio) (hant : v.ant = s.ant) :
    RadioEvaluated s v := by
  rw [radioEvaluate_radio] at hradio
  unfold RadioEvaluated
  intro move u x k above n q b low up
  have hq : qualityOf s.ant = q := congrArg qualityOf hant.symm
  rw [hq] at hradio
  obtain ⟨y, hy⟩ : ∃ y, y = radioTaken s := ⟨_, rfl⟩
  have htaken := radioTaken_rest s
  rw [← hy] at hradio htaken
  have hblend : (y.blendMove q).reception = u.reception ∧ (y.blendMove q).poorCount = u.poorCount ∧
      (y.blendMove q).recoverCount = u.recoverCount :=
    ⟨(congrArg RadioUnit.reception htaken :), (congrArg RadioUnit.poorCount htaken :),
      (congrArg RadioUnit.recoverCount htaken :)⟩
  have hmove := receptionMove_rest (y.blendMove q) k q
  have hentry : blendEntry y q = b := congrArg (fun v : Vector BlendEntry 32 => v[finWrap 31 (q / 4)])
    (congrArg RadioUnit.blend htaken :)
  have hkept : x.pilot = y.pilot ∧ x.pilotRun = y.pilotRun ∧ x.blocksSinceTune = y.blocksSinceTune ∧
      x.settle = y.settle ∧ x.multiplex = y.multiplex ∧ x.noAntenna = y.noAntenna := by
    show v.radio.pilot = _ ∧ v.radio.pilotRun = _ ∧ v.radio.blocksSinceTune = _ ∧ v.radio.settle = _ ∧
      v.radio.multiplex = _ ∧ v.radio.noAntenna = _
    rw [hradio]
    split
    · exact ⟨rfl, rfl, rfl, rfl, rfl, rfl⟩
    · exact ⟨(congrArg RadioUnit.pilot hmove :), (congrArg RadioUnit.pilotRun hmove :),
        (congrArg RadioUnit.blocksSinceTune hmove :), (congrArg RadioUnit.settle hmove :),
        (congrArg RadioUnit.multiplex hmove :), (congrArg RadioUnit.noAntenna hmove :)⟩
  obtain ⟨hpilot, hrun, hblocks, hsettle, hmultiplex, hnone⟩ := hkept
  have hypilot : y.pilot = (u.pilotMove above).pilot ∧ y.pilotRun = (u.pilotMove above).pilotRun := by
    rw [hy]
    exact pilotMove_congr (u := u) (v := { u with
      blocksSinceTune := incSat u.blocksSinceTune, settle := k.tuneSettle, multiplex := [] }) rfl rfl above
  refine ⟨hblocks.trans (congrArg RadioUnit.blocksSinceTune htaken :), hsettle.trans (congrArg RadioUnit.settle htaken :),
    hmultiplex.trans (congrArg RadioUnit.multiplex htaken :), ?_, fun h => ?_, fun h h3 => ?_, fun h h3 => ?_, fun h => ?_,
    fun h => ⟨?_, ?_, ?_, fun hr hl => ?_, fun hr hl => ?_, fun hr hl => ?_, fun hr hl => ?_⟩⟩
  · rw [hnone, hant, ← handOver_absent_iff, (congrArg RadioUnit.noAntenna htaken :)]
  · rw [hpilot, hrun, hypilot.1, hypilot.2]
    exact pilotMove_agrees h
  · rw [hpilot, hrun, hypilot.1, hypilot.2]
    exact pilotMove_counts h h3
  · rw [hpilot, hrun, hypilot.1, hypilot.2]
    exact pilotMove_flips h h3
  · have hx : x = y := hradio.trans (if_pos h)
    rw [hx]
    exact ⟨(congrArg RadioUnit.separation htaken :), (congrArg RadioUnit.highCut htaken :),
      (congrArg RadioUnit.softMute htaken :), (congrArg RadioUnit.reception htaken :),
      (congrArg RadioUnit.poorCount htaken :), (congrArg RadioUnit.recoverCount htaken :)⟩
  all_goals
    have hx : x = (y.blendMove q).receptionMove k q := hradio.trans (if_neg (not_lt.mpr h))
    obtain ⟨hreception, hpoor, hrecover⟩ := hblend
  · rw [hpilot, hx, (congrArg RadioUnit.separation hmove :)]
    show toward y.separation (if y.pilot then (blendEntry y q).separation else 0) = _
    rw [(congrArg RadioUnit.separation htaken :), hentry]
    rfl
  · rw [hx, (congrArg RadioUnit.highCut hmove :)]
    show toward y.highCut (blendEntry y q).highCut = _
    rw [(congrArg RadioUnit.highCut htaken :), hentry]
    rfl
  · rw [hx, (congrArg RadioUnit.softMute hmove :)]
    show (blendEntry y q).softMute = _
    rw [hentry]
  · rw [hx, receptionMove_of_not_poor (by rw [hreception]; exact hr), hpoor, if_pos (by exact hl)]
    exact ⟨rfl, rfl, rfl⟩
  · rw [hx, receptionMove_of_not_poor (by rw [hreception]; exact hr), hpoor, if_neg (by exact not_le.mpr hl)]
    exact ⟨rfl, rfl⟩
  · rw [hx, receptionMove_of_poor (hreception.trans hr), hrecover, if_pos (by exact hl)]
    exact ⟨rfl, rfl, rfl⟩
  · rw [hx, receptionMove_of_poor (hreception.trans hr), hrecover, if_neg (by exact not_le.mpr hl)]
    exact ⟨hreception.trans hr, rfl⟩

end Sys2Proof.Machine


namespace Sys2Proof.Machine

/-! ## The talk state at a block's end (R185) -/

section
variable (old : TalkState) (near far a b : Nat)

theorem nextTalk_double : nextTalk old .double near far a b = .double := by cases old <;> rfl

theorem nextTalk_nearOnly : nextTalk old .nearOnly near far a b = .nearOnly := by cases old <;> rfl

theorem nextTalk_farOnly : nextTalk old .farOnly near far a b =
    if (old = .nearOnly ∨ old = .double) ∧ near < a then .double else .farOnly := by
  cases old <;> simp [nextTalk]

theorem nextTalk_quiet : nextTalk old .quiet near far a b = if old = .farOnly ∧ far < b then .farOnly else .quiet := by
  cases old <;> simp [nextTalk]

end

theorem talkMove_evaluated {s v : State} (htalk : v.uplink.talk = s.uplink.talkMove.talk)
    (hnear : v.uplink.nearQuiet = s.uplink.talkMove.nearQuiet) (hfar : v.uplink.farQuiet = s.uplink.talkMove.farQuiet) :
    TalkEvaluated s v := by
  unfold TalkEvaluated
  intro u x far cabin
  have hn : x.nearQuiet = if cabin then 0 else incSat u.nearQuiet := by
    refine hnear.trans ?_
    by_cases hc : cabin <;> simp [UplinkUnit.talkMove, hc, cabin, u]
  have hq : x.farQuiet = if far then 0 else incSat u.farQuiet := by
    refine hfar.trans ?_
    by_cases hf : far <;> simp [UplinkUnit.talkMove, hf, far, u]
  have hx : x.talk = nextTalk u.talk (rawTalk (decide far) (decide cabin)) x.nearQuiet x.farQuiet u.record.nearRelax
      u.record.farRelax := by
    rw [show x.nearQuiet = _ from hnear, show x.farQuiet = _ from hfar]
    exact htalk
  refine ⟨fun hc => hn.trans (if_pos hc), fun hc => hn.trans (if_neg hc), fun hf => hq.trans (if_pos hf),
    fun hf => hq.trans (if_neg hf), fun hc hf => ?_, fun hc hf => ?_, fun hc hf => ?_, fun hc hf => ?_⟩
  · rw [hx, decide_eq_true hf, decide_eq_true hc]
    exact nextTalk_double _ _ _ _ _
  · rw [hx, decide_eq_false hf, decide_eq_true hc]
    exact nextTalk_nearOnly _ _ _ _ _
  · rw [hx, decide_eq_true hf, decide_eq_false hc]
    exact nextTalk_farOnly _ _ _ _ _
  · rw [hx, decide_eq_false hf, decide_eq_false hc]
    exact nextTalk_quiet _ _ _ _ _

/-! ## The echo state at a block's end (R186) -/

/-- The echo state's evaluation moves the echo state, its counts and the filters alone. -/
theorem echoMove_rest (s : State) : { (echoMove s).uplink with
    echo := s.uplink.echo, converge := s.uplink.converge, diverge := s.uplink.diverge
    filters := s.uplink.filters } = s.uplink := by
  by_cases ht : s.uplink.talk = .farOnly
  · cases he : s.uplink.echo with
    | off =>
      rw [echoMove, ht, he]
      dsimp only
      rw [← he]
    | converging =>
      rw [echoMove_converging ht he, commitUpdate_eq]
      by_cases h : s.uplink.record.convergeBlocks ≤ convergeNext s.uplink
      · rw [convergingMove_converged (by exact he) (by exact h), ← he]
        rfl
      · rw [convergingMove_waits (by exact not_le.mp h), ← he]
        rfl
    | converged =>
      by_cases h : s.uplink.record.divergeBlocks ≤ divergeNext s.uplink
      · rw [echoMove_diverged ht he h, convergedMove_diverged he h, ← he]
        rfl
      · rw [echoMove_undiverged ht he (not_le.mp h), commitUpdate_eq, ← he]
        rfl
  · rw [echoMove_idle ht]

theorem echoMove_off {s : State} (he : s.uplink.echo = .off) : echoMove s = s := by
  rw [echoMove, he]
  cases s.uplink.talk <;> rfl

theorem echoMove_msg (s : State) : NoticesOnly s (echoMove s) := by
  by_cases ht : s.uplink.talk = .farOnly
  · cases he : s.uplink.echo with
    | off => rw [echoMove_off he]; rfl
    | converging =>
      rw [echoMove_converging ht he, commitUpdate_eq]
      by_cases h : s.uplink.record.convergeBlocks ≤ convergeNext s.uplink
      · rw [convergingMove_converged (by exact he) (by exact h)]
        rfl
      · rw [convergingMove_waits (by exact not_le.mp h)]
        rfl
    | converged =>
      by_cases h : s.uplink.record.divergeBlocks ≤ divergeNext s.uplink
      · rw [echoMove_diverged ht he h, convergedMove_diverged he h]
        rfl
      · rw [echoMove_undiverged ht he (not_le.mp h), commitUpdate_eq]
        rfl
  · rw [echoMove_idle ht]
    rfl

/-- The state the echo evaluation starts from: the talk state decided. -/
def talked (s : State) : State := s.setUplink s.uplink.talkMove

theorem uplinkEvaluate_uplink (s : State) : (uplinkEvaluate s).uplink = (echoMove (talked s)).uplink.nextBlock := rfl

/-- What an evaluation of the uplink unit leaves but for the echo state, its counts and the filters. -/
theorem uplinkEvaluate_rest (s : State) : { (uplinkEvaluate s).uplink with
    echo := s.uplink.echo, converge := s.uplink.converge, diverge := s.uplink.diverge
    filters := s.uplink.filters } = s.uplink.talkMove.nextBlock :=
  (congrArg UplinkUnit.nextBlock (echoMove_rest (talked s)) :)

theorem updatedFilters_get (u : UplinkUnit) (i : Fin 10) : (updatedFilters u)[i] =
    ((Config.echoUpdate (u.filters.map spanned) (u.references.map spanned) u.residuals)[i]).take 6144 :=
  Vector.getElem_map _ _

theorem uplinkEvaluate_evaluated {s v : State} (hv : v.uplink = (uplinkEvaluate s).uplink) : EchoEvaluated s v := by
  have hrest := uplinkEvaluate_rest s
  unfold EchoEvaluated
  intro code u x k erle' up off adapted
  have hx : x = (echoMove (talked s)).uplink.nextBlock := hv.trans (uplinkEvaluate_uplink s)
  have htalk : x.talk = (talked s).uplink.talk :=
    (congrArg UplinkUnit.talk hv).trans (congrArg UplinkUnit.talk hrest :)
  have herle : erle (talked s).uplink = erle' := by
    show (levelCode u.peakN : Int) - levelCode u.peakR = (code u.peakN : Int) - code u.peakR
    rw [levelCode_nat, levelCode_nat]
  have hup : convergeNext (talked s).uplink = up := by
    unfold convergeNext
    rw [herle]
    rfl
  have hoff : divergeNext (talked s).uplink = off := by
    unfold divergeNext
    rw [herle]
    rfl
  have hadapted (hf : x.filters = if s.call.state = .active then updatedFilters u else u.filters) : adapted := by
    refine ⟨fun ha i => ?_, fun ha => hf.trans (if_neg ha)⟩
    rw [hf, if_pos ha]
    exact updatedFilters_get u i
  have hupdated : (if (talked s).call.state = .active then updatedFilters (talked s).uplink
      else (talked s).uplink.filters) =
      if s.call.state = .active then updatedFilters u else u.filters := rfl
  refine ⟨fun h => ?_, fun he ht => ?_, fun he ht => ?_⟩
  · have hidle : echoMove (talked s) = talked s :=
      h.elim (fun he => echoMove_off he) fun ht => echoMove_idle fun hf => ht (htalk.trans hf)
    rw [hx, hidle]
    exact ⟨rfl, rfl, rfl, rfl⟩
  · have hmove := echoMove_converging (s := talked s) (htalk.symm.trans ht) he
    rw [commitUpdate_eq, hupdated] at hmove
    by_cases h : k.convergeBlocks ≤ up
    · rw [convergingMove_converged (by exact he) (by rw [← hup] at h; exact h)] at hmove
      rw [hmove] at hx
      exact ⟨(congrArg UplinkUnit.converge hx).trans hup, hadapted (congrArg UplinkUnit.filters hx),
        fun hl => absurd h (not_le.mpr hl),
        fun _ => ⟨(congrArg UplinkUnit.echo hx :), (congrArg UplinkUnit.diverge hx :)⟩⟩
    · rw [convergingMove_waits (by rw [← hup] at h; exact not_le.mp h)] at hmove
      rw [hmove] at hx
      exact ⟨(congrArg UplinkUnit.converge hx).trans hup, hadapted (congrArg UplinkUnit.filters hx),
        fun _ => ⟨(congrArg UplinkUnit.echo hx :).trans he, (congrArg UplinkUnit.diverge hx :)⟩, fun hl => absurd hl h⟩
  · by_cases h : k.divergeBlocks ≤ off
    · have hdue : (talked s).uplink.record.divergeBlocks ≤ divergeNext (talked s).uplink := by rw [hoff]; exact h
      rw [echoMove_diverged (htalk.symm.trans ht) he hdue, convergedMove_diverged (s := talked s) he hdue] at hx
      refine ⟨(congrArg UplinkUnit.diverge hx).trans hoff, fun hl => absurd h (not_le.mpr hl),
        fun _ => ⟨(congrArg UplinkUnit.echo hx :), (congrArg UplinkUnit.converge hx :), fun i c hc => ?_⟩⟩
      have hzero : x.filters = zeroFilters := congrArg UplinkUnit.filters hx
      rw [hzero] at hc
      simp [zeroFilters] at hc
    · have hlow : divergeNext (talked s).uplink < (talked s).uplink.record.divergeBlocks := by
        rw [hoff]
        exact not_le.mp h
      rw [echoMove_undiverged (htalk.symm.trans ht) he hlow, commitUpdate_eq] at hx
      exact ⟨(congrArg UplinkUnit.diverge hx).trans hoff, fun _ => ⟨(congrArg UplinkUnit.echo hx :).trans he,
        (congrArg UplinkUnit.converge hx :), hadapted (congrArg UplinkUnit.filters hx)⟩, fun hl => absurd hl h⟩

end Sys2Proof.Machine


namespace Sys2Proof.Machine

/-! ## The end of a frame's crossfades, on what it reads -/

section
variable {s t : State}

theorem endFade_chan_congr (h : t.chan = s.chan) (u : Fin 4) : (endFade u t).chan = (endFade u s).chan := by
  cases hf : s.chan.fades[u] with
  | none =>
    have hft : t.chan.fades[u] = none := by rw [h, hf]
    rw [endFade, hft, endFade, hf]
    exact h
  | some f =>
    have hft : t.chan.fades[u] = some f := by rw [h, hf]
    rw [endFade_eq hft, endFade_eq hf]
    show (fadeEnded u f t).chan = (fadeEnded u f s).chan
    simp [fadeEnded, setChannel, h]

theorem fadeOver_congr (h : t.chan = s.chan) (u : Fin 4) : fadeOver t u = fadeOver s u := by
  unfold fadeOver
  rw [h]

theorem endFades_chan_congr (h : t.chan = s.chan) : (endFades t).chan = (endFades s).chan := by
  have hfold (l : List (Fin 4)) (a b : State) (hab : b.chan = a.chan) :
      (l.foldl (fun t u => if fadeOver t u then endFade u t else t) b).chan =
        (l.foldl (fun t u => if fadeOver t u then endFade u t else t) a).chan := by
    induction l generalizing a b with
    | nil => exact hab
    | cons u l ih =>
      refine ih _ _ ?_
      dsimp only
      rw [fadeOver_congr hab]
      split
      · exact endFade_chan_congr hab u
      · exact hab
  exact hfold _ s t h

theorem serveUnit_chan_congr (h : t.chan = s.chan) (u : Fin 4) : (serveUnit u t).chan = (serveUnit u s).chan := by
  by_cases hbusy : s.chan.fades[u].isNone = false ∨ s.chan.queue = []
  · rw [serveUnit_busy hbusy, serveUnit_busy (by rw [h]; exact hbusy)]
    exact h
  · obtain ⟨hfree, hqueue⟩ := not_or.mp hbusy
    obtain ⟨c, rest, hq⟩ := List.exists_cons_of_ne_nil hqueue
    rw [serveUnit_free (Bool.not_eq_false _ ▸ hfree) hq,
      serveUnit_free (by rw [h]; exact Bool.not_eq_false _ ▸ hfree) (by rw [h]; exact hq), h]
    rfl

theorem banksServed_congr (hchan : t.chan = s.chan) (huplink : t.uplink = s.uplink) :
    (banksServed t).chan = (banksServed s).chan ∧ (banksServed t).uplink = (banksServed s).uplink := by
  refine ⟨?_, ?_⟩
  · unfold banksServed serveQueue
    exact serveUnit_chan_congr (serveUnit_chan_congr (serveUnit_chan_congr (serveUnit_chan_congr
      (endFades_chan_congr hchan) 0) 1) 2) 3
  · have hover : fadeOver t = fadeOver s := funext (fadeOver_congr hchan)
    rw [(banksServed_spec t).uplink, (banksServed_spec s).uplink, huplink, hover]

theorem beamsEnded_congr (huplink : t.uplink = s.uplink) (hgain : t.gain = s.gain) (hcall : t.call = s.call) :
    (beamsEnded t).uplink = (beamsEnded s).uplink := by
  have hover : beamFadeOver t = beamFadeOver s := by
    simp only [beamFadeOver, huplink, hgain]
  unfold beamsEnded
  rw [hover]
  split
  · simp only [endBeamFade, startBeamFade, raisePath, State.setUplink_uplink, State.setUplink_call, huplink, hcall]
    split <;> rfl
  · exact huplink

/-- The crossfades' end reads the channel, gain, call and uplink units. -/
theorem endCrossfades_congr (hchan : t.chan = s.chan) (huplink : t.uplink = s.uplink) (hgain : t.gain = s.gain)
    (hcall : t.call = s.call) :
    (endCrossfades t).chan = (endCrossfades s).chan ∧ (endCrossfades t).uplink = (endCrossfades s).uplink := by
  have hunits (z : State) : (endCrossfades z).chan = (banksServed z).chan ∧
      (endCrossfades z).uplink = (beamsEnded (banksServed z)).uplink := by
    have heq : endCrossfades z =
        if switchFadeOver (beamsEnded (banksServed z)) then endSwitchFade postNotice (beamsEnded (banksServed z))
        else beamsEnded (banksServed z) := rfl
    have hbeams : (beamsEnded (banksServed z)).chan = (banksServed z).chan := by
      unfold beamsEnded
      split <;> simp
    rw [heq]
    split
    · exact ⟨by simp [hbeams], by simp⟩
    · exact ⟨hbeams, rfl⟩
  obtain ⟨hbanks, hraised⟩ := banksServed_congr hchan huplink
  have hserved (z : State) : (banksServed z).gain = z.gain ∧ (banksServed z).call = z.call := by simp [banksServed]
  rw [(hunits t).1, (hunits t).2, (hunits s).1, (hunits s).2]
  exact ⟨hbanks, beamsEnded_congr hraised (by rw [(hserved t).1, (hserved s).1, hgain])
    (by rw [(hserved t).2, (hserved s).2, hcall])⟩

end

/-! ## The same frame under another index -/

section
variable (f : Frame) (s : State) (i : Fin 64)

theorem frameBuses_index : frameBuses { f with index := i } s = frameBuses f s := by
  have hmixed : mixed { f with index := i } s = mixed f s := rfl
  unfold frameBuses
  rw [hmixed]
  rfl

theorem uplinkHeard_index : uplinkHeard { f with index := i } s = uplinkHeard f s := by
  unfold uplinkHeard
  rw [frameBuses_index]
  generalize gainStep s = g
  generalize frameBuses f s = b
  rfl

theorem antennaFrame_index : (antennaFrame { f with index := i } s).ant = (antennaFrame f s).ant := rfl

/-- The frame's work does not read the frame's index. -/
theorem worked_index (hresets : ∀ m ∈ s.msg.queue, m.resets = false) :
    (worked { f with index := i } s).gain = (worked f s).gain ∧
      (worked { f with index := i } s).chan = (worked f s).chan ∧
      (worked { f with index := i } s).prot = (worked f s).prot ∧
      (worked { f with index := i } s).ant = (worked f s).ant ∧
      (worked { f with index := i } s).radio = (worked f s).radio ∧
      (worked { f with index := i } s).uplink = (worked f s).uplink := by
  obtain ⟨g, hg⟩ : ∃ g : Frame, g = { f with index := i } := ⟨_, rfl⟩
  rw [← hg]
  obtain ⟨-, -, hgain, -, -, -, -, hprot, hradio, hant, -⟩ := worked_spec (f := f) hresets
  obtain ⟨-, -, igain, -, -, -, -, iprot, iradio, iant, -⟩ := worked_spec (f := g) hresets
  have hbuses : frameBuses g s = frameBuses f s := hg ▸ frameBuses_index f s i
  have hchan : (sounded g s).chan = (sounded f s).chan := by rw [sounded_chan, sounded_chan, hbuses]
  have huplink : (sounded g s).uplink = (sounded f s).uplink := by
    rw [sounded_uplink, sounded_uplink, uplinkMoved, uplinkMoved, hg, uplinkHeard_index]
  obtain ⟨wchan, wuplink⟩ := endCrossfades_congr hchan huplink ((sounded_gain g s).trans (sounded_gain f s).symm)
    ((sounded_call g s).trans (sounded_call f s).symm)
  have hantenna : (antennaFrame g s).ant = (antennaFrame f s).ant := hg ▸ antennaFrame_index f s i
  refine ⟨igain.trans hgain.symm, wchan, ?_, ?_, ?_, wuplink⟩
  · rw [iprot, hprot, hg]
    rfl
  · rw [iant, hant, ← sounded_switch, ← sounded_switch, switchFadeOver, switchFadeOver, sounded_ant, sounded_ant, hantenna]
  · rw [iradio, hradio, hg]
    rfl

end

end Sys2Proof.Machine


namespace Sys2Proof.Machine

/-! ## The evaluation of the uplink unit with a path-change event at it (R186, R188) -/

/-- The echo evaluation goes by the uplink unit, a raised event aside, and by whether the call is ACTIVE. -/
theorem EchoEvaluated.congr {s w v t : State} (h : EchoEvaluated s v)
    (hu : { s.uplink with pathRaised := w.uplink.pathRaised } = w.uplink)
    (hc : s.call.state = .active ↔ w.call.state = .active) (hv : t.uplink = v.uplink) : EchoEvaluated w t := by
  have hs : EchoEvaluated (s.setUplink { s.uplink with pathRaised := w.uplink.pathRaised }) v := h
  unfold EchoEvaluated at hs ⊢
  rw [State.setUplink_uplink, State.setUplink_call, hu] at hs
  rw [hv]
  simpa only [ne_eq, hc] using hs

/-- R188: a path-change event at the evaluation takes effect before it or after it. -/
def EventAtEvaluation (w t : State) : Prop :=
  EchoEvaluated (pathEffect w) t ∨ ∃ v, EchoEvaluated w v ∧ v.uplink.talk = t.uplink.talk ∧
    t.uplink.echo = (pathEffect v).uplink.echo ∧ t.uplink.converge = (pathEffect v).uplink.converge ∧
    t.uplink.diverge = v.uplink.diverge ∧ t.uplink.filters = v.uplink.filters

theorem EventAtEvaluation.congr {w t u : State} (h : EventAtEvaluation w t) (hu : u.uplink = t.uplink) :
    EventAtEvaluation w u := by
  unfold EventAtEvaluation
  rw [hu]
  exact h.imp (fun he => he.congr rfl Iff.rfl hu) id

theorem pathEffect_call (s : State) : (pathEffect s).call = s.call := by
  unfold pathEffect
  split <;> rfl

theorem uplinkEvaluate_raised (s : State) : (uplinkEvaluate s).uplink.pathRaised = s.uplink.pathRaised :=
  (congrArg UplinkUnit.pathRaised (uplinkEvaluate_rest s) :)

theorem uplinkEvaluate_msg (s : State) : NoticesOnly s (uplinkEvaluate s) :=
  NoticesOnly.trans (t := talked s) rfl (echoMove_msg (talked s))

theorem evaluateWithPath_calm {z : State} (h : z.uplink.pathRaised = false) :
    evaluateWithPath z = uplinkEvaluate z := by
  rw [evaluateWithPath, h]
  rfl

theorem evaluateWithPath_raised {z : State} (h : z.uplink.pathRaised = true) :
    evaluateWithPath z = takePath (uplinkEvaluate z.drawn) ∨ evaluateWithPath z = uplinkEvaluate (takePath z.drawn) := by
  rw [evaluateWithPath, h, if_pos rfl]
  dsimp only
  split
  · exact .inl rfl
  · exact .inr rfl

/-- The uplink unit once an event that stands has taken effect. -/
theorem takePath_uplink_raised {z : State} (h : z.uplink.pathRaised = true) :
    (takePath z).uplink = { z.uplink.disturbed with pathRaised := false } := by
  rw [takePath_uplink, if_pos h]

theorem evaluateWithPath_msg (z : State) : NoticesOnly z (evaluateWithPath z) := by
  cases h : z.uplink.pathRaised with
  | false =>
    rw [evaluateWithPath_calm h]
    exact uplinkEvaluate_msg z
  | true =>
    have hdrawn : NoticesOnly z z.drawn := rfl
    rcases evaluateWithPath_raised h with he | he
    · rw [he]
      exact (hdrawn.trans (uplinkEvaluate_msg _)).trans (takePath_notices _)
    · rw [he]
      exact (hdrawn.trans (takePath_notices _)).trans (uplinkEvaluate_msg _)

/-- What the evaluation leaves whatever the events: the talk state, its counts, and the next block. -/
theorem evaluateWithPath_rest (z : State) : { (evaluateWithPath z).uplink with
    echo := z.uplink.echo, converge := z.uplink.converge, diverge := z.uplink.diverge
    filters := z.uplink.filters, pathRaised := z.uplink.pathRaised } = z.uplink.talkMove.nextBlock := by
  cases h : z.uplink.pathRaised with
  | false =>
    rw [evaluateWithPath_calm h, ← h]
    exact (congrArg (fun u : UplinkUnit => { u with pathRaised := z.uplink.pathRaised }) (uplinkEvaluate_rest z) :)
  | true =>
    rw [← h]
    rcases evaluateWithPath_raised h with he | he
    · rw [he, takePath_uplink_raised ((uplinkEvaluate_raised z.drawn).trans h)]
      exact (congrArg (fun u : UplinkUnit => { u with pathRaised := z.uplink.pathRaised })
        (uplinkEvaluate_rest z.drawn) :)
    · rw [he]
      have hrest := uplinkEvaluate_rest (takePath z.drawn)
      rw [takePath_uplink_raised (z := z.drawn) h] at hrest
      exact (congrArg (fun u : UplinkUnit => { u with
        echo := z.uplink.echo, converge := z.uplink.converge, pathRaised := z.uplink.pathRaised }) hrest :)

section
variable {w z : State} (hu : { z.uplink with pathRaised := w.uplink.pathRaised } = w.uplink)
  (hc : z.call.state = .active ↔ w.call.state = .active)
include hu hc

theorem evaluateWithPath_evaluated (h : z.uplink.pathRaised = false) : EchoEvaluated w (evaluateWithPath z) := by
  rw [evaluateWithPath_calm h]
  exact (uplinkEvaluate_evaluated (s := z) rfl).congr hu hc rfl

theorem evaluateWithPath_event (h : z.uplink.pathRaised = true) : EventAtEvaluation w (evaluateWithPath z) := by
  rcases evaluateWithPath_raised h with he | he
  · have hraised : (uplinkEvaluate z.drawn).uplink.pathRaised = true := (uplinkEvaluate_raised z.drawn).trans h
    rw [he]
    refine .inr ⟨uplinkEvaluate z.drawn, (uplinkEvaluate_evaluated (s := z.drawn) rfl).congr hu hc rfl, ?_⟩
    rw [takePath_uplink_raised hraised, pathEffect_uplink]
    exact ⟨rfl, rfl, rfl, rfl, rfl⟩
  · rw [he]
    refine .inl ((uplinkEvaluate_evaluated (s := takePath z.drawn) rfl).congr ?_ ?_ rfl)
    · rw [takePath_uplink_raised (z := z.drawn) h, pathEffect_uplink]
      exact (congrArg UplinkUnit.disturbed hu :)
    · have hcall : (takePath z.drawn).call = z.call := by simp
      rw [pathEffect_call, hcall]
      exact hc

end

end Sys2Proof.Machine


namespace Sys2Proof.Machine

/-! ## The evaluations read their own units only -/

section
variable {s w v t : State}

theorem ProtectEvaluated.congr (h : ProtectEvaluated w v) (ht : t.prot = v.prot) : ProtectEvaluated w t := by
  unfold ProtectEvaluated at h ⊢
  rw [ht]
  exact h

theorem AntennasEvaluated.congr (h : AntennasEvaluated s v) (hs : w.ant = s.ant) (hm : w.ring = s.ring)
    (ht : t.ant = v.ant) : AntennasEvaluated w t := by
  have hw : w = w.setAnt s.ant := by rw [← hs]; rfl
  rw [hw]
  unfold AntennasEvaluated at h ⊢
  rw [ht, State.setAnt_ring, hm]
  exact h

theorem SelectionEvaluated.congr (h : SelectionEvaluated s v) (hs : w.ant = s.ant) (ht : t.ant = v.ant) :
    SelectionEvaluated w t := by
  unfold SelectionEvaluated at h ⊢
  rw [ht, hs]
  exact h

theorem RadioEvaluated.congr (h : RadioEvaluated s v) (hs : w.radio = s.radio) (hr : w.ant.record = s.ant.record)
    (hd : w.draws = s.draws) (ht : t.radio = v.radio) (ha : t.ant = v.ant) : RadioEvaluated w t := by
  have hw : w = w.setRadio s.radio := by rw [← hs]; rfl
  have hv : t = t.setAnt v.ant := by rw [← ha]; rfl
  rw [hw, hv]
  unfold RadioEvaluated at h ⊢
  rw [State.setAnt_radio, ht, State.setRadio_ant, hr, State.setRadio_draws, hd]
  exact h

end

theorem selectionEvaluated_record {w v : State} (h : SelectionEvaluated w v) : v.ant.record = w.ant.record := by
  obtain ⟨-, -, hrecord, -⟩ := h
  exact hrecord

/-! ## The block's evaluations, unit by unit (R11) -/

/-- A path-change event stands at the evaluation: the gain unit's, taken at the frame's start, leaves none (R188). -/
def pathPending (early : Bool) (w : State) : Bool := !early && (w.uplink.pathRaised || reductionsMove w)

/-- The part after the frame that ends a block, from the state the crossfades leave. -/
structure BlockEnded (early : Bool) (w t : State) : Prop where
  op : t.msg.op = w.msg.op
  routes : t.mix.routes = w.mix.routes
  zones : t.mix.zones = w.mix.zones
  placement : t.call.placement = w.call.placement
  prot : t.prot = (protectEvaluate w).prot
  chan : t.chan = (protectEvaluate w).chan
  antennas : AntennasEvaluated w t
  selection : SelectionEvaluated w t
  radio : RadioEvaluated w t
  uplink : { t.uplink with
    echo := w.uplink.echo, converge := w.uplink.converge, diverge := w.uplink.diverge
    filters := w.uplink.filters, pathRaised := w.uplink.pathRaised } = w.uplink.talkMove.nextBlock
  calm : pathPending early w = false → EchoEvaluated w t
  event : pathPending early w = true → EventAtEvaluation w t

/-- What the evaluations but the uplink's leave. -/
structure UnitsEvaluated (w b : State) : Prop where
  msg : NoticesOnly w b
  frame : b.ring = w.ring ∧ b.mix = w.mix ∧ b.gain = w.gain ∧ b.call = w.call
  prot : b.prot = (protectEvaluate w).prot
  chan : b.chan = (protectEvaluate w).chan
  antennas : AntennasEvaluated w b
  selection : SelectionEvaluated w b
  radio : RadioEvaluated w b
  uplink : b.uplink = { w.uplink with pathRaised := w.uplink.pathRaised || reductionsMove w }

theorem blockEvaluations_spec (w : State) : UnitsEvaluated w (blockEvaluations w) := by
  obtain ⟨pring, pmix, pgain, pant, pradio, pcall, -, pdraws⟩ := protectEvaluate_frame w
  obtain ⟨pmsg, -, -, -, -, puplink⟩ := protectEvaluate_spec w
  obtain ⟨p, hp⟩ : ∃ p, p = protectEvaluate w := ⟨_, rfl⟩
  rw [← hp] at pring pmix pgain pant pradio pcall pdraws pmsg puplink
  obtain ⟨aring, amix, again, achan, aprot, aradio, acall, auplink, -, adraws⟩ := antennaEvaluate_frame p
  obtain ⟨-, amsg⟩ := antennaEvaluate_ant p
  have hantennas := antennaEvaluate_evaluated p
  have hselection := antennaEvaluate_selected p
  obtain ⟨a, ha⟩ : ∃ a, a = antennaEvaluate p := ⟨_, rfl⟩
  rw [← ha] at aring amix again achan aprot aradio acall auplink adraws amsg hantennas hselection
  obtain ⟨rring, rmix, rgain, rchan, rprot, rant, rcall, ruplink, -⟩ := radioEvaluate_frame a
  have heq : blockEvaluations w = radioEvaluate a := by rw [blockEvaluations, ← hp, ← ha]
  have hrecord : w.ant.record = a.ant.record := by rw [selectionEvaluated_record hselection, pant]
  rw [heq]
  refine ⟨(pmsg.trans amsg).trans (radioEvaluate_msg a), ⟨rring.trans (aring.trans pring), rmix.trans (amix.trans pmix),
    rgain.trans (again.trans pgain), rcall.trans (acall.trans pcall)⟩, by rw [rprot, aprot, hp],
    by rw [rchan, achan, hp], hantennas.congr pant.symm pring.symm rant, hselection.congr pant.symm rant,
    (radioEvaluate_evaluated rfl rant).congr (pradio.symm.trans aradio.symm) hrecord (pdraws.symm.trans adraws.symm)
      rfl rfl, ruplink.trans (auplink.trans puplink)⟩

/-! ## The end of the frame that ends a block (R11, R34, R188) -/

theorem settlePath_block (early : Bool) (s : State) :
    settlePath true early s = evaluateWithPath (if early then clearPath s else s) := rfl

theorem closed_frame (u : State) : let v := if closingDue u then closeCall u else u
    NoticesOnly u v ∧ v.mix = u.mix ∧ v.gain = u.gain ∧ v.chan = u.chan ∧ v.prot = u.prot ∧ v.ant = u.ant ∧
      v.radio = u.radio ∧ v.uplink = u.uplink ∧ v.call.placement = u.call.placement ∧
      (v.call.state = .active ↔ u.call.state = .active) := by
  dsimp only
  cases h : closingDue u with
  | false => exact ⟨rfl, rfl, rfl, rfl, rfl, rfl, rfl, rfl, rfl, Iff.rfl⟩
  | true =>
    have hstate : u.call.state = .closing := by
      simp only [closingDue, Bool.and_eq_true, beq_iff_eq] at h
      obtain ⟨⟨⟨⟨hs, -⟩, -⟩, -⟩, -⟩ := h
      exact hs
    obtain ⟨-, hmix, hgain, hchan, hprot, hant, hradio, huplink, -⟩ := closeCall_frame u
    refine ⟨rfl, hmix, hgain, hchan, hprot, hant, hradio, huplink, rfl, ?_⟩
    rw [hstate]
    exact ⟨nofun, nofun⟩

theorem endOfFrame_block {f : Frame} (hi : f.index = 63) (early : Bool) (s : State)
    (hloud : configDue (endCrossfades s) = false) :
    BlockEnded early (endCrossfades s) (endOfFrame f early s) ∧
      (endOfFrame f early s).msg.resetPhase = (endCrossfades s).msg.resetPhase := by
  obtain ⟨w, hw⟩ : ∃ w, w = endCrossfades s := ⟨_, rfl⟩
  obtain ⟨b, hb⟩ : ∃ b, b = blockEvaluations w := ⟨_, rfl⟩
  obtain ⟨u, hu⟩ : ∃ u, u = settleClaims b := ⟨_, rfl⟩
  obtain ⟨v, hv⟩ : ∃ v, v = if closingDue u then closeCall u else u := ⟨_, rfl⟩
  obtain ⟨z, hz⟩ : ∃ z, z = if early then clearPath v else v := ⟨_, rfl⟩
  have hblock : (f.index == 63) = true := beq_iff_eq.mpr hi
  have heq : endOfFrame f early s =
      if configDue (evaluateWithPath z) then reachConfig (evaluateWithPath z) else evaluateWithPath z := by
    rw [hz, ← settlePath_block, hv, hu, hb, hw]
    simp only [endOfFrame, hblock, if_true]
  obtain ⟨bmsg, ⟨-, bmix, bgain, bcall⟩, bprot, bchan, bantennas, bselection, bradio, buplink⟩ :=
    hb ▸ blockEvaluations_spec w
  obtain ⟨uroutes, uzones, umsg⟩ := hu ▸ settleClaims_rests b
  obtain ⟨-, ugain, uchan, uprot, uant, uradio, ucall, uuplink, -⟩ := hu ▸ settleClaims_frame b
  obtain ⟨vmsg, vmix, vgain, vchan, vprot, vant, vradio, vuplink, vplacement, vactive⟩ := hv ▸ closed_frame u
  have hzv : NoticesOnly v z ∧ z.mix = v.mix ∧ z.gain = v.gain ∧ z.chan = v.chan ∧ z.prot = v.prot ∧ z.ant = v.ant ∧
      z.radio = v.radio ∧ z.call = v.call := by
    rw [hz]
    split <;> exact ⟨rfl, rfl, rfl, rfl, rfl, rfl, rfl, rfl⟩
  obtain ⟨zmsg, zmix, zgain, zchan, zprot, zant, zradio, zcall⟩ := hzv
  have zuplink : z.uplink = { w.uplink with pathRaised := pathPending early w } := by
    have hvw := vuplink.trans (uuplink.trans buplink)
    rw [hz]
    cases early with
    | true => exact (congrArg (fun u : UplinkUnit => { u with pathRaised := false }) hvw :)
    | false => exact hvw
  obtain ⟨-, pmix, pgain, pchan, pprot, pant, pradio, pcall, -⟩ := evaluateWithPath_frame z
  have pmsg := evaluateWithPath_msg z
  have prest := evaluateWithPath_rest z
  have hcall : z.call.state = .active ↔ w.call.state = .active := by rw [zcall, vactive, ucall, bcall]
  have hunit : { z.uplink with pathRaised := w.uplink.pathRaised } = w.uplink := by rw [zuplink]
  have hcalm := evaluateWithPath_evaluated hunit hcall
  have hevent := evaluateWithPath_event hunit hcall
  rw [zuplink] at prest hcalm hevent
  obtain ⟨p, hp⟩ : ∃ p, p = evaluateWithPath z := ⟨_, rfl⟩
  rw [← hp] at heq pmix pgain pchan pprot pant pradio pcall pmsg prest hcalm hevent
  have hmsg : NoticesOnly w p := (((bmsg.trans umsg).trans vmsg).trans zmsg).trans pmsg
  have hgain : p.gain = w.gain := by rw [pgain, zgain, vgain, ugain, bgain]
  have hant : p.ant = b.ant := by rw [pant, zant, vant, uant]
  have hradio : p.radio = b.radio := by rw [pradio, zradio, vradio, uradio]
  have hdue : configDue p = configDue w := by
    unfold configDue
    rw [hmsg.op, hgain]
  rw [← hw] at hloud ⊢
  rw [heq, hdue, hloud, if_neg (by decide)]
  refine ⟨⟨hmsg.op, by rw [pmix, zmix, vmix, uroutes, bmix], by rw [pmix, zmix, vmix, uzones, bmix],
    by rw [pcall, zcall, vplacement, ucall, bcall], by rw [pprot, zprot, vprot, uprot, bprot],
    by rw [pchan, zchan, vchan, uchan, bchan], bantennas.congr rfl rfl hant, bselection.congr rfl hant,
    bradio.congr rfl rfl rfl hradio hant, ?_, hcalm, hevent⟩, hmsg.phase⟩
  exact (congrArg (fun u : UplinkUnit => { u with pathRaised := w.uplink.pathRaised }) prest :)

/-- A notice that enters the queue changes none of it. -/
theorem BlockEnded.noticed {early : Bool} {w t : State} (h : BlockEnded early w t) (b : Bool) :
    BlockEnded early w (enterNotice b t) := by
  obtain ⟨hop, hroutes, hzones, hplacement, hprot, hchan, hantennas, hselection, hradio, huplink, hcalm, hevent⟩ := h
  obtain ⟨-, emix, -, echan, eprot, eant, eradio, ecall, euplink, -⟩ := enterNotice_frame b t
  obtain ⟨eop, -⟩ := enterNotice_op b t
  exact ⟨eop.trans hop, by rw [emix, hroutes], by rw [emix, hzones], by rw [ecall, hplacement], eprot.trans hprot,
    echan.trans hchan, hantennas.congr rfl rfl eant, hselection.congr rfl eant, hradio.congr rfl rfl rfl eradio eant,
    by rw [euplink]; exact huplink, fun hn => (hcalm hn).congr rfl Iff.rfl euplink,
    fun hn => (hevent hn).congr euplink⟩

/-- A whole frame without a command word that ends a block, while the units run and some output sounds. -/
theorem goodFrame_block {f : Frame} {s : State} (hl : s.ring.link = .linked) (hrun : s.running = true)
    (ht : f.ctype = .idle) (hi : f.index = 63) (hphase : s.msg.resetPhase = .none)
    (hresets : ∀ m ∈ s.msg.queue, m.resets = false) (hloud : configDue (worked f s) = false) :
    BlockEnded (gainEvent s) (worked f s) (goodFrame f s) := by
  have hrunning : (adopted f s).running = true := hrun
  obtain ⟨hended, hend⟩ := endOfFrame_block hi (gainEvent s) (sounded f s) hloud
  rw [← show worked f s = endCrossfades (sounded f s) from rfl] at hended hend
  have hsettled : frameSettled f (adopted f s) = endOfFrame f (gainEvent s) (sounded f s) := by
    rw [frameSettled, hrunning, if_pos rfl, takeCommand_idle ht, gainEvent_arrived]
    refine settleReset_idle ?_
    have hnone := hend.trans ((worked_spec (f := f) hresets).phase.trans hphase)
    intro h
    exact absurd (hnone.symm.trans h) (by decide)
  have hframe : goodFrame f s = enterNotice (frameSent f (adopted f s)).msg.queue.isEmpty
      (endOfFrame f (gainEvent s) (sounded f s)) := by
    rw [goodFrame_linked hl, processFrame_eq, hsettled]
  exact hframe ▸ hended.noticed _

end Sys2Proof.Machine


namespace Sys2Proof.Machine

/-! ## What a frame's work leaves as the frame found it -/

/-- Two antenna units have the same antennas, penalties and record. -/
def AntennaUnit.SameAntennas (u v : AntennaUnit) : Prop :=
  v.antennas = u.antennas ∧ v.penalty = u.penalty ∧ v.record = u.record

theorem switchTo_antennas (u : AntennaUnit) (b : Fin 4) : u.SameAntennas (u.switchTo b) := by
  unfold AntennaUnit.switchTo
  split <;> exact ⟨rfl, rfl, rfl⟩

theorem align_antennas (u : AntennaUnit) : u.SameAntennas u.align :=
  ⟨(congrArg AntennaUnit.antennas (align_rest u) :), (congrArg AntennaUnit.penalty (align_rest u) :),
    (congrArg AntennaUnit.record (align_rest u) :)⟩

theorem changeMode_antennas (u : AntennaUnit) (m : DiversityMode) : u.SameAntennas (u.changeMode m) := by
  unfold AntennaUnit.changeMode
  split
  · exact ⟨rfl, rfl, rfl⟩
  · dsimp only
    split
    · exact ⟨rfl, rfl, rfl⟩
    · exact ⟨rfl, rfl, rfl⟩
    · next a _ _ => exact switchTo_antennas { u with mode := .fixed a } _
    · exact ⟨rfl, rfl, rfl⟩
    · exact align_antennas { u with mode := .paired, pair := bestPair u, challenge := Vector.replicate 4 0 }

theorem fadeEndedAnt_antennas (u : AntennaUnit) : u.SameAntennas (fadeEndedAnt u) := by
  unfold fadeEndedAnt
  split
  · exact changeMode_antennas { u with fade := none } _
  · exact ⟨rfl, rfl, rfl⟩

/-- The record and the peak of a channel after its part of a frame (R94). -/
theorem channelStep_peak (x : Channel) (fade : Option BankFade) (gain : Nat) (buses : Vector (Int × Int) 5) :
    (channelStep x fade gain buses).record = x.record ∧
      (channelStep x fade gain buses).peak = max x.peak (magnitude (channelStep x fade gain buses).out) := by
  have hfilter (i : Int) : (filterChannel x fade i).1.record = x.record ∧ (filterChannel x fade i).1.peak = x.peak := by
    unfold filterChannel Channel.setLive Channel.setSpare
    cases fade with
    | none => dsimp only; split <;> exact ⟨rfl, rfl⟩
    | some f => dsimp only; split <;> exact ⟨rfl, rfl⟩
  exact ⟨(hfilter _).1, congrArg (fun n => max n _) (hfilter _).2⟩

section
variable {f : Frame} {s w : State}

theorem FrameWorked.antennas (h : FrameWorked f s w) : s.ant.SameAntennas w.ant := by
  rw [h.ant]
  split
  · exact fadeEndedAnt_antennas (antennaFrame f s).ant
  · exact ⟨rfl, rfl, rfl⟩

theorem FrameWorked.powers (h : FrameWorked f s w) (a : Fin 4) : w.ant.powers[a] =
    ([3, 2, 1, 0].map fun n => power (antennaSample s.ring.slotMap f a n)) ++ s.ant.powers[a] := by
  have hblock : w.ant.powers = (antennaFrame f s).ant.powers := by
    rw [h.ant]
    split
    · obtain ⟨hpowers, -⟩ := fadeEndedAnt_block (antennaFrame f s).ant
      exact hpowers
    · rfl
  rw [hblock]
  exact antennaFrame_powers f s a

theorem FrameWorked.mode (h : FrameWorked f s w) (hp : s.ant.pendingMode = none) : w.ant.mode = s.ant.mode := by
  rw [h.ant]
  split
  · rw [fadeEndedAnt_rests (u := (antennaFrame f s).ant) (.inr hp)]
    rfl
  · rfl

theorem FrameWorked.channel (h : FrameWorked f s w) (c : Fin 28) :
    w.chan.channels[c].record = s.chan.channels[c].record ∧
      w.chan.channels[c].peak = max s.chan.channels[c].peak (magnitude w.chan.channels[c].out) := by
  have hheard := h.heard c
  have hrecord : w.chan.channels[c].record = (channelMoved f s c).record := congrArg Prod.fst hheard
  have hout : w.chan.channels[c].out = (channelMoved f s c).out :=
    congrArg (fun h : ChannelRecord × Int × Nat => h.2.1) hheard
  have hpeak : w.chan.channels[c].peak = (channelMoved f s c).peak :=
    congrArg (fun h : ChannelRecord × Int × Nat => h.2.2) hheard
  obtain ⟨srecord, speak⟩ := channelStep_peak s.chan.channels[c] (fadeOf s.chan c) (gainStep s).out[c].current
    (frameBuses f s)
  rw [hrecord, hpeak, hout]
  exact ⟨srecord, speak⟩

theorem uplinkMoved_peaks (f : Frame) (s : State) : (uplinkMoved f s).talk = s.uplink.talk ∧
    (uplinkMoved f s).nearQuiet = s.uplink.nearQuiet ∧ (uplinkMoved f s).farQuiet = s.uplink.farQuiet ∧
    (uplinkMoved f s).record = s.uplink.record ∧ s.uplink.peakF ≤ (uplinkMoved f s).peakF ∧
    s.uplink.peakR ≤ (uplinkMoved f s).peakR := by
  have hheard : (uplinkHeard f s).talk = s.uplink.talk ∧ (uplinkHeard f s).nearQuiet = s.uplink.nearQuiet ∧
      (uplinkHeard f s).farQuiet = s.uplink.farQuiet ∧ (uplinkHeard f s).record = s.uplink.record ∧
      s.uplink.peakF ≤ (uplinkHeard f s).peakF ∧ s.uplink.peakR ≤ (uplinkHeard f s).peakR := by
    unfold uplinkHeard
    generalize gainStep s = g
    generalize frameBuses f s = b
    rw [uplinkFrame_chain]
    exact ⟨rfl, rfl, rfl, rfl, le_max_left _ _, le_max_left _ _⟩
  unfold uplinkMoved
  split <;> exact hheard

theorem FrameWorked.talk (h : FrameWorked f s w) : w.uplink.talk = s.uplink.talk ∧
    w.uplink.nearQuiet = s.uplink.nearQuiet ∧ w.uplink.farQuiet = s.uplink.farQuiet ∧
    w.uplink.record = s.uplink.record ∧ s.uplink.peakF ≤ w.uplink.peakF ∧ s.uplink.peakR ≤ w.uplink.peakR := by
  rw [h.uplink.marked]
  exact uplinkMoved_peaks f s

/-- The echo state at the evaluations: the gain unit's event has taken effect. -/
theorem FrameWorked.echo (h : FrameWorked f s w) :
    (gainEvent s = true → w.uplink.echo = (pathEffect s).uplink.echo ∧
      w.uplink.converge = (pathEffect s).uplink.converge) ∧
    (gainEvent s = false → w.uplink.echo = s.uplink.echo ∧ w.uplink.converge = s.uplink.converge) := by
  obtain ⟨wecho, wconverge⟩ := h.uplink.echo
  obtain ⟨hecho, hconverge⟩ := uplinkHeard_echo f s
  refine ⟨fun he => ?_, fun he => ?_⟩
  · rw [uplinkMoved, he, if_pos rfl] at wecho wconverge
    obtain ⟨decho, dconverge⟩ := disturbed_congr hecho hconverge
    rw [pathEffect_uplink, ← decho, ← dconverge]
    exact ⟨wecho, wconverge⟩
  · rw [uplinkMoved, he, if_neg (by decide)] at wecho wconverge
    exact ⟨wecho.trans hecho, wconverge.trans hconverge⟩

end

/-! ## The obligation -/

/-- A reduction changes at the evaluation when some channel's record says so. -/
theorem reductionsMove_iff (w : State) : reductionsMove w = true ↔
    ∃ c : Fin 28, (protectEvaluate w).prot.records[c].reduction ≠ w.prot.records[c].reduction := by
  obtain ⟨-, -, -, hrecords, -⟩ := protectEvaluate_spec w
  simp only [reductionsMove, List.any_eq_true, List.mem_finRange, true_and]
  refine exists_congr fun c => ?_
  rw [hrecords, reductionMoves, decide_eq_true_eq]
  rfl

theorem BlockEnded.talk {early : Bool} {w t : State} (h : BlockEnded early w t) : TalkEvaluated w t :=
  talkMove_evaluated (congrArg UplinkUnit.talk h.uplink :) (congrArg UplinkUnit.nearQuiet h.uplink :)
    (congrArg UplinkUnit.farQuiet h.uplink :)

/-- Settles O53: the frame's work, its evaluations unit by unit, and the place of a path-change event among them. -/
theorem blockEnd : Obligations.BlockEnd := by
  intro f s hl hop ht hi hphase hresets size jump fadeEnds
  have hrunning : s.running = true :=
    running_of_units (hop.imp id fun h => h.elim .inr fun h => .inl h.1)
  have hworked : FrameWorked f s (worked f s) := worked_spec hresets
  obtain ⟨wop, -, wgain, wmix, wmap, wdraws, wcall, wprot, wradio, -, -, -, wraised, wcalm⟩ := id hworked
  have hloud : configDue (worked f s) = false := by
    refine Bool.eq_false_iff.mpr fun h => ?_
    obtain ⟨hstop, hsilent⟩ := (configDue_iff _).mp h
    rw [wop] at hstop
    rw [wgain] at hsilent
    rcases hop with h | ⟨h, -⟩ | ⟨-, c, hc⟩
    · exact absurd (h.symm.trans hstop) (by decide)
    · exact absurd (h.symm.trans hstop) (by decide)
    · exact hc (hsilent c)
  obtain ⟨igain, ichan, iprot, iant, iradio, iuplink⟩ := worked_index f s 0 hresets
  obtain ⟨iop, -⟩ := worked_spec (f := { f with index := 0 }) hresets
  have iloud : configDue (worked { f with index := 0 } s) = false := by
    rw [← hloud, configDue, configDue, iop, wop, igain]
  have hended := goodFrame_ended (f := { f with index := 0 }) hl hrunning ht
    (show (0 : Fin 64) ≠ 63 by decide) hphase hresets
  obtain ⟨tgain, -, tant, tchan, tuplink⟩ := hended.running iloud
  have hblock := goodFrame_block hl hrunning ht hi hphase hresets hloud
  have htalk := hblock.talk
  obtain ⟨bop, broutes, bzones, bplacement, bprot, bchan, bantennas, bselection, bradio, buplink, bcalm, bevent⟩ := hblock
  obtain ⟨-, -, -, -, schannels, -⟩ := protectEvaluate_spec (worked f s)
  have hchannel (c : Fin 28) : (goodFrame f s).chan.channels[c] = { (worked f s).chan.channels[c] with peak := 0 } := by
    rw [bchan, schannels]
  have hout (c : Fin 28) : (goodFrame f s).chan.channels[c].out = (worked f s).chan.channels[c].out := by rw [hchannel]
  have hsize (v : Int) : size v = magnitude v := rfl
  have hrecords : (worked f s).prot.records = s.prot.records := by rw [wprot]; rfl
  obtain ⟨hantennas, hpenalty, hantrecord⟩ := hworked.antennas
  obtain ⟨wtalk, wnear, wfar, wrecord, wpeakF, wpeakR⟩ := hworked.talk
  have hjump : jump ↔ gainEvent s = true := by
    refine Iff.trans ?_ (gainEvent_iff s).symm
    exact exists_congr fun c => (pathJump_iff _ _ _).symm
  have hcalm : ¬jump → gainEvent s = false := fun h => Bool.eq_false_iff.mpr fun he => h (hjump.mpr he)
  have hraised : (¬jump ∧ ((worked f s).uplink.pathRaised = true ∨
      ∃ c : Fin 28, (goodFrame f s).prot.records[c].reduction ≠ s.prot.records[c].reduction)) ↔
      pathPending (gainEvent s) (worked f s) = true := by
    rw [hjump, bprot, ← hrecords, ← reductionsMove_iff, pathPending]
    simp
  refine ⟨goodFrame f s, goodFrame { f with index := 0 } s, worked f s, rfl, rfl, igain.symm.trans tgain.symm,
    ichan.symm.trans tchan.symm, iprot.symm.trans hended.prot.symm, iant.symm.trans tant.symm,
    iradio.symm.trans hended.radio.symm, by rw [← iuplink]; exact tuplink, by rw [wcall], wmap, hrecords,
    by rw [wprot]; rfl, by rw [wprot]; rfl, hantennas, hpenalty, hantrecord, hworked.mode, fun c => ?_,
    fun a => ⟨?_, hworked.powers a⟩, by rw [wradio]; rfl, wtalk, wnear, wfar, wrecord, wpeakF, wpeakR, wdraws,
    (protectEvaluate_evaluated _).congr bprot, bantennas, bselection, bradio, htalk,
    fun h => hworked.echo.1 (hjump.mp h), fun h => ?_, ⟨fun h => ?_, fun h => bevent (hraised.mp h)⟩,
    fun c => by rw [hchannel], (congrArg UplinkUnit.peakF buplink :), (congrArg UplinkUnit.peakN buplink :),
    (congrArg UplinkUnit.peakR buplink :), (congrArg UplinkUnit.residuals buplink :), bop.trans wop,
    by rw [broutes, wmix], by rw [bzones, wmix], by rw [bplacement, wcall]⟩
  · obtain ⟨hrecord, hpeak⟩ := hworked.channel c
    refine ⟨hrecord, ?_⟩
    rw [hsize, hout]
    exact hpeak
  · rw [wprot]
    exact Vector.getElem_ofFn _
  · obtain ⟨hecho, hconverge⟩ := hworked.echo.2 (hcalm h)
    exact ⟨hecho, hconverge, wraised (hcalm h), wcalm (hcalm h)⟩
  · exact bcalm (Bool.eq_false_iff.mpr fun hp => h (hraised.mpr hp))

end Sys2Proof.Machine
